-- ==== Sys2Proof/Word.lean ====
section
/-! DEFINITION. The two word types of the TW-6: the bytes of its links and the readings of its time base. -/

namespace Sys2Proof

/-- One byte of a link frame (chapter 12). -/
abbrev Byte := BitVec 8

/-- A reading of the 32-bit millisecond time base (R179). -/
abbrev Time := BitVec 32

end Sys2Proof
end

