-- ==== Sys2Proof/Syntax.lean ====
section
/-! DEFINITION. The commands of the TW-6 (spec/opcode_table.json, one constructor a row) and the types of their operands.
An operand is a plain number where its rule names values that it refuses (a lane outside 1 to 6, say), an `Option` where a
code of the frame may name nothing of the table (`none`: the code names no value of the table), and a numbered thing itself
where the part's own event names it (a timer of lane 3). Things numbered from 1 in the spec are `Fin n`, index n-1. -/

namespace Sys2Proof

/-- Lanes 1 to 6 (00_scope.md, Numbering): index n-1. -/
abbrev Lane := Fin 6
/-- Teller consoles, stations 1 to 4: index n-1. -/
abbrev Console := Fin 4
/-- Alarm loops 1 to 16: index n-1. -/
abbrev LoopId := Fin 16
/-- Authority Table entries 1 to 32: index n-1. -/
abbrev AuthId := Fin 32
/-- Module Table entries 1 to 16: index n-1. -/
abbrev ModuleId := Fin 16
/-- Denomination Table entries 1 to 8: index n-1. -/
abbrev DenomId := Fin 8
/-- Cassettes 1 to 6, D and P: index is the cassette code of chapter 12 less 1, so D is 6 and P is 7. -/
abbrev CassetteId := Fin 8
/-- Where a deposited note can be stacked: cassettes 1 to 6 and D (R101). -/
abbrev StackDest := Fin 7

/-- A sending station of the Console Link: a console 1 to 4 or the supervisor, station 7. -/
inductive Station
  | console (c : Console)
  | supervisor
  deriving DecidableEq, Repr

/-- The two policy copies of a lane (R1). -/
inductive Profile
  | day
  | night
  deriving DecidableEq, Repr

/-- The seven rights of an Authority entry (R20). -/
structure Rights where
  dispense : Bool := false
  deposit : Bool := false
  tube : Bool := false
  lane : Bool := false
  second : Bool := false
  cashAdmin : Bool := false
  clear : Bool := false
  deriving DecidableEq, Repr

/-- Cassette role (R74). -/
inductive Role
  | recycle
  | dispenseOnly
  deriving DecidableEq, Repr

/-- Loop kind (R139). -/
inductive LoopKind
  | none
  | holdup
  | tamper
  | safeDoor
  | tube
  | lane
  | general
  deriving DecidableEq, Repr

/-- Loop arm mode (R139). -/
inductive ArmMode
  | always
  | onOrder
  deriving DecidableEq, Repr

/-- A loop's configured response (R139, R147). -/
inductive Response
  | duress
  | lockdown
  | laneHold
  | suspendCassettes
  | notify
  deriving DecidableEq, Repr

/-- Kind of a Module Table entry (R158). -/
inductive ModuleKind
  | recycler
  | blower
  | laneStation
  deriving DecidableEq, Repr

/-- The condition a CLEAR CONDITION or its CONFIRM names (R34, R154); `other`: neither latch. -/
inductive ConditionName
  | duress
  | lockdown
  | other
  deriving DecidableEq, Repr

/-- What RESET SHIFT names (R23); `other`: an operand that is neither an index nor ALL. -/
inductive ShiftTarget
  | index (n : Nat)
  | all
  | other
  deriving DecidableEq, Repr

/-- A table and entry as READ ENTRY and a TABLE FAULT record name them (R175). -/
inductive TableRef
  | lanePolicy (lane : Nat) (profile : Option Profile)
  | authority (index : Nat)
  | denomination (index : Nat)
  | cassette (code : Nat)
  | loop (loop : Nat)
  | module (entry : Nat)
  | screening
  | planner
  | presenter
  | deposit
  | depository
  | tube
  | bus
  deriving DecidableEq, Repr

/-- What every ORDER and MGMT frame carries: its source station and its tag (chapter 12.2). -/
structure Sender where
  station : Station
  tag : Nat
  deriving DecidableEq, Repr

/-- The fields of a WRITE ENTRY to the Lane Policy Table (R2); `serving` is the list of stations it names. -/
structure LanePolicyWrite where
  lane : Nat
  isOpen : Bool
  singleLimit : Nat
  dualThreshold : Nat
  duressCap : Nat
  envelopeDrop : Bool
  transitLimit : Nat
  serving : List Nat
  deriving DecidableEq, Repr

/-- The fields of a WRITE ENTRY to the Authority Table (R21); `rights` is none if it names anything outside the seven. -/
structure AuthorityWrite where
  index : Nat
  credential : Nat
  rights : Option Rights
  perDispense : Nat
  shiftLimit : Nat
  deriving DecidableEq, Repr

/-- The fields of a WRITE ENTRY to the Loop Table (R139). -/
structure LoopWrite where
  loop : Nat
  kind : Option LoopKind
  lane : Nat
  qualify : Nat
  armMode : Option ArmMode
  response : Option Response
  deriving DecidableEq, Repr

/-- The fields of a WRITE ENTRY to the bus setting (R160, R168). -/
structure BusWrite where
  window : Nat
  quanta : Nat
  phase2 : Nat
  jump : Nat
  deriving DecidableEq, Repr

/-- One cassette's line of a PICK REPORT body, as its bytes give it (R186). -/
structure PickItem where
  code : Nat
  picked : Nat
  rejected : Nat
  deriving DecidableEq, Repr

/-- A PICK REPORT body as its bytes give it (R186): tag, end status (1 DONE, 2 SHORT, 3 JAM), items. -/
structure PickReport where
  tag : Nat
  status : Nat
  items : List PickItem
  deriving DecidableEq, Repr

/-- A report in a poll reply (R186). A carrier report of a lane station tells of the end LANE, one of the blower cabinet of the
end TELLER (chapter 8), so the end is the reporting module's. `other`: a report kind number outside 1 to 20; `unreadable`: a
body that cannot be read to the end of its length (R187). -/
inductive ModuleReport
  | pickReport (r : PickReport)
  | taken (tag : Nat)
  | retracted (tag count : Nat)
  | cassetteOut (c : CassetteId)
  | cassetteIn (c : CassetteId)
  | noteValidated (lane : Lane) (note denom : Nat)
  | noteRejected (lane : Lane)
  | noteStacked (lane : Lane) (note : Nat) (dest : StackDest) (byDefault : Bool)
  | noteReturned (lane : Lane) (note : Nat) (ownReturn : Bool)
  | acceptEnded (lane : Lane)
  | depositJam (lane : Lane)
  | envelopeInserted (lane : Lane)
  | printed (lane : Lane) (number : Nat)
  | captured (lane : Lane) (number : Nat)
  | jammed (lane : Lane) (number : Nat)
  | ejected (lane : Lane) (number : Option Nat)
  | sendPressed (lane : Lane)
  | arrived (lane : Lane)
  | carrierSeated (lane : Lane)
  | carrierLifted (lane : Lane)
  | other (kind : Nat)
  | unreadable
  deriving DecidableEq, Repr

/-- The body of a module's frame (R186). `answer`: the answer byte of a STATUS QUERY with the PICK REPORT body that follows. -/
inductive ReplyBody
  | plain
  | answer (code : Nat) (counts : Option PickReport)
  | refusal (reason : Nat)
  | poll (condition : Nat) (reports : List ModuleReport)
  | unreadable
  deriving DecidableEq, Repr

/-- A Wall Bus frame by its fields (chapter 12.3); `checkOk`: its frame check is correct (R183). -/
structure BusReply where
  checkOk : Bool
  dest : Nat
  source : Nat
  cls : Nat
  kind : Nat
  body : ReplyBody
  deriving DecidableEq, Repr

/-- A frame taken on the Wall Bus, given as its bytes on the wire or by its fields. -/
inductive BusInput
  | wire (bytes : List Byte)
  | fields (reply : BusReply)
  deriving DecidableEq, Repr

/-- One command of the TW-6: one row of spec/opcode_table.json each, in the table's order. -/
inductive Instr
  | hardReset
  | consoleFrameReceived (bytes : List Byte)
  | reportQueueItemSent
  | signOn (h : Sender) (credential : Nat)
  | signOff (h : Sender)
  | dispenseSingle (h : Sender) (lane amount : Nat)
  | dispenseFirst (h : Sender) (lane amount : Nat)
  | dispenseSecond (h : Sender) (lane amount : Nat)
  | cancelDispense (h : Sender) (lane id : Nat)
  | openDeposit (h : Sender) (lane : Nat)
  | closeDeposit (h : Sender) (lane : Nat)
  | sendCarrier (h : Sender) (lane : Nat)
  | recallCarrier (h : Sender) (lane : Nat)
  | openLane (h : Sender) (lane : Nat)
  | closeLane (h : Sender) (lane : Nat)
  | releaseLane (h : Sender) (lane : Nat)
  | confirmExchangeCassette (h : Sender) (cassette : Nat)
  | confirmEmptyDepository (h : Sender)
  | confirmClearCondition (h : Sender) (condition : ConditionName)
  | writeEntryLanePolicy (h : Sender) (w : LanePolicyWrite)
  | writeEntryAuthority (h : Sender) (w : AuthorityWrite)
  | writeEntryDenomination (h : Sender) (index value : Nat)
  | writeEntryCassette (h : Sender) (cassette : Nat) (role : Option Role) (lowMark fillLimit : Nat)
  | writeEntryLoop (h : Sender) (w : LoopWrite)
  | writeEntryModule (h : Sender) (entry node : Nat) (kind : Option ModuleKind) (lane : Nat)
  | writeEntryScreening (h : Sender) (pairWindow rateCount rateDuration : Nat)
  | writeEntryPlanner (h : Sender) (bundle : Nat)
  | writeEntryPresenter (h : Sender) (timeout : Nat)
  | writeEntryDeposit (h : Sender) (timeout : Nat)
  | writeEntryDepository (h : Sender) (capacity : Nat)
  | writeEntryTube (h : Sender) (rest : Nat)
  | writeEntryBus (h : Sender) (w : BusWrite)
  | readEntry (h : Sender) (table : Option TableRef)
  | selectProfileWrite (h : Sender) (profile : Option Profile)
  | selectProfileOperate (h : Sender) (profile : Option Profile)
  | loadCassette (h : Sender) (cassette : Nat) (denom : Option Nat) (count : Nat)
  | reconcileCassette (h : Sender) (cassette count : Nat)
  | exchangeCassette (h : Sender) (cassette : Nat)
  | emptyDepository (h : Sender)
  | clearConditionLockdown (h : Sender)
  | clearConditionDuress (h : Sender)
  | armLoop (h : Sender) (loop : Nat)
  | disarmLoop (h : Sender) (loop : Nat)
  | ackLoop (h : Sender) (loop : Nat)
  | restoreNode (h : Sender) (node : Nat)
  | resumeRecycler (h : Sender)
  | clearTube (h : Sender) (lane : Nat)
  | resetShift (h : Sender) (target : ShiftTarget)
  | readStatus (h : Sender) (clear : Bool)
  | readJournal (h : Sender) (start : Nat)
  | drainJournal (h : Sender) (seq : Nat)
  | goService (h : Sender)
  | suspend (h : Sender)
  | restart (h : Sender)
  | pairTimerExpiry (lane : Lane)
  | managementPairTimerExpiry
  | pickReportTimerExpiry (id : Nat)
  | retractReportTimerExpiry (id : Nat)
  | presentTimerExpiry (id : Nat)
  | exchangeAuthorisationExpiry
  | idleTimerExpiry (lane : Lane)
  | endTimerExpiry (lane : Lane)
  | completionTimerExpiry (lane : Lane)
  | safeOpeningExpiry
  | restTimerExpiry
  | transitTimerExpiry (lane : Lane)
  | armTimerExpiry (loop : LoopId)
  | qualifyTimerExpiry (loop : LoopId)
  | loopReading (loop : LoopId) (reading : Nat)
  | exchangeBegin
  | wallBusReplyTaken (input : BusInput)
  | replyWindowExpiry
  | busFrameDiscarded (bytes : List Byte)
  | unknownOrderKind (h : Sender) (isMgmt : Bool) (kind : Nat) (body : List Byte)
  deriving DecidableEq, Repr

end Sys2Proof
end

