-- ==== Sys2Proof/Decode.lean ====
section
/-! DEFINITION. The command a word spells by the bits of spec/opcode_table.json. The table gives no row any bits: the commands of the
TW-6 reach it as frames of chapter 12, events and expiries, so no word spells one. -/

namespace Sys2Proof

/-- The command a word spells: none for every word, as no row of the table has bits. -/
def decodeTableWord (_nbits _w : Nat) : Option Instr := none

end Sys2Proof
end

