-- ==== Sys2Proof/Config.lean ====
section
/-! DEFINITION. The free values of the model: what the spec leaves open and no definition here may choose. Each is a constant with
no body, so nothing can be proved of its value (logs 2, 6, 7, 10, 20, 49). -/

namespace Sys2Proof

/-- The body bytes of a frame whose body chapter 12 does not lay out (log 7). -/
opaque Config.unlaidBody {α : Type} (content : α) : List Byte

/-- How the body of a module report other than PICK REPORT is read from its bytes: chapter 12.3 gives no layout (log 6).
`none`: it cannot be read to the end of its length. -/
opaque Config.readReportBody (kind : Nat) (body : List Byte) : Option ModuleReport

/-- What a register holds after a sum beyond its range where no rule says what is stored (log 10): a function of the
register's largest value and the exact sum. -/
opaque Config.beyondRange (largest exact : Nat) : Nat

/-- Whether an order's body has the length its kind calls for, where the spec does not lay the body out (R24, R175, R185; log 2):
a function of the frame type, the kind and the body. -/
opaque Config.bodyFits (isMgmt : Bool) (kind : Nat) (body : List Byte) : Bool

/-- The tag a RETRACT carries for a record whose pick tag has been dropped, of which the spec says nothing (R62, R66; log 49). -/
opaque Config.droppedTag : Nat

/-- Which of R123's ten events a CARRIER report of a soft reset names, of which the spec says nothing (R138; log 20). -/
opaque Config.resetCarrierEvent : Fin 10

end Sys2Proof
end

