-- ==== Sys2Proof/Machine/State.lean ====
section
/-! DEFINITION. Everything the spec gives the TW-6 to keep, as plain data, block by block (00_scope.md, "Inside the controller"),
and its values after a hard reset. A value the spec does not give is marked DESIGN CHOICE with its log entry. -/

namespace Sys2Proof.Machine

open Sys2Proof

/-! ## Common pieces -/

/-- A table entry's check state (`faulted`: FAULTED) and whether its stored odd-parity bits match its words (R3, R175; log 4). -/
structure Check where
  faulted : Bool := false
  parityGood : Bool := true
  deriving DecidableEq, Repr

/-- A running timer: its start reading and its duration in ms (R179). -/
structure Timer where
  start : Time
  duration : Nat
  deriving DecidableEq, Repr

/-- Result codes, in the order of their numbers (R184). -/
inductive Code
  | accepted | done | pairWait | notReady | notSignedOn | inUse | noRight | laneClosed | laneHeld | laneBusy | limit | rate
  | pairMismatch | condition | journalFull | tableFault | recyclerFault | nodeUnavailable | queueFull | purgeFull | noCash
  | noMix | carrierAbsent | depositoryFull | wrongState | badOrder
  deriving DecidableEq, Repr

/-- The twelve console orders and the MGMT orders, each in the order of its number (R184). -/
inductive OrderKind
  | signOn | signOff | dispense | cancelDispense | openDeposit | closeDeposit | sendCarrier | recallCarrier | openLane
  | closeLane | releaseLane | confirm
  | writeEntry | readEntry | selectProfile | loadCassette | reconcileCassette | exchangeCassette | emptyDepository
  | clearCondition | armLoop | disarmLoop | ackLoop | restoreNode | resumeRecycler | clearTube | resetShift | readStatus
  | readJournal | drainJournal | goService | suspend | restart
  | unknown (isMgmt : Bool) (kind : Nat)
  deriving DecidableEq, Repr

/-- One (cassette, count) item of a plan (R45). -/
structure PlanItem where
  cassette : CassetteId
  count : Nat
  deriving DecidableEq, Repr

/-! ## Lane Control -/

/-- One policy copy of a lane (R1). -/
structure PolicyCopy where
  isOpen : Bool := false
  singleLimit : Nat := 1
  dualThreshold : Nat := 999999
  duressCap : Nat := 0
  envelopeDrop : Bool := false
  transitLimit : Nat := 8000
  serving : Vector Bool 4 := Vector.replicate 4 false
  check : Check := {}
  deriving DecidableEq, Repr

/-- Lane states (1.3). -/
inductive LaneState
  | closed | idle | busy | held
  deriving DecidableEq, Repr

/-- Hold reasons (R9, R10). -/
inductive HoldReason
  | loop | node | carrier | cash | envelope
  deriving DecidableEq, Repr

/-- A lane's set of hold reasons. -/
structure Holds where
  loop : Bool := false
  node : Bool := false
  carrier : Bool := false
  cash : Bool := false
  envelope : Bool := false
  deriving DecidableEq, Repr

/-- A lane's open transaction (R8): a dispense id, or the lane's deposit slot. -/
inductive Txn
  | dispense (id : Nat)
  | deposit
  deriving DecidableEq, Repr

/-- A Lane Record (1.3); the defaults are R16's. -/
structure LaneRecord where
  state : LaneState := .closed
  txn : Option Txn := none
  holds : Holds := { node := true }
  profile : Profile := .day
  switchPending : Bool := false
  deriving DecidableEq, Repr

/-- Lane Control (chapter 1). -/
structure LaneControl where
  dayCopies : Vector PolicyCopy 6 := Vector.replicate 6 {}
  nightCopies : Vector PolicyCopy 6 := Vector.replicate 6 {}
  writeSelect : Profile := .day
  operateSelect : Profile := .day
  records : Vector LaneRecord 6 := Vector.replicate 6 {}
  deriving DecidableEq, Repr

/-! ## Order Screen -/

/-- A console's bound credential and its matched Authority index (R17). -/
structure Binding where
  credential : Nat
  index : AuthId
  deriving DecidableEq, Repr

/-- An Authority entry (R20); the defaults are R39's. -/
structure AuthorityEntry where
  credential : Nat := 0
  rights : Rights := {}
  perDispense : Nat := 1
  shiftLimit : Nat := 0
  shiftTotal : Nat := 0
  check : Check := {}
  deriving DecidableEq, Repr

/-- A stored first half of a dispense (R29); `window` in seconds. -/
structure PairHalf where
  station : Console
  credential : Nat
  index : AuthId
  amount : Nat
  tag : Nat
  arrival : Time
  window : Nat
  deriving DecidableEq, Repr

/-- The paired management operations (R34). -/
inductive MgmtOp
  | exchangeCassette (c : CassetteId)
  | emptyDepository
  | clearLockdown
  deriving DecidableEq, Repr

/-- A stored management first half (R34); `window` in seconds. -/
structure MgmtHalf where
  op : MgmtOp
  tag : Nat
  arrival : Time
  window : Nat
  deriving DecidableEq, Repr

/-- The screening settings (R28), in seconds and a count. -/
structure ScreeningSetting where
  pairWindow : Nat := 20
  rateCount : Nat := 3
  rateDuration : Nat := 60
  check : Check := {}
  deriving DecidableEq, Repr

/-- Order Screen (chapter 2). -/
structure OrderScreen where
  consoles : Vector (Option Binding) 4 := Vector.replicate 4 none
  authority : Vector AuthorityEntry 32 := Vector.replicate 32 {}
  pairSlots : Vector (Option PairHalf) 6 := Vector.replicate 6 none
  managementSlot : Option MgmtHalf := none
  rateWindows : Vector (List Time) 4 := Vector.replicate 4 []
  setting : ScreeningSetting := {}
  deriving DecidableEq, Repr

/-! ## Dispense Control -/

/-- Dispense states (chapter 4). -/
inductive DispenseState
  | queued | picking | presented | taken | inTransit
  deriving DecidableEq, Repr

/-- Outcomes decided at a pick (R58, R59). -/
inductive Decided
  | partialPay | overPay
  deriving DecidableEq, Repr

/-- A dispense record's flags (R51). -/
structure DispenseFlags where
  duress : Bool := false
  toppedUp : Bool := false
  inDoubt : Bool := false
  retractOrdered : Bool := false
  takenLate : Bool := false
  deriving DecidableEq, Repr

/-- The stage pick recovery has reached (R55, R66): `querying` while a STATUS QUERY is on the queue or unanswered, `waiting`
after a RUNNING answer. -/
inductive Recovery
  | notUnderWay | querying | waiting
  deriving DecidableEq, Repr

/-- An occupied Dispense Table record (R51). `presentedValue` is the value R56 step 5 works out; `unapplied` is the amount R49
did not take back. -/
structure DispenseRecord where
  id : Nat
  lane : Lane
  station : Console
  reportStation : Station
  credential : Nat
  index : AuthId
  tag : Nat
  amount : Nat
  plan : List PlanItem
  topUp : Option (List PlanItem) := none
  picked : Vector Nat 6 := Vector.replicate 6 0
  rejected : Vector Nat 6 := Vector.replicate 6 0
  presented : Vector Nat 6 := Vector.replicate 6 0
  presentedValue : Nat := 0
  retractCount : Option Nat := none
  state : DispenseState := .queued
  decided : Option Decided := none
  flags : DispenseFlags := {}
  charge : Nat
  unapplied : Nat := 0
  pickTag : Option Nat := none
  queryCount : Nat := 0
  reissued : Bool := false
  recovery : Recovery := .notUnderWay
  presentTimer : Option Timer := none
  reportTimer : Option Timer := none
  deriving DecidableEq, Repr

/-- A single-entry setting of one figure: presenter (R60), deposit (R95), depository (R112), tube (R128), planner (R42). -/
structure Setting where
  value : Nat
  check : Check := {}
  deriving DecidableEq, Repr

/-- Dispense Control (chapter 4); `setting` is the present timeout in seconds (R60). -/
structure DispenseControl where
  records : Vector (Option DispenseRecord) 8 := Vector.replicate 8 none
  lastId : Nat := 0
  lastTag : Nat := 0
  inDoubtLanes : List Lane := []
  setting : Setting := { value := 45 }
  deriving DecidableEq, Repr

/-! ## Cash Position -/

/-- A Denomination Table entry (R73). -/
structure Denomination where
  value : Nat := 0
  check : Check := {}
  deriving DecidableEq, Repr

/-- A cassette's suspension causes (R77). -/
structure Causes where
  loops : List LoopId := []
  fault : Bool := false
  exchange : Bool := false
  deriving DecidableEq, Repr

/-- A Cassette Table entry (R74); the defaults are R92's. One form serves 1 to 6, D and P; D and P leave the fields R74 does not
give them at their reset values. The SUSPENDED latch is present while `causes` is not empty (R77). -/
structure Cassette where
  role : Role := .dispenseOnly
  denom : Option DenomId := none
  count : Nat := 0
  lowMark : Nat := 0
  fillLimit : Nat := 2500
  inbound : Nat := 0
  out : Bool := false
  unreconciled : Bool := false
  causes : Causes := {}
  reinserted : Bool := false
  lowArmed : Bool := false
  base : Nat := 0
  picked : Nat := 0
  rejected : Nat := 0
  stacked : Nat := 0
  rejectedIn : Nat := 0
  retractedIn : Nat := 0
  check : Check := {}
  deriving DecidableEq, Repr

/-- A cassette's shown state (R76). -/
inductive Shown
  | out | unreconciled | suspended | empty | low | serving
  deriving DecidableEq, Repr

/-- Recycler states (R86). -/
inductive RecyclerState
  | ready | busy | faulted
  deriving DecidableEq, Repr

/-- The recycler's last reported condition (R86). -/
inductive RecyclerCondition
  | clear | jammed | unknown
  deriving DecidableEq, Repr

/-- The work of a Recycler Work Queue entry (R88). -/
inductive Work
  | pick (id : Nat) (plan : List PlanItem) (isTopUp : Bool)
  | accept (lane : Lane)
  deriving DecidableEq, Repr

/-- A Recycler Work Queue entry with its running mark (R88). -/
structure WorkEntry where
  work : Work
  running : Bool := false
  deriving DecidableEq, Repr

/-- The Exchange Authorisation (R83). -/
structure ExchangeAuth where
  cassette : CassetteId
  expiry : Timer
  deriving DecidableEq, Repr

/-- Cash Position (chapter 5); `planner` is the planner setting it keeps (R42). -/
structure CashPosition where
  denominations : Vector Denomination 8 := Vector.replicate 8 {}
  cassettes : Vector Cassette 8 := Vector.replicate 8 {}
  recycler : RecyclerState := .ready
  condition : RecyclerCondition := .unknown
  workQueue : List WorkEntry := []
  exchange : Option ExchangeAuth := none
  planner : Setting := { value := 60 }
  deriving DecidableEq, Repr

/-! ## Deposit Control -/

/-- Session states (chapter 6). -/
inductive SessionState
  | queued | active | ending
  deriving DecidableEq, Repr

/-- A routed note's destination (R94): a cassette or D, or RETURN. -/
inductive Dest
  | store (d : StackDest)
  | toCustomer
  deriving DecidableEq, Repr

/-- An in-transport list entry (R94). -/
structure Transit where
  note : Nat
  denom : Nat
  dest : Dest
  deriving DecidableEq, Repr

/-- End causes (R94), numbered as the detail byte of R188. -/
inductive EndCause
  | close | cap | idle | lockdown | beginLost | recyclerEnded
  deriving DecidableEq, Repr

/-- A session's flags (R94). -/
structure SessionFlags where
  duress : Bool := false
  valueUnknown : Bool := false
  defaultStack : Bool := false
  endUnconfirmed : Bool := false
  deriving DecidableEq, Repr

/-- An occupied deposit slot (R94). `lastNote` before the first note report is a DESIGN CHOICE (log 9). -/
structure Session where
  station : Console
  reportStation : Station
  credential : Nat
  index : AuthId
  tag : Nat
  state : SessionState := .queued
  accepted : Vector Nat 8 := Vector.replicate 8 0
  stacked : Vector Nat 7 := Vector.replicate 7 0
  returned : Nat := 0
  committed : Nat := 0
  transit : List Transit := []
  value : Nat := 0
  lastNote : Time := 0
  endCause : Option EndCause := none
  ended : Bool := false
  flags : SessionFlags := {}
  idleTimer : Option Timer := none
  endTimer : Option Timer := none
  deriving DecidableEq, Repr

/-- Deposit Control (chapter 6); `setting` is the idle timeout in seconds (R95). -/
structure DepositControl where
  slots : Vector (Option Session) 6 := Vector.replicate 6 none
  setting : Setting := { value := 30 }
  deriving DecidableEq, Repr

/-! ## Envelope Control -/

/-- Capture states (R111). -/
inductive CaptureState
  | printing | dropping
  deriving DecidableEq, Repr

/-- An occupied Envelope Table slot (R111). -/
structure Capture where
  number : Nat
  state : CaptureState := .printing
  start : Time
  timer : Timer
  node : Nat
  duress : Bool := false
  inDoubt : Bool := false
  deriving DecidableEq, Repr

/-- Void reasons, numbered as the detail byte of R188. -/
inductive VoidReason
  | jammed | ejected | timeout | withdrawn | refused | isolated | reset
  deriving DecidableEq, Repr

/-- The Safe Opening Authorisation (R119): WAITING with its expiry, or OPEN with its open set. -/
inductive SafeOpening
  | waiting (expiry : Timer)
  | opened (openSet : List LoopId)
  deriving DecidableEq, Repr

/-- Envelope Control (chapter 7); `setting` is the depository capacity (R112). -/
structure EnvelopeControl where
  slots : Vector (Option Capture) 6 := Vector.replicate 6 none
  counter : Nat := 1
  count : Nat := 0
  setting : Setting := { value := 400 }
  safe : Option SafeOpening := none
  deriving DecidableEq, Repr

/-! ## Tube Scheduler -/

/-- Carrier locations (R123). -/
inductive Location
  | teller | outbound | lane | inbound | unknown
  deriving DecidableEq, Repr

/-- Why a location became UNKNOWN (R123). -/
inductive UnknownCause
  | start | overdue | cleared | isolated | reset
  deriving DecidableEq, Repr

/-- The two ends of a tube. -/
inductive TubeEnd
  | teller | lane
  deriving DecidableEq, Repr

/-- A Carrier Record (R123). Cash-bearing is the presence of the bound dispense id, which is "present exactly while
cash-bearing is yes". The start time at reset is a DESIGN CHOICE (log 9). -/
structure Carrier where
  location : Location := .unknown
  seated : Bool := false
  bound : Option Nat := none
  cause : Option UnknownCause := some .start
  moveStart : Time := 0
  timer : Option Timer := none
  deriving DecidableEq, Repr

/-- Directions of a request (R124). -/
inductive Direction
  | toLane | toTeller
  deriving DecidableEq, Repr

/-- Who asked for a movement (R124). -/
inductive Origin
  | station (st : Station)
  | customer
  deriving DecidableEq, Repr

/-- A Tube Queue request (R124). -/
structure Request where
  lane : Lane
  direction : Direction
  origin : Origin
  arrival : Time
  deriving DecidableEq, Repr

/-- The blower state (R129). -/
inductive Blower
  | idle
  | moving (lane : Lane)
  | resting (timer : Timer)
  deriving DecidableEq, Repr

/-- Tube Scheduler (chapter 8); `setting` is the rest time in ms (R128). -/
structure TubeScheduler where
  carriers : Vector Carrier 6 := Vector.replicate 6 {}
  requests : List Request := []
  blower : Blower := .idle
  setting : Setting := { value := 300 }
  deriving DecidableEq, Repr

/-! ## Alarm Supervisor -/

/-- Bands of a loop reading (R141). -/
inductive Band
  | shorted | secure | active | cut
  deriving DecidableEq, Repr

/-- Groups of a band (R141). -/
inductive BandGroup
  | secure | active | fault
  deriving DecidableEq, Repr

/-- Loop states (R142). -/
inductive LoopState
  | disarmed | arming | watching | qualifying | tripped
  deriving DecidableEq, Repr

/-- What a TRIPPED loop keeps (R142): trip cause, applied response or responses, trip time. -/
structure Trip where
  cause : BandGroup
  applied : List Response
  time : Time
  deriving DecidableEq, Repr

/-- A Loop Table entry: its configuration with R139's defaults and its runtime part (R142). `reading` is the latest reading,
which a LOOP TRIP record carries (R146); its value at reset is a DESIGN CHOICE (log 9). -/
structure Loop where
  kind : LoopKind := .none
  lane : Nat := 0
  qualify : Nat := 200
  armMode : ArmMode := .always
  response : Response := .notify
  check : Check := {}
  state : LoopState := .disarmed
  band : Option Band := none
  reading : Nat := 0
  candidate : Option (BandGroup × Time) := none
  qualifyTimer : Option Timer := none
  armTimer : Option Timer := none
  armFailed : Bool := false
  trip : Option Trip := none
  deriving DecidableEq, Repr

/-- Alarm Supervisor (chapter 9): the Loop Table, the two latches and the two output pins. -/
structure AlarmSupervisor where
  loops : Vector Loop 16 := Vector.replicate 16 {}
  duress : Bool := false
  lockdown : Bool := false
  silentOutput : Bool := false
  localOutput : Bool := false
  deriving DecidableEq, Repr

/-- The wall condition (R152). -/
inductive Condition
  | normal | duress | lockdown
  deriving DecidableEq, Repr

/-! ## Wall Bus Controller -/

/-- Health states (R158). -/
inductive Health
  | active | watch | restricted | isolated
  deriving DecidableEq, Repr

/-- A Module Table entry (R158); the defaults are R169's. -/
structure Module where
  node : Nat := 0
  kind : ModuleKind := .laneStation
  lane : Nat := 1
  orderErrors : Nat := 0
  replyErrors : Nat := 0
  health : Health := .active
  mark96 : Bool := false
  mark128 : Bool := false
  mark256 : Bool := false
  check : Check := {}
  deriving DecidableEq, Repr

/-- The Wall Bus orders (R186) with what their rules say they carry. -/
inductive BusOrder
  | pick (tag : Nat) (items : List PlanItem)
  | retract (tag : Nat)
  | statusQuery (tag : Nat)
  | acceptBegin (lane : Lane)
  | route (note : Nat) (dest : Dest)
  | acceptEnd (lane : Lane)
  | capture (lane : Lane) (number : Nat)
  | eject (lane : Lane)
  | blowerMove (lane : Lane) (direction : Direction)
  | blowerStop
  | binCount (bin : CassetteId) (count : Nat)
  | lockBays
  | unlockBays
  | denominations (values : List Nat)
  deriving DecidableEq, Repr

/-- What a frame to a module is (chapter 12.3, classes 1 to 3). -/
inductive Content
  | order (o : BusOrder)
  | poll
  | probe
  deriving DecidableEq, Repr

/-- The blocks that place frames (R161). -/
inductive Owner
  | dispense | deposit | cash | envelope | tube | management | bus
  deriving DecidableEq, Repr

/-- A frame of the outgoing queue: its node, its order and its owner (R161). `live` is cleared when the session or movement an
ACCEPT BEGIN or a BLOWER MOVE was placed for has ended, so that its result changes no other (R97; log 14). -/
structure Frame where
  node : Nat
  content : Content
  owner : Owner
  live : Bool := true
  deriving DecidableEq, Repr

/-- The bit timing in force for an exchange (R168), with its defaults. -/
structure BusTiming where
  quanta : Nat := 16
  phase2 : Nat := 5
  jump : Nat := 2
  deriving DecidableEq, Repr

/-- The exchange outstanding (R160, R161): its frame, whether it is a resend, and the reply window and bit timing it began under,
which it finishes under (R168). -/
structure Exchange where
  frame : Frame
  isResend : Bool
  window : Timer
  timing : BusTiming
  deriving DecidableEq, Repr

/-- A node restore in progress (R166). -/
structure Restore where
  node : Nat
  run : Nat := 0
  probes : Nat := 0
  goods : Nat := 0
  deriving DecidableEq, Repr

/-- The bus setting (R160, R168). -/
structure BusSetting where
  window : Nat := 10
  quanta : Nat := 16
  phase2 : Nat := 5
  jump : Nat := 2
  check : Check := {}
  deriving DecidableEq, Repr

/-- Wall Bus Controller (chapter 10). `busTx` holds the bytes of the frame last sent (DESIGN CHOICE: the model's view of the
line, log 8). -/
structure BusController where
  modules : Vector Module 16 := Vector.replicate 16 {}
  outgoing : List Frame := []
  resend : Option Frame := none
  outstanding : Option Exchange := none
  ringPos : Nat := 0
  restores : List Restore := []
  setting : BusSetting := {}
  busTx : List Byte := []
  deriving DecidableEq, Repr

/-! ## Journal -/

/-- The kinds of journal record, each named as the rules write it. -/
inductive RecordKind
  | tableWrite | tableFault | profileSwitch | laneOpen | laneClose | hold | release
  | signOn | signOff | shiftReset | pairFirst | pairComplete | pairBroken | pairExpired
  | admitted | pick | latePickReport | topUp | excess | taken | takenLate | lateTaken | lateRetracted | reIssue | bound
  | delivered | retracted | cancelled | partialPay | overPay | inDoubt | presented
  | cassetteLow | load | reconcile | exchangeOpen | exchangeEnd | cassetteOut | cassetteIn | unauthorisedRemoval
  | recyclerFault | recyclerResume
  | sessionOpen | strayNote | defaultStack | strayStack | routeNotFollowed | strayEnd | strayJam | closed
  | envelopeRefused | envelopeAdmitted | envelopePrinted | captured | void | lateCapture | latePrinted | lateJammed
  | envelopeReturned | safeOpen | safeDoorOpened | emptied | safeClose
  | requestRemoved | sendIgnored | carrierMove | blowerRefused | carrierArrived | strayCarrier | carrierOverdue
  | carrierCleared | lateArrival
  | loopArmed | armFailed | loopDisarmed | loopTrip | loopAck | conditionSet | conditionClear
  | strayReport | queueOverflow | nodeHealth | nodeRestore
  | goServiceFailed | partState | reset
  deriving DecidableEq, Repr

/-- A record's flags, bits 0 to 11 of R188. -/
structure RecordFlags where
  duress : Bool := false
  toppedUp : Bool := false
  inDoubt : Bool := false
  takenLate : Bool := false
  refundUnapplied : Bool := false
  reset : Bool := false
  defaultStack : Bool := false
  endUnconfirmed : Bool := false
  valueUnknown : Bool := false
  wrongEnd : Bool := false
  partialPay : Bool := false
  overPay : Bool := false
  deriving DecidableEq, Repr

/-- Causes and conditions that records and reports name. -/
inductive Cause
  | loop (l : LoopId)
  | removal (c : CassetteId)
  | expiry | cassetteIn | lockdown | softReset
  | refused | withdrawn | silent | damaged | nodeIsolated
  | notSeated | alreadyQueued | noBlower
  | isolated | overdue
  deriving DecidableEq, Repr

/-- Results of a node restore (R166). -/
inductive RestoreResult
  | restored | failed | abandoned
  deriving DecidableEq, Repr

/-- Facts a rule puts in a record for which R188 gives no field (log 11). -/
inductive Fact
  | table (t : TableRef)
  | stored (values : List Nat)
  | profiles (old new : Profile)
  | reason (h : HoldReason)
  | reasons (h : Holds)
  | station2 (station credential authIndex : Nat)
  | tag (t : Nat)
  | tags (old new : Nat)
  | amount (n : Nat)
  | cassette (c : CassetteId)
  | cause (c : Cause)
  | code (c : Code)
  | note (n denom : Nat)
  | dest (d : Dest)
  | node (n : Nat)
  | order (c : Content)
  | errors (order reply threshold : Nat)
  | direction (d : Direction)
  | tubeEnd (e : TubeEnd)
  | unknownCause (c : UnknownCause)
  | loop (l : LoopId)
  | band (b : Option Band)
  | trip (kind : LoopKind) (lane : Nat) (cause : BandGroup) (applied : List Response) (reading : Nat)
  | condition (c : Condition)
  | restore (r : RestoreResult) (probes goods : Nat)
  | moduleReason (n : Nat)
  | reportKind (n : Nat)
  | repeated
  deriving DecidableEq, Repr

/-- What a writing rule gives a record (R170): "Fields a rule does not fill are 0 or empty". `items` holds cassette codes. -/
structure Entry where
  kind : RecordKind
  lane : Nat := 0
  station : Nat := 0
  credential : Nat := 0
  authIndex : Nat := 0
  value : Nat := 0
  noteCount : Nat := 0
  items : List (Nat × Nat) := []
  flags : RecordFlags := {}
  detail : Nat := 0
  facts : List Fact := []
  deriving DecidableEq, Repr

/-- A journal record: its sequence, its time stamp and its contents (R170). -/
structure JournalRecord where
  seq : Nat
  time : Time
  entry : Entry
  deriving DecidableEq, Repr

/-- Journal (R170). The ring holds the undrained records, oldest first: the drain fence is the first, and the free count is 512
less their number (`Journal.free`). -/
structure Journal where
  ring : List JournalRecord := []
  nextSeq : Nat := 1
  reserved : Nat := 0
  overrun : Nat := 0
  deriving DecidableEq, Repr

/-! ## Management -/

/-- Part states (11.7). -/
inductive PartState
  | unconfigured | inService | suspended
  deriving DecidableEq, Repr

/-- The sticky attention causes (R177). -/
structure Sticky where
  journalOverrun : Bool := false
  tableFault : Bool := false
  reportLost : Bool := false
  nodeWatch : Bool := false
  cassetteLow : Bool := false
  deriving DecidableEq, Repr

/-- Management (chapter 11): part state, time base, a pending GO SERVICE (R180) and the sticky causes. -/
structure Management where
  partState : PartState := .unconfigured
  timeBase : Time := 0
  goPending : Bool := false
  sticky : Sticky := {}
  deriving DecidableEq, Repr

/-! ## Reports and responses -/

/-- Events of a DISPENSE report (R53); `outcome`: that of the record written. -/
inductive DispenseEvent
  | queued | picking | inDoubt | toppingUp | presented | taken | inTransit | backAtTeller | partialPay | overPay
  | outcome (k : RecordKind)
  deriving DecidableEq, Repr

/-- Events of a DEPOSIT report (R109). -/
inductive DepositEvent
  | active
  | ending (cause : EndCause)
  | closed
  | inDoubt (count value : Nat)
  deriving DecidableEq, Repr

/-- Events of an ENVELOPE report (R113 to R118). -/
inductive EnvelopeEvent
  | refused (reason : Code)
  | capturing
  | captured
  | void (reason : VoidReason)
  | lateCapture | latePrinted | lateJammed | envelopeReturned
  deriving DecidableEq, Repr

/-- Events of a CARRIER report (R123). -/
inductive CarrierEvent
  | queued | removed | moving | arrived | overdue | lateArrival | seated | lifted | refused | cleared
  deriving DecidableEq, Repr

/-- The report kinds, in the order of their numbers (R184), with what each carries. A flags field is `none` in a console's copy. -/
inductive Report
  | dispense (id lane : Nat) (event : DispenseEvent) (code : Option Code) (value notes : Nat) (flags : Option DispenseFlags)
  | deposit (slot : Nat) (event : DepositEvent) (code : Option Code) (accepted : Vector Nat 8) (value returned : Nat)
      (flags : Option SessionFlags)
  | envelope (lane : Nat) (event : EnvelopeEvent) (number : Option Nat) (count : Nat) (duressInDoubt : Option (Bool × Bool))
  | carrier (lane : Nat) (event : CarrierEvent) (location : Location) (seated cashBearing : Bool) (bound : Option Nat)
      (code : Option Code)
  | laneState (lane : Nat) (state : LaneState) (holds : Holds) (profile : Profile) (pending : Bool)
  | loop (loop : LoopId) (state : LoopState) (band : Option Band) (trip : Option Fact)
  | wallCondition (condition : Condition) (latches : Option (Bool × Bool))
  | cassetteState (cassette : CassetteId) (state : Shown) (count inbound : Nat)
  | recyclerState (state : RecyclerState)
  | depository (count capacity inProgress : Nat)
  | nodeHealth (node orderErrors replyErrors threshold : Nat)
  | nodeRestore (node : Nat) (result : RestoreResult) (probes goods : Nat)
  | partState (state : PartState)
  | signedOff
  | brokenPair
  | pairExpired
  | pairComplete (id : Option Nat) (code : Code)
  | pairRefused (code : Code)
  | exchangeEnd (cassette : CassetteId) (cause : Cause)
  | goServiceFailed (cause : Cause)
  deriving DecidableEq, Repr

/-- A Module Table line of READ STATUS (R178). -/
structure ModuleStatus where
  node : Nat
  health : Health
  orderErrors : Nat
  replyErrors : Nat
  deriving DecidableEq, Repr

/-- A cassette line of READ STATUS (R178). -/
structure CassetteStatus where
  shown : Shown
  count : Nat
  inbound : Nat
  deriving DecidableEq, Repr

/-- The READ STATUS response (R178, R152, R50). -/
structure Status where
  partState : PartState
  timeBase : Time
  attention : List Nat
  attentionCode : Nat
  consoleCode : Nat
  condition : Condition
  duress : Bool
  lockdown : Bool
  silentOutput : Bool
  localOutput : Bool
  loops : Vector Loop 16
  topLoop : Option (LoopId × LoopKind × Trip)
  lanes : Vector LaneRecord 6
  writeSelect : Profile
  operateSelect : Profile
  cassettes : List CassetteStatus
  dispensable : Nat
  wallNotes : Nat
  recycler : RecyclerState
  recyclerCondition : RecyclerCondition
  workQueue : List WorkEntry
  dispenses : List DispenseRecord
  sessions : Vector (Option Session) 6
  captures : Vector (Option Capture) 6
  envelopeCounter : Nat
  depositoryCount : Nat
  depositoryCapacity : Nat
  carriers : Vector Carrier 6
  tubeQueue : List Request
  blower : Blower
  modules : List ModuleStatus
  fence : Nat
  newest : Nat
  free : Nat
  reserved : Nat
  overrun : Nat
  deriving DecidableEq, Repr

/-- A table entry as READ ENTRY returns it (R175): its stored values with its check state. -/
inductive EntryData
  | lanePolicy (c : PolicyCopy)
  | authority (e : AuthorityEntry)
  | denomination (d : Denomination)
  | cassette (c : Cassette)
  | loop (l : Loop)
  | module (m : Module)
  | screening (x : ScreeningSetting)
  | single (x : Setting)
  | bus (x : BusSetting)
  deriving DecidableEq, Repr

/-- What a response's body carries. -/
inductive ResponseBody
  | empty
  | dispenseId (n : Nat)
  | slot (n : Nat)
  | entry (e : EntryData)
  | status (x : Status)
  | journal (records : List JournalRecord) (fence newest free reserved overrun : Nat)
  | drained (fence free : Nat)
  deriving DecidableEq, Repr

/-- A Report Queue item's frame (R176): a response with the order's kind, or a report. -/
inductive Payload
  | response (kind : OrderKind) (code : Code) (body : ResponseBody)
  | report (r : Report)
  deriving DecidableEq, Repr

/-- A Report Queue item: a frame to one station, with the tag it repeats (R176). -/
structure Item where
  dest : Station
  tag : Nat
  payload : Payload
  deriving DecidableEq, Repr

/-- A frame waiting in the receive buffer (R185), by its header and body. -/
structure ConsoleFrame where
  station : Station
  isMgmt : Bool
  tag : Nat
  kind : Nat
  body : List Byte
  deriving DecidableEq, Repr

/-- Console Link Interface (R176, R185). `rxPartial` holds the bytes of the frame being received, from its start marker;
empty: between frames. `held`: places held for responses. `consoleTx`: the bytes last sent (DESIGN CHOICE: the model's view of
the line, log 8). -/
structure Link where
  rxPartial : List Byte := []
  rxBuffer : List ConsoleFrame := []
  reports : List Item := []
  held : Nat := 0
  consoleTx : List Byte := []
  deriving DecidableEq, Repr

/-! ## The whole part -/

/-- The state of the TW-6: the commands waiting, and what each block keeps. -/
structure State where
  pending : List Instr := []
  link : Link := {}
  screen : OrderScreen := {}
  lanes : LaneControl := {}
  dispense : DispenseControl := {}
  cash : CashPosition := {}
  deposit : DepositControl := {}
  envelope : EnvelopeControl := {}
  tube : TubeScheduler := {}
  alarm : AlarmSupervisor := {}
  bus : BusController := {}
  journal : Journal := {}
  mgmt : Management := {}
  deriving DecidableEq, Repr

/-- The part after a hard reset, with no command waiting: R4, R16, R39, R42, R71, R92, R110, R122, R138, R156, R169, R170, R182. -/
def State.reset : State := {}

/-- Reasons a run of the part stops. The TW-6 has none of its own: every command of the table has an effect in every state, so
no meaning answers with a fault (safe: a claim about a next state covers every step). -/
inductive Fault
  /-- Raised by no meaning: it stands here because the type needs a value. -/
  | neverRaised
  deriving DecidableEq, Repr

/-- Refusals of the model, as distinct from the part's result codes. -/
inductive Refusal
  /-- Raised by `exec` for a command with no meaning yet (safe: nothing is claimed of it). -/
  | notModelled (mnemonic : String)
  deriving DecidableEq, Repr

end Sys2Proof.Machine
end

