-- ==== Sys2Proof/Machine/Operands.lean ====
section
/-! DEFINITION. Numbers the spec counts from 1, the codes of chapter 12, clamps, and sums that leave a register's range. -/

namespace Sys2Proof.Machine

open Sys2Proof

/-- Thing number n of k, if n is 1 to k (00_scope.md, Numbering). -/
def numbered (k n : Nat) : Option (Fin k) :=
  if h : 1 ≤ n ∧ n ≤ k then some ⟨n - 1, by omega⟩ else none

/-- The number of a numbered thing. -/
def numberOf {k : Nat} (i : Fin k) : Nat := i.val + 1

/-- Station numbers (00_scope.md, Numbering). -/
def stationNumber : Station → Nat
  | .console c => numberOf c
  | .supervisor => 7

/-- The deposit cassette D, code 7. -/
def cassetteD : CassetteId := 6
/-- The purge bin P, code 8. -/
def cassetteP : CassetteId := 7

/-- Cassettes 1 to 6, as against D and P. -/
def isWork (c : CassetteId) : Bool := decide (c.val < 6)

/-- The cassette of a stacking destination (R101). -/
def stackCassette (d : StackDest) : CassetteId := ⟨d.val, by omega⟩

/-- Cassette code 9 is RETURN (chapter 12). -/
def Dest.code : Dest → Nat
  | .store d => d.val + 1
  | .toCustomer => 9

/-- A value below `lo` becomes `lo`, and one above `hi` becomes `hi`. -/
def clamp (lo hi n : Nat) : Nat := if n < lo then lo else if hi < n then hi else n

/-- A sum kept in a register: exact within its range; beyond it no rule says what is stored, so a free value of that range
(log 10). -/
def narrow (largest exact : Nat) : Nat :=
  if exact ≤ largest then exact else Config.beyondRange largest exact % (largest + 1)

/-- The range of the 32-bit tallies and of the session value (R74, R94). -/
def max32 : Nat := 4294967295

/-- Result codes are numbered from 0 in the order of R184. -/
def Code.number : Code → Nat
  | .accepted => 0 | .done => 1 | .pairWait => 2 | .notReady => 3 | .notSignedOn => 4 | .inUse => 5 | .noRight => 6
  | .laneClosed => 7 | .laneHeld => 8 | .laneBusy => 9 | .limit => 10 | .rate => 11 | .pairMismatch => 12
  | .condition => 13 | .journalFull => 14 | .tableFault => 15 | .recyclerFault => 16 | .nodeUnavailable => 17
  | .queueFull => 18 | .purgeFull => 19 | .noCash => 20 | .noMix => 21 | .carrierAbsent => 22 | .depositoryFull => 23
  | .wrongState => 24 | .badOrder => 25

/-- ORDER kinds and MGMT kinds, each numbered from 1 in the order of R184. -/
def OrderKind.number : OrderKind → Nat
  | .signOn => 1 | .signOff => 2 | .dispense => 3 | .cancelDispense => 4 | .openDeposit => 5 | .closeDeposit => 6
  | .sendCarrier => 7 | .recallCarrier => 8 | .openLane => 9 | .closeLane => 10 | .releaseLane => 11 | .confirm => 12
  | .writeEntry => 1 | .readEntry => 2 | .selectProfile => 3 | .loadCassette => 4 | .reconcileCassette => 5
  | .exchangeCassette => 6 | .emptyDepository => 7 | .clearCondition => 8 | .armLoop => 9 | .disarmLoop => 10
  | .ackLoop => 11 | .restoreNode => 12 | .resumeRecycler => 13 | .clearTube => 14 | .resetShift => 15
  | .readStatus => 16 | .readJournal => 17 | .drainJournal => 18 | .goService => 19 | .suspend => 20 | .restart => 21
  | .unknown _ k => k

/-- Whether the kind is a MGMT order (frame type 2) or an ORDER (frame type 1). -/
def OrderKind.isMgmt : OrderKind → Bool
  | .signOn | .signOff | .dispense | .cancelDispense | .openDeposit | .closeDeposit | .sendCarrier | .recallCarrier
  | .openLane | .closeLane | .releaseLane | .confirm => false
  | .unknown m _ => m
  | _ => true

/-- Report kinds are numbered from 1 in the order of R184. -/
def Report.number : Report → Nat
  | .dispense .. => 1 | .deposit .. => 2 | .envelope .. => 3 | .carrier .. => 4 | .laneState .. => 5 | .loop .. => 6
  | .wallCondition .. => 7 | .cassetteState .. => 8 | .recyclerState .. => 9 | .depository .. => 10
  | .nodeHealth .. => 11 | .nodeRestore .. => 12 | .partState .. => 13 | .signedOff => 14 | .brokenPair => 15
  | .pairExpired => 16 | .pairComplete .. => 17 | .pairRefused .. => 18 | .exchangeEnd .. => 19
  | .goServiceFailed .. => 20

/-- Wall Bus order kinds are numbered from 1 in the order of R186. -/
def BusOrder.number : BusOrder → Nat
  | .pick .. => 1 | .retract .. => 2 | .statusQuery .. => 3 | .acceptBegin .. => 4 | .route .. => 5 | .acceptEnd .. => 6
  | .capture .. => 7 | .eject .. => 8 | .blowerMove .. => 9 | .blowerStop => 10 | .binCount .. => 11 | .lockBays => 12
  | .unlockBays => 13 | .denominations .. => 14

/-- The end cause in the detail byte of a deposit outcome (R188). -/
def EndCause.number : EndCause → Nat
  | .close => 1 | .cap => 2 | .idle => 3 | .lockdown => 4 | .beginLost => 5 | .recyclerEnded => 6

/-- The void reason in the detail byte of a VOID record (R188). -/
def VoidReason.number : VoidReason → Nat
  | .jammed => 1 | .ejected => 2 | .timeout => 3 | .withdrawn => 4 | .refused => 5 | .isolated => 6 | .reset => 7

/-- The flag bits of a journal record as read out (R188). -/
def RecordFlags.bits (f : RecordFlags) : Nat :=
  f.duress.toNat + 2 * f.toppedUp.toNat + 4 * f.inDoubt.toNat + 8 * f.takenLate.toNat + 16 * f.refundUnapplied.toNat
    + 32 * f.reset.toNat + 64 * f.defaultStack.toNat + 128 * f.endUnconfirmed.toNat + 256 * f.valueUnknown.toNat
    + 512 * f.wrongEnd.toNat + 1024 * f.partialPay.toNat + 2048 * f.overPay.toNat

/-- A record kind's "name in capitals as this manual writes it" (R188). -/
def RecordKind.name : RecordKind → String
  | .tableWrite => "TABLE WRITE" | .tableFault => "TABLE FAULT" | .profileSwitch => "PROFILE SWITCH"
  | .laneOpen => "LANE OPEN" | .laneClose => "LANE CLOSE" | .hold => "HOLD" | .release => "RELEASE"
  | .signOn => "SIGN ON" | .signOff => "SIGN OFF" | .shiftReset => "SHIFT RESET" | .pairFirst => "PAIR FIRST"
  | .pairComplete => "PAIR COMPLETE" | .pairBroken => "PAIR BROKEN" | .pairExpired => "PAIR EXPIRED"
  | .admitted => "ADMITTED" | .pick => "PICK" | .latePickReport => "LATE PICK REPORT" | .topUp => "TOP-UP"
  | .excess => "EXCESS" | .taken => "TAKEN" | .takenLate => "TAKEN LATE" | .lateTaken => "LATE TAKEN"
  | .lateRetracted => "LATE RETRACTED" | .reIssue => "RE-ISSUE" | .bound => "BOUND" | .delivered => "DELIVERED"
  | .retracted => "RETRACTED" | .cancelled => "CANCELLED" | .partialPay => "PARTIAL" | .overPay => "OVER"
  | .inDoubt => "IN DOUBT" | .presented => "PRESENTED" | .cassetteLow => "CASSETTE LOW" | .load => "LOAD"
  | .reconcile => "RECONCILE" | .exchangeOpen => "EXCHANGE OPEN" | .exchangeEnd => "EXCHANGE END"
  | .cassetteOut => "CASSETTE OUT" | .cassetteIn => "CASSETTE IN" | .unauthorisedRemoval => "UNAUTHORISED REMOVAL"
  | .recyclerFault => "RECYCLER FAULT" | .recyclerResume => "RECYCLER RESUME" | .sessionOpen => "SESSION OPEN"
  | .strayNote => "STRAY NOTE" | .defaultStack => "DEFAULT STACK" | .strayStack => "STRAY STACK"
  | .routeNotFollowed => "ROUTE NOT FOLLOWED" | .strayEnd => "STRAY END" | .strayJam => "STRAY JAM"
  | .closed => "CLOSED" | .envelopeRefused => "ENVELOPE REFUSED" | .envelopeAdmitted => "ENVELOPE ADMITTED"
  | .envelopePrinted => "ENVELOPE PRINTED" | .captured => "CAPTURED" | .void => "VOID"
  | .lateCapture => "LATE CAPTURE" | .latePrinted => "LATE PRINTED" | .lateJammed => "LATE JAMMED"
  | .envelopeReturned => "ENVELOPE RETURNED" | .safeOpen => "SAFE OPEN" | .safeDoorOpened => "SAFE DOOR OPENED"
  | .emptied => "EMPTIED" | .safeClose => "SAFE CLOSE" | .requestRemoved => "REQUEST REMOVED"
  | .sendIgnored => "SEND IGNORED" | .carrierMove => "CARRIER MOVE" | .blowerRefused => "BLOWER REFUSED"
  | .carrierArrived => "CARRIER ARRIVED" | .strayCarrier => "STRAY CARRIER" | .carrierOverdue => "CARRIER OVERDUE"
  | .carrierCleared => "CARRIER CLEARED" | .lateArrival => "LATE ARRIVAL" | .loopArmed => "LOOP ARMED"
  | .armFailed => "ARM FAILED" | .loopDisarmed => "LOOP DISARMED" | .loopTrip => "LOOP TRIP" | .loopAck => "LOOP ACK"
  | .conditionSet => "CONDITION SET" | .conditionClear => "CONDITION CLEAR" | .strayReport => "STRAY REPORT"
  | .queueOverflow => "QUEUE OVERFLOW" | .nodeHealth => "NODE HEALTH" | .nodeRestore => "NODE RESTORE"
  | .goServiceFailed => "GO SERVICE FAILED" | .partState => "PART STATE" | .reset => "RESET"

/-- A reading's band (R141). -/
def bandOf (reading : Nat) : Band :=
  if reading < 150 then .shorted else if reading < 400 then .secure else if reading < 800 then .active else .cut

/-- A band's group (R141). -/
def Band.group : Band → BandGroup
  | .shorted | .cut => .fault
  | .secure => .secure
  | .active => .active

end Sys2Proof.Machine
end

