-- ==== Sys2Proof/Machine/Ops.lean ====
section
/-! DEFINITION. The operations every block shares: time and timers, access to each block's state, the journal, the Report Queue,
table checks, the Module Table's look-ups and the outgoing frame queue. -/

namespace Sys2Proof.Machine

open Sys2Proof

/-! ## Access to the blocks -/

def State.mapLink (s : State) (f : Link → Link) : State := { s with link := f s.link }
def State.mapScreen (s : State) (f : OrderScreen → OrderScreen) : State := { s with screen := f s.screen }
def State.mapLanes (s : State) (f : LaneControl → LaneControl) : State := { s with lanes := f s.lanes }
def State.mapDispense (s : State) (f : DispenseControl → DispenseControl) : State := { s with dispense := f s.dispense }
def State.mapCash (s : State) (f : CashPosition → CashPosition) : State := { s with cash := f s.cash }
def State.mapDeposit (s : State) (f : DepositControl → DepositControl) : State := { s with deposit := f s.deposit }
def State.mapEnvelope (s : State) (f : EnvelopeControl → EnvelopeControl) : State := { s with envelope := f s.envelope }
def State.mapTube (s : State) (f : TubeScheduler → TubeScheduler) : State := { s with tube := f s.tube }
def State.mapAlarm (s : State) (f : AlarmSupervisor → AlarmSupervisor) : State := { s with alarm := f s.alarm }
def State.mapBus (s : State) (f : BusController → BusController) : State := { s with bus := f s.bus }
def State.mapJournal (s : State) (f : Journal → Journal) : State := { s with journal := f s.journal }
def State.mapMgmt (s : State) (f : Management → Management) : State := { s with mgmt := f s.mgmt }

/-- Apply an operation to each item of a list in turn. -/
def State.forEach {α : Type} (s : State) (items : List α) (f : State → α → State) : State := items.foldl f s

/-! ## Time (R179) -/

/-- The ms from `start` to `now`, modulo 2^32 (R179). -/
def age (now start : Time) : Nat := (now - start).toNat

/-- A running timer expires when its age reaches its duration (R179). -/
def timerDue (t : Option Timer) (now : Time) : Bool :=
  match t with
  | some t => decide (t.duration ≤ age now t.start)
  | none => false

/-- A timer whose expiry lies in the past: the event that tests it comes too late whichever is taken first (log 3). -/
def Timer.past (t : Timer) (now : Time) : Bool := decide (t.duration < age now t.start)

/-- The time base now. -/
def State.now (s : State) : Time := s.mgmt.timeBase

/-- The time base counts up by 1, and follows 4,294,967,295 with 0 (R179). -/
def State.tick (s : State) : State := s.mapMgmt fun m => { m with timeBase := m.timeBase + 1 }

/-- A timer of `ms` started now. -/
def State.timer (s : State) (ms : Nat) : Timer := { start := s.now, duration := ms }

/-! ## The wall condition (R152) -/

/-- LOCKDOWN before DURESS before NORMAL. -/
def State.condition (s : State) : Condition :=
  if s.alarm.lockdown then .lockdown else if s.alarm.duress then .duress else .normal

/-- The condition as consoles see it. -/
def State.consoleCondition (s : State) : Condition := if s.alarm.lockdown then .lockdown else .normal

/-! ## Sticky attention causes (R177) -/

def State.mapSticky (s : State) (f : Sticky → Sticky) : State := s.mapMgmt fun m => { m with sticky := f m.sticky }
def State.raiseTableFault (s : State) : State := s.mapSticky fun k => { k with tableFault := true }
def State.raiseReportLost (s : State) : State := s.mapSticky fun k => { k with reportLost := true }
def State.raiseOverrun (s : State) : State := s.mapSticky fun k => { k with journalOverrun := true }
def State.raiseNodeWatch (s : State) : State := s.mapSticky fun k => { k with nodeWatch := true }
def State.raiseCassetteLow (s : State) : State := s.mapSticky fun k => { k with cassetteLow := true }

/-! ## The journal (R170, R171, R172) -/

/-- The free count: slots that hold no undrained record. -/
def Journal.free (j : Journal) : Nat := 512 - j.ring.length

/-- The sequence after n (R170). -/
def nextSequence (n : Nat) : Nat := if n = 4294967295 then 1 else n + 1

/-- The record takes the next sequence number and the time base reading (R171). -/
def Journal.append (j : Journal) (now : Time) (e : Entry) : Journal :=
  { j with ring := j.ring ++ [{ seq := j.nextSeq, time := now, entry := e }], nextSeq := nextSequence j.nextSeq }

/-- "If the duress latch is set when a record is written, the record carries the flag DURESS" (R171, R153). -/
def State.stamped (s : State) (e : Entry) : Entry :=
  { e with flags := { e.flags with duress := e.flags.duress || s.alarm.duress } }

/-- Write a record that is not an outcome: into an unreserved free slot, or dropped and counted (R171). -/
def State.record (s : State) (e : Entry) : State :=
  if s.journal.reserved < s.journal.free then s.mapJournal fun j => j.append s.now (s.stamped e)
  else (s.mapJournal fun j => { j with overrun := min (j.overrun + 1) 65535 }).raiseOverrun

/-- Write an outcome record into its reserved slot (R171). -/
def State.outcome (s : State) (e : Entry) : State :=
  s.mapJournal fun j => { j.append s.now (s.stamped e) with reserved := j.reserved - 1 }

/-- Reserve one outcome slot (R172). -/
def State.reserve (s : State) : State := s.mapJournal fun j => { j with reserved := j.reserved + 1 }

/-- Journal admission: free slots minus reserved slots exceeds 16 (R172). -/
def State.journalAdmits (s : State) : Bool := decide (s.journal.reserved + 16 < s.journal.free)

/-! ## Table checks (R175) -/

/-- What a mismatch does beside marking the entry: the sticky cause and the record naming it (R175; log 5). DESIGN CHOICE: found by a
console's order, the record still carries no station or credential, and the Authority index only to name the entry (log 89). -/
def State.tableFault (s : State) (t : TableRef) : State :=
  s.raiseTableFault.record
    { kind := .tableFault
      lane := match t with | .lanePolicy l _ => l | _ => 0
      authIndex := match t with | .authority i => i | _ => 0
      facts := [.table t] }

/-- A checked entry: a mismatch makes it FAULTED (R175). -/
def Check.read (c : Check) : Check := { c with faulted := c.faulted || !c.parityGood }

/-- A rewritten entry is OK (R175). -/
def Check.fresh : Check := {}

/-- The parity recomputed by the hardware's own change; the check state stays (R75). -/
def Check.recomputed (c : Check) : Check := { c with parityGood := true }

/-! ## The Report Queue (R176) -/

/-- Items of the queue, counting held places. -/
def Link.used (k : Link) : Nat := k.reports.length + k.held

/-- Place a report: discarded with REPORT LOST raised when the queue holds 64 items (R176). -/
def State.send (s : State) (dest : Station) (tag : Nat) (r : Report) : State :=
  if s.link.used < 64 then
    s.mapLink fun k => { k with reports := k.reports ++ [{ dest := dest, tag := tag, payload := .report r }] }
  else s.raiseReportLost

/-- A report to station 7 alone. -/
def State.send7 (s : State) (r : Report) : State := s.send .supervisor 0 r

/-- A report to a station "with a copy to station 7" (R176): two items, or one where the station is 7. -/
def State.sendCopied (s : State) (dest : Station) (tag : Nat) (own copy : Report) : State :=
  match dest with
  | .supervisor => s.send .supervisor tag copy
  | .console c => (s.send (.console c) tag own).send .supervisor tag copy

/-- The consoles that are signed on, in station order. -/
def State.signedOn (s : State) : List Console :=
  (List.finRange 4).filter fun c => (s.screen.consoles[c]).isSome

/-- A report to every console that is signed on. -/
def State.sendSignedOn (s : State) (r : Report) : State :=
  s.forEach s.signedOn fun s c => s.send (.console c) 0 r

/-! ## Orders and their responses (R24, R175, R176) -/

/-- An order's answer: the state after it, its result code and its response body. -/
structure Answer where
  state : State
  code : Code
  body : ResponseBody := .empty

/-- An answer with an empty body. -/
def answer (s : State) (c : Code) : Answer := { state := s, code := c }

/-- Fill the held place with the response, behind the reports the event queued (R176). -/
def State.respond (s : State) (h : Sender) (kind : OrderKind) (a : Code) (body : ResponseBody) : State :=
  s.mapLink fun k =>
    { k with
      held := k.held - 1
      reports := k.reports ++ [{ dest := h.station, tag := h.tag, payload := .response kind a body }] }

/-- Whether a body's length fits its order's kind, where the spec does not lay the body out (R24, R175, R185; log 2). -/
def OrderKind.fits (kind : OrderKind) (body : List Byte) : Bool := Config.bodyFits kind.isMgmt kind.number body

/-- Whether a waiting frame is the one an order command stands for: its header, and a body of the order's form (log 2). -/
def ConsoleFrame.isOf (f : ConsoleFrame) (h : Sender) (kind : OrderKind) (form : List Byte → Bool) : Bool :=
  decide (f.station = h.station ∧ f.tag = h.tag ∧ f.isMgmt = kind.isMgmt ∧ f.kind = kind.number) && form f.body

/-- Take the oldest waiting frame of the order out of the receive buffer and hold a place for its response (R176; log 2). A frame
whose body is not of the order's form stays for the command it stands for (R185). -/
def State.takeFrame (s : State) (h : Sender) (kind : OrderKind) (form : List Byte → Bool := kind.fits) : State :=
  s.mapLink fun k => { k with rxBuffer := k.rxBuffer.eraseP (fun f => f.isOf h kind form), held := k.held + 1 }

/-- An order is taken only while the Report Queue holds fewer than 64 items; until then its frame waits (R176). -/
def State.takeOrder (s : State) (h : Sender) (kind : OrderKind) (act : State → Answer)
    (form : List Byte → Bool := kind.fits) : State :=
  if s.link.used < 64 then
    let a := act (s.takeFrame h kind form)
    a.state.respond h kind a.code a.body
  else s

/-- A management order: "A MGMT frame from any station other than 7 is answered NO RIGHT and changes nothing" (R175). -/
def State.takeMgmt (s : State) (h : Sender) (kind : OrderKind) (act : State → Answer) : State :=
  s.takeOrder h kind fun s => if h.station = .supervisor then act s else answer s .noRight

/-! ## Checks taken in order -/

/-- One check: the state after it (a checked read may fault an entry) and the refusal, if it fails. -/
abbrev Step := State → State × Option Code

/-- Checks in order; the first failure gives the result. -/
def State.checks (s : State) : List Step → State × Option Code
  | [] => (s, none)
  | f :: fs =>
    match f s with
    | (s, some c) => (s, some c)
    | (s, none) => s.checks fs

/-- A check that reads nothing with parity: it fails with a code unless the condition holds. -/
def need (p : State → Bool) (c : Code) : Step := fun s => (s, if p s then none else some c)

/-! ## The Module Table's look-ups (R158) -/

/-- The first entry in use with a property; an entry whose node is 0 counts as no entry (R158). -/
def State.findModule (s : State) (p : Module → Bool) : Option ModuleId :=
  (List.finRange 16).find? fun i => s.bus.modules[i].node != 0 && p s.bus.modules[i]

/-- The RECYCLER entry. -/
def State.recyclerEntry (s : State) : Option ModuleId := s.findModule fun m => m.kind == .recycler

/-- The BLOWER entry. -/
def State.blowerEntry (s : State) : Option ModuleId := s.findModule fun m => m.kind == .blower

/-- The lane's station node: the lowest-numbered LANE STATION entry that names it (R10). -/
def State.stationEntry (s : State) (l : Lane) : Option ModuleId :=
  s.findModule fun m => m.kind == .laneStation && m.lane == numberOf l

/-- The entry that holds a node. -/
def State.nodeEntry (s : State) (node : Nat) : Option ModuleId := s.findModule fun m => m.node == node

/-- The health of an entry, if there is one. -/
def State.healthOf (s : State) (i : Option ModuleId) : Option Health := i.map fun i => s.bus.modules[i].health

/-- ACTIVE or WATCH. -/
def Health.good (h : Health) : Bool := h == .active || h == .watch

/-- An entry exists and is ACTIVE or WATCH. -/
def State.entryGood (s : State) (i : Option ModuleId) : Bool := (s.healthOf i).any Health.good

/-- An entry exists and is RESTRICTED or ISOLATED. -/
def State.entryPoor (s : State) (i : Option ModuleId) : Bool := (s.healthOf i).any fun h => !h.good

/-- An entry exists and is not ISOLATED. -/
def State.entryReachable (s : State) (i : Option ModuleId) : Bool := (s.healthOf i).any fun h => h != .isolated

/-! ## Exchange results (R160) -/

/-- How an exchange ended, as its owner is told (R160): a refusal carries the module's reason (R186). -/
inductive Result
  | good
  | refused (reason : Nat)
  | silent
  | damaged
  deriving DecidableEq, Repr

/-! ## The outgoing frame queue (R161) -/

/-- Place a frame; the Bool says whether it joined. "A frame placed when the queue already holds 48 frames is not queued" and a
QUEUE OVERFLOW record names its node and order (R161), and DESIGN CHOICE: nothing of a console whose order placed it (log 89). -/
def State.place (s : State) (f : Frame) : State × Bool :=
  if s.bus.outgoing.length < 48 then (s.mapBus fun b => { b with outgoing := b.outgoing ++ [f] }, true)
  else (s.record { kind := .queueOverflow, facts := [.node f.node, .order f.content] }, false)

/-- Place an order for an entry's node; with no entry there is no node to address and nothing is placed (log 12). The Bool is
false where the owner takes the order as an exchange ending SILENT (R161). -/
def State.placeFor (s : State) (entry : Option ModuleId) (owner : Owner) (o : BusOrder) : State × Bool :=
  match entry with
  | some i => s.place { node := s.bus.modules[i].node, content := .order o, owner := owner }
  | none => (s, true)

/-- Place an order whose owner does nothing on a SILENT exchange. -/
def State.post (s : State) (entry : Option ModuleId) (owner : Owner) (o : BusOrder) : State := (s.placeFor entry owner o).1

/-- Mark frames, queued, due for a resend or outstanding, so that their results act on nothing (log 14). -/
def State.retireIf (s : State) (p : Content → Bool) : State :=
  let dead := fun (f : Frame) => if p f.content then { f with live := false } else f
  s.mapBus fun b =>
    { b with
      outgoing := b.outgoing.map dead
      resend := b.resend.map dead
      outstanding := b.outstanding.map fun x => { x with frame := dead x.frame } }

/-- Mark the frames of one order (log 14). -/
def State.retire (s : State) (o : BusOrder) : State := s.retireIf fun c => c == .order o

end Sys2Proof.Machine
end

