-- ==== Sys2Proof/Machine/Lanes.lean ====
section
/-! DEFINITION. Lane Control (chapter 1): the Lane Policy Table and its check, the settling of Lane Records, hold reasons,
transactions, profile adoption, and LANE STATE reports. -/

namespace Sys2Proof.Machine

open Sys2Proof

/-- A policy copy of a lane (R1). -/
def LaneControl.copy (k : LaneControl) (p : Profile) (l : Lane) : PolicyCopy :=
  match p with
  | .day => k.dayCopies[l]
  | .night => k.nightCopies[l]

/-- Replace a policy copy. -/
def LaneControl.setCopy (k : LaneControl) (p : Profile) (l : Lane) (c : PolicyCopy) : LaneControl :=
  match p with
  | .day => { k with dayCopies := k.dayCopies.set l c }
  | .night => { k with nightCopies := k.nightCopies.set l c }

/-- A Lane Record. -/
def State.laneRec (s : State) (l : Lane) : LaneRecord := s.lanes.records[l]

/-- Change a Lane Record. -/
def State.mapLane (s : State) (l : Lane) (f : LaneRecord → LaneRecord) : State :=
  s.mapLanes fun k => { k with records := k.records.set l (f k.records[l]) }

/-- The lane's copy in force (R1). -/
def State.policy (s : State) (l : Lane) : PolicyCopy := s.lanes.copy (s.laneRec l).profile l

/-- The open field as it is read: a FAULTED copy reads no (R3). -/
def PolicyCopy.readsOpen (c : PolicyCopy) : Bool := c.isOpen && !c.check.faulted

/-- The parity check of one copy (R3). -/
def State.checkCopy (s : State) (p : Profile) (l : Lane) : State :=
  let c := s.lanes.copy p l
  if c.check.parityGood then s
  else (s.mapLanes fun k => k.setCopy p l { c with check := c.check.read }).tableFault (.lanePolicy (numberOf l) (some p))

/-- Whether a set of hold reasons is not empty. -/
def Holds.any (h : Holds) : Bool := h.loop || h.node || h.carrier || h.cash || h.envelope

/-- Whether it holds a latched reason: any but NODE (R15). -/
def Holds.latched (h : Holds) : Bool := h.loop || h.carrier || h.cash || h.envelope

/-- Membership of a hold reason. -/
def Holds.has (h : Holds) : HoldReason → Bool
  | .loop => h.loop
  | .node => h.node
  | .carrier => h.carrier
  | .cash => h.cash
  | .envelope => h.envelope

/-- Add a hold reason. -/
def Holds.add (h : Holds) : HoldReason → Holds
  | .loop => { h with loop := true }
  | .node => { h with node := true }
  | .carrier => { h with carrier := true }
  | .cash => { h with cash := true }
  | .envelope => { h with envelope := true }

/-- The settling table (R7). -/
def settledState (r : LaneRecord) (readsOpen : Bool) : LaneState :=
  if r.state = .closed then .closed
  else if r.txn = none ∧ readsOpen = false then .closed
  else if r.holds.any then .held
  else if r.txn.isSome then .busy
  else .idle

/-- Settle a lane (R7). -/
def State.settle (s : State) (l : Lane) : State :=
  s.mapLane l fun r => { r with state := settledState r (s.policy l).readsOpen }

/-- The LANE STATE report of a lane as it stands (R11). -/
def State.laneReport (s : State) (l : Lane) : Report :=
  let r := s.laneRec l
  .laneState (numberOf l) r.state r.holds r.profile r.switchPending

/-- The serving set of the lane's copy in force, in station order. -/
def State.servingOf (s : State) (l : Lane) : List Console :=
  (List.finRange 4).filter fun c => (s.policy l).serving[c]

/-- A report to the serving consoles of the lane's copy in force, with a copy to station 7 (R114, R123; log 15). -/
def State.sendServing (s : State) (l : Lane) (tag : Nat) (own copy : Report) : State :=
  (s.forEach (s.servingOf l) fun s c => s.send (.console c) tag own).send .supervisor tag copy

/-- Queue the LANE STATE report a change calls for (R11). The choice of destinations reads the copy in force with its check, and
a copy found FAULTED there closes a lane with no transaction (R3), so the lane is settled again before it is reported. DESIGN
CHOICE: the report's tag is 0, in an order's own event too (log 79). -/
def State.announce (s : State) (l : Lane) (before : LaneRecord) : State :=
  let r := s.laneRec l
  if r.state ≠ before.state ∨ r.holds ≠ before.holds then
    let s := if (s.policy l).check.faulted then s else s.checkCopy r.profile l
    let s := s.settle l
    if (s.policy l).check.faulted then s.send7 (s.laneReport l)
    else s.sendServing l 0 (s.laneReport l) (s.laneReport l)
  else if r.switchPending ≠ before.switchPending then s.send7 (s.laneReport l)
  else s

/-- Read the copy in force for a use of R1: its check is made, and a lane whose copy is FAULTED is settled toward CLOSED (R3). -/
def State.usePolicy (s : State) (l : Lane) : State :=
  let before := s.laneRec l
  let s := s.checkCopy before.profile l
  if (s.policy l).check.faulted then (s.settle l).announce l before else s

/-- Settle the lane and report the change since `before`. -/
def State.settleAndAnnounce (s : State) (l : Lane) (before : LaneRecord) : State := (s.settle l).announce l before

/-- Post a latched hold reason to a lane (R9). DESIGN CHOICE: the HOLD record carries nothing of a console whose order brings it
(log 89). -/
def State.postHold (s : State) (l : Lane) (h : HoldReason) : State :=
  let before := s.laneRec l
  if before.holds.has h then s
  else
    ((s.mapLane l fun r => { r with holds := r.holds.add h }).record
      { kind := .hold, lane := numberOf l, facts := [.reason h] }).settleAndAnnounce l before

/-- Whether the condition of the level reason NODE stands (R10). -/
def State.nodeStands (s : State) (l : Lane) : Bool :=
  match s.healthOf (s.stationEntry l) with
  | none => true
  | some h => !h.good

/-- Re-evaluate NODE for a lane (R10). DESIGN CHOICE: the RELEASE record, of which R10 names NODE alone, fills the lane too (log 90). -/
def State.evaluateNode (s : State) (l : Lane) : State :=
  let before := s.laneRec l
  if s.nodeStands l = before.holds.node then s
  else if s.nodeStands l then
    ((s.mapLane l fun r => { r with holds := { r.holds with node := true } }).record
      { kind := .hold, lane := numberOf l, facts := [.reason .node] }).settleAndAnnounce l before
  else
    ((s.mapLane l fun r => { r with holds := { r.holds with node := false } }).record
      { kind := .release, lane := numberOf l, facts := [.reason .node] }).settleAndAnnounce l before

/-- Re-evaluate NODE for every lane (R10). -/
def State.evaluateNodes (s : State) : State := s.forEach (List.finRange 6) State.evaluateNode

/-- A lane adopts Profile Operate Select (R5), whose caller has found it without a transaction: an open field that
reads no closes it. DESIGN CHOICE: the record carries nothing of a console whose order brings it (log 89). -/
def State.adopt (s : State) (l : Lane) : State :=
  let old := (s.laneRec l).profile
  let new := s.lanes.operateSelect
  let s := s.mapLane l fun r => { r with profile := new, switchPending := false }
  let s := s.record { kind := .profileSwitch, lane := numberOf l, facts := [.profiles old new] }
  let s := s.checkCopy new l
  if (s.lanes.copy new l).readsOpen then s else s.mapLane l fun r => { r with state := .closed }

/-- Open a transaction on a lane (R8). -/
def State.openTxn (s : State) (l : Lane) (t : Txn) : State :=
  let before := s.laneRec l
  (s.mapLane l fun r => { r with txn := some t }).settleAndAnnounce l before

/-- Close the lane's transaction (R8, steps 2 to 5); the outcome's own hold has been posted before. An adoption that leaves the state
as it was is told to station 7 as a cleared switch-pending flag (R11; log 46). -/
def State.closeTxn (s : State) (l : Lane) : State :=
  let before := s.laneRec l
  let s := s.mapLane l fun r => { r with txn := none }
  let s := if before.switchPending then s.adopt l else s.checkCopy before.profile l
  s.settleAndAnnounce l before

/-- A dispense's or session's lane leaves the in-doubt lane set when its CASH reason is cleared (R69). -/
def State.leaveInDoubt (s : State) (l : Lane) : State :=
  s.mapDispense fun d => { d with inDoubtLanes := d.inDoubtLanes.filter (· ≠ l) }

/-- SELECT PROFILE OPERATE for one lane (R6). -/
def State.operateLane (s : State) (l : Lane) : State :=
  let before := s.laneRec l
  if before.profile = s.lanes.operateSelect then
    (s.mapLane l fun r => { r with switchPending := false }).announce l before
  else if before.txn = none then (s.adopt l).announce l before
  else (s.mapLane l fun r => { r with switchPending := true }).announce l before

end Sys2Proof.Machine
end

