-- ==== Sys2Proof/Machine/Cassettes.lean ====
section
/-! DEFINITION. Cash Position's tables (chapter 5): denominations, cassettes with their shown states, movements and checks, and
the cash-position sums (R50). -/

namespace Sys2Proof.Machine

open Sys2Proof

/-! ## Denominations (R73) -/

/-- The value an entry gives a plan, a sum or a tally: 0 while FAULTED (R73). -/
def Denomination.usable (d : Denomination) : Nat := if d.check.faulted then 0 else d.value

/-- The parity check of a Denomination Table entry (R73). -/
def State.checkDenomination (s : State) (i : DenomId) : State :=
  let d := s.cash.denominations[i]
  if d.check.parityGood then s
  else
    (s.mapCash fun k => { k with denominations := k.denominations.set i { d with check := d.check.read } }).tableFault
      (.denomination (numberOf i))

/-! ## Cassettes (R74 to R80) -/

/-- A Cassette Table entry. -/
def State.cassette (s : State) (c : CassetteId) : Cassette := s.cash.cassettes[c]

/-- The SUSPENDED latch: present while the suspension causes are not empty (R77). -/
def Cassette.suspended (k : Cassette) : Bool := !k.causes.loops.isEmpty || k.causes.fault || k.causes.exchange

/-- The fixed capacities (R74). -/
def capacity (c : CassetteId) : Nat := if isWork c then 2500 else if c = cassetteD then 3000 else 300

/-- The shown state: the first that applies (R76). For D and P step 5 is passed over. -/
def Cassette.shown (k : Cassette) (c : CassetteId) : Shown :=
  if k.out then .out
  else if k.unreconciled then .unreconciled
  else if k.suspended then .suspended
  else if k.count = 0 then .empty
  else if isWork c ∧ k.count ≤ k.lowMark then .low
  else .serving

/-- The CASSETTE STATE report of a cassette (R76). -/
def State.cassetteReport (s : State) (c : CassetteId) : Report :=
  let k := s.cassette c
  .cassetteState c (k.shown c) k.count k.inbound

/-- Change a cassette; "Each change of shown state queues a CASSETTE STATE report to station 7" (R76). -/
def State.mapCassette (s : State) (c : CassetteId) (f : Cassette → Cassette) : State :=
  let before := (s.cassette c).shown c
  let s := s.mapCash fun k => { k with cassettes := k.cassettes.set c (f k.cassettes[c]) }
  if (s.cassette c).shown c = before then s else s.send7 (s.cassetteReport c)

/-- The parity check of a Cassette Table entry: a mismatch makes it FAULTED and suspends it (R75). FAULT joining the causes is a
change of Cash Position's own, so the parity is recomputed with it; the entry stays FAULTED. -/
def State.checkCassette (s : State) (c : CassetteId) : State :=
  if (s.cassette c).check.parityGood then s
  else
    (s.mapCassette c fun k =>
      { k with check := k.check.read.recomputed, causes := { k.causes with fault := true } }).tableFault (.cassette (numberOf c))

/-- A change Cash Position itself makes to an entry: the parity is recomputed with it (R75). DESIGN CHOICE: every event in which
it acts on the entry recomputes it, one that leaves each field as it was too (log 4). -/
def State.changeCassette (s : State) (c : CassetteId) (f : Cassette → Cassette) : State :=
  s.mapCassette c fun k => { f k with check := k.check.recomputed }

/-- UNRECONCILED joins a cassette's latches. -/
def State.markUnreconciled (s : State) (c : CassetteId) : State := s.changeCassette c fun k => { k with unreconciled := true }

/-- Low armed after a movement, LOAD or RECONCILE: yes when the count is above the low mark (R78). -/
def Cassette.rearmed (k : Cassette) : Cassette := if k.lowMark < k.count then { k with lowArmed := true } else k

/-- A movement of cassettes 1 to 6 takes the count from above the low mark to at or below it while low armed is yes (R78). -/
def crossesLow (c : CassetteId) (before after : Cassette) : Bool :=
  decide (isWork c ∧ before.lowArmed ∧ before.lowMark < before.count ∧ after.count ≤ after.lowMark)

/-- A movement on a cassette's count: the change, the parity recomputed (R75), and CASSETTE LOW (R78). -/
def State.move (s : State) (c : CassetteId) (f : Cassette → Cassette) : State :=
  let before := s.cassette c
  let after := f before
  let low := crossesLow c before after
  let s := s.mapCassette c fun _ =>
    { (if low then { after with lowArmed := false } else if isWork c then after.rearmed else after) with
      check := after.check.recomputed }
  if low then s.raiseCassetteLow.record { kind := .cassetteLow, facts := [.cassette c] } else s

/-- What one cassette's line of a pick report does to its count and tallies (R79). -/
def Cassette.debit (k : Cassette) (picked rejected : Nat) : Cassette :=
  if k.out || k.unreconciled then k
  else
    { k with
      count := k.count - (picked + rejected)
      unreconciled := decide (k.count < picked + rejected)
      picked := narrow max32 (k.picked + picked)
      rejected := narrow max32 (k.rejected + rejected) }

/-- A credit to P: its count and a tally rise. A credit beyond its capacity leaves the count at capacity and latches
UNRECONCILED (R76's law, R91; log 16). -/
def Cassette.creditPurge (k : Cassette) (n : Nat) (retract : Bool) : Cassette :=
  { k with
    count := min (k.count + n) (capacity cassetteP)
    unreconciled := k.unreconciled || decide (capacity cassetteP < k.count + n)
    rejectedIn := if retract then k.rejectedIn else narrow max32 (k.rejectedIn + n)
    retractedIn := if retract then narrow max32 (k.retractedIn + n) else k.retractedIn }

/-- Credit P with rejected or retracted notes (R79, R80), its entry read with its check (R75). -/
def State.creditPurge (s : State) (n : Nat) (retract : Bool) : State :=
  (s.checkCassette cassetteP).move cassetteP fun k => k.creditPurge n retract

/-- Apply a pick report's figures: each cassette named is debited, and P is credited with the rejects (R79). -/
def State.debitPick (s : State) (items : List (CassetteId × Nat × Nat)) : State :=
  let s := s.forEach items fun s i => (s.checkCassette i.1).move i.1 fun k => k.debit i.2.1 i.2.2
  s.creditPurge (items.map fun i => i.2.2).sum false

/-- A stacked note's credit (R80): OUT or UNRECONCILED leave count and tally; at capacity the count stays, the tally rises and
UNRECONCILED is latched.
`routed`: an inbound note of this cassette falls, stopping at 0. -/
def Cassette.creditStack (k : Cassette) (c : CassetteId) (routed : Bool) : Cassette :=
  let k := { k with inbound := if routed then k.inbound - 1 else k.inbound }
  if k.out || k.unreconciled then k
  else
    let k := { k with stacked := narrow max32 (k.stacked + 1) }
    if capacity c ≤ k.count then { k with unreconciled := true } else { k with count := k.count + 1 }

/-- Credit a stack, the entry read with its check (R75, R80). -/
def State.creditStack (s : State) (c : CassetteId) (routed : Bool) : State :=
  (s.checkCassette c).move c fun k => k.creditStack c routed

/-- A route raises the destination's inbound count (R80). -/
def State.raiseInbound (s : State) (c : CassetteId) : State :=
  s.changeCassette c fun k => { k with inbound := k.inbound + 1 }

/-- A routed note given up or gone elsewhere lowers it again (R80). -/
def State.lowerInbound (s : State) (c : CassetteId) : State :=
  s.changeCassette c fun k => { k with inbound := k.inbound - 1 }

/-- What a LOAD or a RECONCILE sets: count clamped to the capacity, base, tallies, latches and causes it clears, check state,
low armed (R81, R82). -/
def Cassette.restarted (k : Cassette) (c : CassetteId) (count : Nat) : Cassette :=
  let n := min count (capacity c)
  let k := { k with
    count := n, base := n, picked := 0, rejected := 0, stacked := 0, rejectedIn := 0, retractedIn := 0
    unreconciled := false, causes := { k.causes with fault := false }, check := Check.fresh }
  if isWork c then k.rearmed else k

/-- The items a LOAD or RECONCILE record lists: the old base, then each tally the cassette keeps in the order of R74 (R188). -/
def Cassette.accountItems (k : Cassette) (c : CassetteId) : List (Nat × Nat) :=
  let code := numberOf c
  if isWork c then [(code, k.base), (code, k.picked), (code, k.rejected), (code, k.stacked)]
  else if c = cassetteD then [(code, k.base), (code, k.stacked)]
  else [(code, k.base), (code, k.rejectedIn), (code, k.retractedIn)]

/-! ## Values of notes and the sums (R50) -/

/-- The value of a cassette's denomination as it stands: nothing for none, an unused or a FAULTED entry. -/
def State.valueOf (s : State) (c : CassetteId) : Nat :=
  match (s.cassette c).denom with
  | some d => (s.cash.denominations[d]).usable
  | none => 0

/-- Check the denomination a cassette names, if any (R73). -/
def State.checkValueOf (s : State) (c : CassetteId) : State :=
  match (s.cassette c).denom with
  | some d => s.checkDenomination d
  | none => s

/-- Cassettes 1 to 6. -/
def workCassettes : List CassetteId := [0, 1, 2, 3, 4, 5]

/-- SERVING or LOW. -/
def Shown.pays (x : Shown) : Bool := x == .serving || x == .low

/-- Dispensable value (R50), saturating at 4,294,967,295. -/
def State.dispensable (s : State) : Nat :=
  min (workCassettes.map fun c =>
    if ((s.cassette c).shown c).pays then (s.cassette c).count * s.valueOf c else 0).sum max32

/-- Wall note total (R50), saturating. -/
def State.wallNotes (s : State) : Nat := min ((List.finRange 8).map fun c => (s.cassette c).count).sum max32

/-- CASSETTE UNRECONCILED stands while any cassette, D or P has UNRECONCILED in its latches (R76). -/
def State.anyUnreconciled (s : State) : Bool := (List.finRange 8).any fun c => (s.cassette c).unreconciled

/-! ## Work in flight (R81) -/

/-- The occupied dispense records, in table order. -/
def State.dispenses (s : State) : List DispenseRecord := s.dispense.records.toList.filterMap id

/-- The occupied deposit slots, in lane order. -/
def State.sessions (s : State) : List Session := s.deposit.slots.toList.filterMap id

/-- Whether a plan names a cassette. -/
def planNames (plan : List PlanItem) (c : CassetteId) : Bool := plan.any fun i => i.cassette == c

/-- Work in flight for a cassette (R81). -/
def State.workInFlight (s : State) (c : CassetteId) : Bool :=
  (s.dispenses.any fun r =>
      (r.state == .queued || r.state == .picking) && (planNames r.plan c || (r.topUp.any fun p => planNames p c)))
    || decide (0 < (s.cassette c).inbound)
    || (decide (c = cassetteD) && s.sessions.any fun x => x.state == .active || x.state == .ending)
    || (decide (c = cassetteP) && s.dispenses.any fun r => r.state == .picking || r.state == .presented)

end Sys2Proof.Machine
end

