-- ==== Sys2Proof/Machine/Mix.lean ====
section
/-! DEFINITION. The Mix Planner (chapter 3): eligibility, the NO CASH pre-check, the greedy run, the bounded search, and the
computation as admission and top-up make it. -/

namespace Sys2Proof.Machine

open Sys2Proof

/-- A position of the eligible list: cassette, value of its denomination, available count (R41). -/
structure Position where
  cassette : CassetteId
  value : Nat
  count : Nat
  deriving DecidableEq, Repr

/-- The result of a computation (R43, R45). -/
inductive Mix
  | noCash
  | noMix
  | plan (items : List PlanItem)
  deriving DecidableEq, Repr

/-- Whether a cassette 1 to 6 is eligible (R41), `except` being the cassettes a top-up leaves out (R46). -/
def State.eligible (s : State) (except : List CassetteId) (c : CassetteId) : Bool :=
  let k := s.cassette c
  !k.check.faulted && (k.shown c).pays && decide (1 ≤ s.valueOf c) && decide (s.valueOf c ≤ 10000) && decide (1 ≤ k.count)
    && !except.contains c

/-- Place a position behind those of a value at least its own, so that equal values keep cassette order (R41). -/
def insertPosition (p : Position) : List Position → List Position
  | [] => [p]
  | q :: qs => if q.value < p.value then p :: q :: qs else q :: insertPosition p qs

/-- The eligible list c1 to ck: denomination value highest first, then cassette number lowest first (R41). -/
def State.eligibleList (s : State) (except : List CassetteId) : List Position :=
  (workCassettes.filter (s.eligible except)).foldl
    (fun ps c => insertPosition { cassette := c, value := s.valueOf c, count := (s.cassette c).count } ps) []

/-- A greedy run over the positions left, with R units and N notes left (R44): the items it takes, if it succeeds. -/
def greedy : List Position → Nat → Nat → Option (List PlanItem)
  | [], r, _ => if r = 0 then some [] else none
  | p :: ps, r, n =>
    let k := min (r / p.value) (min p.count n)
    (greedy ps (r - k * p.value) (n - k)).map fun items => { cassette := p.cassette, count := k } :: items

/-- Trials for 0, 1, 2, … up to the smaller of g and 4; the first that succeeds (R45). -/
def firstTrial {α : Type} (g : Nat) (trial : Nat → Option α) : Option α := (List.range (min g 4 + 1)).findSome? trial

/-- The bounded search (R45), before items of count 0 are dropped. -/
def search (positions : List Position) (amount bundle : Nat) : Option (List PlanItem) :=
  match positions with
  | [] => none
  | c1 :: rest =>
    let g1 := min (amount / c1.value) (min c1.count bundle)
    firstTrial g1 fun r1 =>
      let n1 := g1 - r1
      let left1 := amount - n1 * c1.value
      let notes1 := bundle - n1
      match rest with
      | [] => if left1 = 0 then some [{ cassette := c1.cassette, count := n1 }] else none
      | c2 :: others =>
        let g2 := min (left1 / c2.value) (min c2.count notes1)
        firstTrial g2 fun r2 =>
          let n2 := g2 - r2
          (greedy others (left1 - n2 * c2.value) (notes1 - n2)).map fun items =>
            { cassette := c1.cassette, count := n1 } :: { cassette := c2.cassette, count := n2 } :: items

/-- The computation over an eligible list (R43, R45). -/
def mixOf (positions : List Position) (amount bundle : Nat) : Mix :=
  if (positions.map fun p => p.count * p.value).sum < amount then .noCash
  else
    match search positions amount bundle with
    | none => .noMix
    | some items => .plan (items.filter fun i => i.count ≠ 0)

/-- The parity check of the planner setting (R42). -/
def State.checkPlanner (s : State) : State :=
  if s.cash.planner.check.parityGood then s
  else (s.mapCash fun k => { k with planner := { k.planner with check := k.planner.check.read } }).tableFault .planner

/-- The bundle limit as a computation reads it: 60 if the setting is FAULTED (R42). -/
def State.bundleLimit (s : State) : Nat := if s.cash.planner.check.faulted then 60 else s.cash.planner.value

/-- The checked reads a computation makes: the planner setting, each cassette entry and each denomination entry named by one of
cassettes 1 to 6, whatever its state (R41; log 47). -/
def State.readForPlan (s : State) : State :=
  let s := s.checkPlanner.forEach workCassettes State.checkCassette
  s.forEach workCassettes State.checkValueOf

end Sys2Proof.Machine
end

