-- ==== Sys2Proof/Machine/Authority.lean ====
section
/-! DEFINITION. The Authority Table (2.2): its check, look-up, charging and lowering of shift totals. -/

namespace Sys2Proof.Machine

open Sys2Proof

/-- An Authority entry. -/
def State.authority (s : State) (i : AuthId) : AuthorityEntry := s.screen.authority[i]

/-- Change an Authority entry. -/
def State.mapAuthority (s : State) (i : AuthId) (f : AuthorityEntry → AuthorityEntry) : State :=
  s.mapScreen fun k => { k with authority := k.authority.set i (f k.authority[i]) }

/-- The parity check of an Authority entry (R22). -/
def State.checkAuthority (s : State) (i : AuthId) : State :=
  if (s.authority i).check.parityGood then s
  else (s.mapAuthority i fun e => { e with check := e.check.read }).tableFault (.authority (numberOf i))

/-- The look-up of a credential: the first entry that matches; entries holding 0 are passed over (R20). -/
def State.lookUp (s : State) (credential : Nat) : Option AuthId :=
  (List.finRange 32).find? fun i => (s.authority i).credential != 0 && (s.authority i).credential == credential

/-- The entries a look-up reaches: all up to the one that matches (R22; log 17). -/
def State.reached (s : State) (credential : Nat) : List AuthId :=
  match s.lookUp credential with
  | some j => (List.finRange 32).filter fun i => decide (i.val ≤ j.val)
  | none => List.finRange 32

/-- Charge the shift total with an amount at admission; the parity is recomputed with the new total (R47). -/
def State.chargeShift (s : State) (i : AuthId) (amount : Nat) : State :=
  s.mapAuthority i fun e => { e with shiftTotal := e.shiftTotal + amount, check := e.check.recomputed }

/-- Lower the shift total, stopping at 0 (R48). -/
def State.lowerShift (s : State) (i : AuthId) (amount : Nat) : State :=
  s.mapAuthority i fun e => { e with shiftTotal := e.shiftTotal - amount, check := e.check.recomputed }

/-- A SHIFT RESET record for an index with the old total (R21, R23). -/
def State.resetShiftOf (s : State) (i : AuthId) : State :=
  let old := (s.authority i).shiftTotal
  (s.mapAuthority i fun e => { e with shiftTotal := 0, check := e.check.recomputed }).record
    { kind := .shiftReset, authIndex := numberOf i, value := old }

end Sys2Proof.Machine
end

