-- ==== Sys2Proof/Machine/WorkQueue.lean ====
section
/-! DEFINITION. The Recycler Work Queue's moves (R88) and the end of a running operation (R86). Which entry starts is the
arbiter's, in Recycler.lean. -/

namespace Sys2Proof.Machine

open Sys2Proof

/-- Whether an entry is a dispense's PICK. -/
def WorkEntry.isPickOf (e : WorkEntry) (id : Nat) : Bool :=
  match e.work with
  | .pick i _ _ => i == id
  | .accept _ => false

/-- Whether an entry is a session's ACCEPT. -/
def WorkEntry.isAcceptOf (e : WorkEntry) (l : Lane) : Bool :=
  match e.work with
  | .pick .. => false
  | .accept m => m == l

/-- Change the Recycler Work Queue. -/
def State.mapWork (s : State) (f : List WorkEntry → List WorkEntry) : State :=
  s.mapCash fun k => { k with workQueue := f k.workQueue }

/-- An entry joins at the tail (R88). -/
def State.enqueueWork (s : State) (w : Work) : State := s.mapWork fun q => q ++ [{ work := w }]

/-- The top-up PICK joins at the head (R88). DESIGN CHOICE: also where the entry it replaces was taken off before and 8 wait, as a
ninth (log 69). -/
def State.pushWork (s : State) (w : Work) : State := s.mapWork fun q => { work := w } :: q

/-- The entries with a property leave; the others keep their order (R88). -/
def State.dropWork (s : State) (p : WorkEntry → Bool) : State := s.mapWork fun q => q.filter fun e => !p e

/-- Whether a waiting entry (not running) has a property. -/
def State.waits (s : State) (p : WorkEntry → Bool) : Bool := s.cash.workQueue.any fun e => !e.running && p e

/-- Whether the running entry has a property. -/
def State.runs (s : State) (p : WorkEntry → Bool) : Bool := s.cash.workQueue.any fun e => e.running && p e

/-- The running operation ends: the recycler goes from BUSY to READY and the entry leaves the queue (R86). Nothing changes where
no such entry is running (log 18). -/
def State.endOperation (s : State) (p : WorkEntry → Bool) : State :=
  if s.runs p then
    (s.dropWork fun e => e.running && p e).mapCash fun k =>
      { k with recycler := if k.recycler = .busy then .ready else k.recycler }
  else s

/-- A withdrawn entry stays in its place, no longer marked running, and the recycler returns to READY (R163). -/
def State.unstart (s : State) (p : WorkEntry → Bool) : State :=
  if s.runs p then
    (s.mapWork fun q => q.map fun e => if p e then { e with running := false } else e).mapCash fun k =>
      { k with recycler := if k.recycler = .busy then .ready else k.recycler }
  else s

end Sys2Proof.Machine
end

