-- ==== Sys2Proof/Machine/Dispense.lean ====
section
/-! DEFINITION. Dispense Control (chapter 4): the Dispense Table, picking, reconciliation, the presenter tray, recovery, the
notices of the Tube Scheduler, outcomes, and its part of a soft reset. -/

namespace Sys2Proof.Machine

open Sys2Proof

/-! ## The Dispense Table -/

/-- A Dispense Table position. -/
abbrev DispenseSlot := Fin 8

/-- The first occupied record with a property. -/
def State.findDispense (s : State) (p : DispenseRecord → Bool) : Option DispenseSlot :=
  (List.finRange 8).find? fun i => s.dispense.records[i].any p

/-- Set a Dispense Table position. -/
def State.setDispense (s : State) (i : DispenseSlot) (r : Option DispenseRecord) : State :=
  s.mapDispense fun d => { d with records := d.records.set i r }

/-- Change an occupied record; a free one stays free. -/
def State.mapDispenseAt (s : State) (i : DispenseSlot) (f : DispenseRecord → DispenseRecord) : State :=
  s.setDispense i (s.dispense.records[i].map f)

/-- An operation on an occupied record; nothing on a free one. -/
def State.onDispense (s : State) (i : DispenseSlot) (act : State → DispenseRecord → State) : State :=
  match s.dispense.records[i] with
  | some r => act s r
  | none => s

/-- The presenter tray is free: no record is PRESENTED (R89). -/
def State.trayFree (s : State) : Bool := !(s.dispenses.any fun r => r.state == .presented)

/-- The plan of the pick under way: the top-up plan for a top-up (R69). -/
def DispenseRecord.currentPlan (r : DispenseRecord) : List PlanItem := r.topUp.getD r.plan

/-- The number of notes presented. -/
def DispenseRecord.notes (r : DispenseRecord) : Nat := r.presented.toList.sum

/-- The DURESS flag joins a record at any event taken for it while the latch stands (R70). -/
def State.touchDispense (s : State) (i : DispenseSlot) : State :=
  s.mapDispenseAt i fun r => { r with flags := { r.flags with duress := r.flags.duress || s.alarm.duress } }

/-- The fields a dispense's journal records carry (R68, R70). DESIGN CHOICE: its other records carry them as its outcome does
(log 75). -/
def DispenseRecord.entry (r : DispenseRecord) (kind : RecordKind) : Entry :=
  { kind := kind, lane := numberOf r.lane, station := numberOf r.station, credential := r.credential
    authIndex := numberOf r.index, flags := { duress := r.flags.duress } }

/-- A DISPENSE report's body; only the copy to station 7 carries the flags (R53). -/
def DispenseRecord.report (r : DispenseRecord) (e : DispenseEvent) (code : Option Code) (copy : Bool) : Report :=
  .dispense r.id (numberOf r.lane) e code r.presentedValue r.notes (if copy then some r.flags else none)

/-- Queue a DISPENSE report to the record's report station with a copy to station 7 (R53). -/
def State.reportDispense (s : State) (i : DispenseSlot) (e : DispenseEvent) (code : Option Code := none) : State :=
  s.onDispense i fun s r => s.sendCopied r.reportStation r.tag (r.report e code false) (r.report e code true)

/-- Add to a count per cassette 1 to 6, each 0 to 100 (R51; log 10). -/
def addCount (v : Vector Nat 6) (c : CassetteId) (n : Nat) : Vector Nat 6 :=
  if h : c.val < 6 then v.set c.val (narrow 100 (v[c.val] + n)) else v

/-! ## The charge (R48, R49) -/

/-- Set the charge to `new` and lower the shift total by the difference, if the entry passes its check and still holds the
dispense's credential; otherwise the amount not taken back is kept for the outcome record (R48, R49). DESIGN CHOICE: an entry that
was FAULTED or cleared meanwhile and then rewritten with the same credential is lowered (log 66). -/
def State.lowerCharge (s : State) (i : DispenseSlot) (new : Nat) : State :=
  s.onDispense i fun s r =>
    let by_ := r.charge - new
    if by_ = 0 then s.mapDispenseAt i fun r => { r with charge := new }
    else
      let s := s.checkAuthority r.index
      let e := s.authority r.index
      if !e.check.faulted && e.credential == r.credential then
        (s.lowerShift r.index by_).mapDispenseAt i fun r => { r with charge := new }
      else s.mapDispenseAt i fun r => { r with charge := new, unapplied := r.unapplied + by_ }

/-! ## Outcomes (R68, R69) -/

/-- The counts list of an outcome record: the presented count of each cassette that has one, then P with the rejected total plus
the retract count (R68). -/
def DispenseRecord.outcomeItems (r : DispenseRecord) : List (Nat × Nat) :=
  ((List.finRange 6).filterMap fun c => if r.presented[c] = 0 then none else some (c.val + 1, r.presented[c]))
    ++ [(8, r.rejected.toList.sum + r.retractCount.getD 0)]

/-- Whether an outcome kind is one of a soft reset's, with flag RESET (R72). -/
def isResetOutcome (k : RecordKind) : Bool := k == .presented || k == .taken

/-- The outcome record of a dispense (R68); `notes` is the note count it carries, `detail` a module's reason or 0 (R188). -/
def DispenseRecord.outcomeEntry (r : DispenseRecord) (kind : RecordKind) (notes detail : Nat) : Entry :=
  { r.entry kind with
    value := r.amount
    noteCount := notes
    items := r.outcomeItems
    detail := detail
    flags := { duress := r.flags.duress, toppedUp := r.flags.toppedUp, inDoubt := r.flags.inDoubt
               takenLate := r.flags.takenLate, refundUnapplied := decide (0 < r.unapplied)
               reset := isResetOutcome kind
               partialPay := isResetOutcome kind && r.decided == some .partialPay
               overPay := isResetOutcome kind && r.decided == some .overPay }
    facts := .amount r.charge :: if 0 < r.unapplied then [.stored [r.unapplied]] else [] }

/-- The outcomes that bring CASH (R68, step 4). -/
def bringsCash (kind : RecordKind) (takenLate : Bool) : Bool :=
  kind == .partialPay || kind == .overPay || kind == .inDoubt || isResetOutcome kind || takenLate

/-- Write a dispense's outcome (R68): charge, DURESS, record, hold and transaction, report, the record freed. -/
def State.endDispense (s : State) (i : DispenseSlot) (kind : RecordKind) (notes : Nat) (code : Option Code := none)
    (detail : Nat := 0) : State :=
  let s := if kind = .cancelled ∨ kind = .retracted then s.lowerCharge i 0 else s
  let s := s.touchDispense i
  s.onDispense i fun s r =>
    let s := s.outcome (r.outcomeEntry kind notes detail)
    let s := if bringsCash kind r.flags.takenLate then s.postHold r.lane .cash else s
    let s := s.closeTxn r.lane
    let s := s.reportDispense i (.outcome kind) code
    s.setDispense i none

/-- End a record IN DOUBT (R69); `mark`: every cassette of the pick under way becomes UNRECONCILED; `detail`: the reason of a
refused RETRACT (R186). Its running operation ends (R86). -/
def State.endInDoubt (s : State) (i : DispenseSlot) (mark : Bool) (detail : Nat := 0) : State :=
  s.onDispense i fun s r =>
    let s := if mark then s.forEach r.currentPlan fun s p => s.markUnreconciled p.cassette else s
    let s := s.mapDispenseAt i fun r => { r with flags := { r.flags with inDoubt := true } }
    let s := s.endDispense i .inDoubt r.notes none detail
    let s := s.mapDispense fun d =>
      { d with inDoubtLanes := if r.lane ∈ d.inDoubtLanes then d.inDoubtLanes else d.inDoubtLanes ++ [r.lane] }
    s.endOperation fun e => e.isPickOf r.id

/-! ## Recovery (R66) and the sending of a PICK (R54) -/

/-- The recycler report limit, 30 s (R54, R62). -/
def reportLimit : Nat := 30000

/-- Send the next query, or end IN DOUBT when three have been sent (R66). A query that finds the outgoing queue full is no valid
answer (R161), so the next is sent at once; `fuel` bounds the queries. DESIGN CHOICE: the IN DOUBT record after a third query that was
refused carries no module's reason (log 11). -/
def State.sendQuery : Nat → State → DispenseSlot → State
  | 0, s, i => s.endInDoubt i true
  | fuel + 1, s, i =>
    s.onDispense i fun s r =>
      if 3 ≤ r.queryCount then s.endInDoubt i true
      else
        let s := s.mapDispenseAt i fun r => { r with queryCount := r.queryCount + 1, recovery := .querying }
        let p := s.placeFor s.recyclerEntry .dispense (.statusQuery (r.pickTag.getD 0))
        if p.2 then p.1 else State.sendQuery fuel p.1 i

/-- Send the next query (R66). -/
def State.nextQuery (s : State) (i : DispenseSlot) : State := s.sendQuery 4 i

/-- A record enters pick recovery (R66): IN DOUBT is set, an IN DOUBT report goes to station 7 alone, and a query is placed. -/
def State.enterRecovery (s : State) (i : DispenseSlot) : State :=
  let s := s.mapDispenseAt i fun r => { r with flags := { r.flags with inDoubt := true } }
  let s := s.onDispense i fun s r => s.send .supervisor r.tag (r.report .inDoubt none true)
  s.nextQuery i

/-- The pick tag after n (R54). -/
def nextTag (n : Nat) : Nat := if n = 65535 then 1 else n + 1

/-- A new pick tag, the PICK placed under it, and the report timer started (R54 steps 1, 3, 4). -/
def State.sendPick (s : State) (i : DispenseSlot) : State × Bool :=
  let tag := nextTag s.dispense.lastTag
  let s := s.mapDispense fun d => { d with lastTag := tag }
  let s := s.mapDispenseAt i fun r =>
    { r with pickTag := some tag, queryCount := 0, recovery := .notUnderWay, reportTimer := some (s.timer reportLimit) }
  match s.dispense.records[i] with
  | some r => s.placeFor s.recyclerEntry .dispense (.pick tag r.currentPlan)
  | none => (s, true)

/-- The arbiter has started the record's PICK entry (R54). A PICK that finds the outgoing queue full is taken as SILENT (R161),
and the record enters recovery (R55). -/
def State.startPick (s : State) (i : DispenseSlot) : State :=
  let p := (s.touchDispense i).sendPick i
  let s := p.1.onDispense i fun s r =>
    if r.state = .queued then
      (s.mapDispenseAt i fun r => { r with state := .picking }).reportDispense i .picking
    else s
  if p.2 then s else s.enterRecovery i

/-! ## The presenter tray (R57, R60 to R62) -/

/-- The parity check of the presenter setting (R60). -/
def State.checkPresenter (s : State) : State :=
  if s.dispense.setting.check.parityGood then s
  else (s.mapDispense fun d => { d with setting := { d.setting with check := d.setting.check.read } }).tableFault .presenter

/-- The present timeout in seconds as a timer reads it: 45 s if FAULTED (R60). -/
def State.presentTimeout (s : State) : Nat :=
  if s.dispense.setting.check.faulted then 45 else s.dispense.setting.value

/-- The tag a RETRACT carries: the record's pick tag, and a free value where a put-back top-up has dropped it (log 49). -/
def DispenseRecord.trayTag (r : DispenseRecord) : Nat := r.pickTag.getD (Config.droppedTag % 65536)

/-- Order a retract (R62). -/
def State.orderRetract (s : State) (i : DispenseSlot) : State :=
  s.onDispense i fun s r =>
    let s := s.mapDispenseAt i fun r =>
      { r with flags := { r.flags with retractOrdered := true }, presentTimer := none
               reportTimer := some (s.timer reportLimit) }
    s.post s.recyclerEntry .dispense (.retract r.trayTag)

/-- A dispense becomes PRESENTED (R57); while the lockdown latch stands its retract is ordered at once and no present timer is
started (R63). -/
def State.becomePresented (s : State) (i : DispenseSlot) : State :=
  let s := (s.mapDispenseAt i fun r => { r with state := .presented }).reportDispense i .presented
  if s.alarm.lockdown then s.orderRetract i
  else
    let s := s.checkPresenter
    s.mapDispenseAt i fun r => { r with presentTimer := some (s.timer (1000 * s.presentTimeout)) }

/-- PARTIAL is decided (R58): charge, CASH, report, then the tray or the outcome. -/
def State.decidePartial (s : State) (i : DispenseSlot) : State :=
  s.onDispense i fun s r =>
    let s := s.mapDispenseAt i fun r => { r with decided := some .partialPay }
    let s := s.lowerCharge i r.presentedValue
    let s := s.postHold r.lane .cash
    let s := s.reportDispense i .partialPay
    if 0 < r.presentedValue then s.becomePresented i else s.endDispense i .partialPay r.notes

/-! ## Reconciliation (R56 to R59) -/

/-- A pick report with its cassettes named: (cassette, picked, rejected). -/
abbrev PickFigures := List (CassetteId × Nat × Nat)

/-- The record a pick report's tag names: an occupied record in PICKING with that pick tag (R56). -/
def State.pickingWith (s : State) (tag : Nat) : Option DispenseSlot :=
  s.findDispense fun r => r.state == .picking && r.pickTag == some tag

/-- The items of a PICK or LATE PICK REPORT record (R188). DESIGN CHOICE: a cassette that the report names twice has two (log 88). -/
def pickItems (f : PickFigures) : List (Nat × Nat) := f.map fun i => (numberOf i.1, i.2.1 * 65536 + i.2.2)

/-- The presented value: presented count times denomination value, over the cassettes (R56, step 5). -/
def State.presentedSum (s : State) (r : DispenseRecord) : Nat :=
  ((List.finRange 6).map fun c => r.presented[c] * s.valueOf ⟨c.val, by omega⟩).sum

/-- Whether a denomination entry read for the presented value is FAULTED (R73). -/
def State.valueUnknownFor (s : State) (r : DispenseRecord) : Bool :=
  (List.finRange 6).any fun c =>
    r.presented[c] != 0 && ((s.cassette ⟨c.val, by omega⟩).denom.any fun d => (s.cash.denominations[d]).check.faulted)

/-- The checked reads for a presented value (R73). -/
def State.readForPresented (s : State) (r : DispenseRecord) : State :=
  s.forEach ((List.finRange 6).filter fun c => r.presented[c] != 0) fun s c => s.checkValueOf ⟨c.val, by omega⟩

/-- The cassettes that failed to feed: 0 picked and at least 1 rejected in the short pick's report (R46), item by item (log 48). -/
def failedToFeed (f : PickFigures) : List CassetteId :=
  f.filterMap fun i => if i.2.1 = 0 ∧ 1 ≤ i.2.2 then some i.1 else none

/-- Whether a top-up may be computed at all (R46's four conditions). -/
def State.topUpAllowed (s : State) : Bool :=
  !s.alarm.lockdown && s.cash.recycler != .faulted && !s.entryPoor s.recyclerEntry
    && decide ((s.cassette cassetteP).count ≤ 240)

/-- Plan a top-up for the shortfall (R46), after the short pick's counts are debited. DEDUCED: the checked reads are made also where
the allowance then turns out to be 0 or less (log 47). -/
def State.planTopUp (s : State) (shortfall : Nat) (f : PickFigures) : State × Option (List PlanItem) :=
  if s.topUpAllowed then
    let s := s.readForPlan
    let allowance := s.bundleLimit - (f.map fun i => i.2.1).sum
    if allowance = 0 then (s, none)
    else
      match mixOf (s.eligibleList (failedToFeed f)) shortfall allowance with
      | .plan items => (s, some items)
      | _ => (s, none)
  else (s, none)

/-- A short presented value: top-up or PARTIAL (R58). -/
def State.settleShort (s : State) (i : DispenseSlot) (f : PickFigures) : State :=
  s.onDispense i fun s r =>
    if r.flags.toppedUp then s.decidePartial i
    else
      let p := s.planTopUp (r.amount - r.presentedValue) f
      match p.2 with
      | none => p.1.decidePartial i
      | some items =>
        let s := p.1.mapDispenseAt i fun r => { r with topUp := some items, flags := { r.flags with toppedUp := true } }
        let s := s.pushWork (.pick r.id items true)
        let s := s.record { r.entry .topUp with items := items.map fun p => (numberOf p.cassette, p.count) }
        s.reportDispense i .toppingUp

/-- The count the plans called for, per cassette (R59). -/
def DispenseRecord.plannedCount (r : DispenseRecord) (c : Fin 6) : Nat :=
  ((r.plan ++ r.topUp.getD []).map fun p => if p.cassette.val = c.val then p.count else 0).sum

/-- A presented value above the amount: OVER (R59). -/
def State.settleOver (s : State) (i : DispenseSlot) : State :=
  s.onDispense i fun s r =>
    let s := s.mapDispenseAt i fun r => { r with decided := some .overPay }
    let s := s.postHold r.lane .cash
    let s := s.record
      { r.entry .excess with
        items := (List.finRange 6).filterMap fun c =>
          if r.plannedCount c < r.presented[c] then some (c.val + 1, r.presented[c] - r.plannedCount c) else none }
    (s.reportDispense i .overPay).becomePresented i

/-- Settle a record by its presented value (R56, step 6). -/
def State.settleDispense (s : State) (i : DispenseSlot) (f : PickFigures) : State :=
  s.onDispense i fun s r =>
    if r.presentedValue = r.amount then s.becomePresented i
    else if r.presentedValue < r.amount then s.settleShort i f
    else s.settleOver i

/-- End status 3 is JAM (R186). -/
def statusJam : Nat := 3

/-- Reconcile a report with its record (R56), the values read before the PICK record is written (log 50). A JAM end status leaves
the recycler FAULTED here, before the record is settled, and `State.takePickReport` then lets the fault act on the others (R64).
DEDUCED: a report that repeats the tag while the top-up waits is reconciled again (log 43). DESIGN CHOICE: the top-up entry then
stays on the queue (log 74). -/
def State.reconcile (s : State) (i : DispenseSlot) (f : PickFigures) (status : Nat) (moduleReason : Option Nat) : State :=
  let s := s.touchDispense i
  let s := s.mapDispenseAt i fun r =>
    { r with reportTimer := none, recovery := .notUnderWay, flags := { r.flags with inDoubt := false } }
  let s := s.debitPick f
  let s := s.onDispense i fun s r => s.endOperation fun e => e.isPickOf r.id
  let s := if status = statusJam then s.mapCash fun k => { k with recycler := .faulted } else s
  let s := s.mapDispenseAt i fun r =>
    { r with
      picked := f.foldl (fun v x => addCount v x.1 x.2.1) r.picked
      rejected := f.foldl (fun v x => addCount v x.1 x.2.2) r.rejected
      presented := f.foldl (fun v x => addCount v x.1 x.2.1) r.presented }
  let s := s.onDispense i fun s r => s.readForPresented r
  let s := s.onDispense i fun s r =>
    s.record
      { r.entry .pick with
        value := r.pickTag.getD 0
        items := pickItems f
        detail := status
        flags := { duress := r.flags.duress, valueUnknown := s.valueUnknownFor r }
        facts := (moduleReason.map Fact.moduleReason).toList }
  let s := s.onDispense i fun s r => s.mapDispenseAt i fun x => { x with presentedValue := s.presentedSum r }
  s.settleDispense i f

/-- A late pick report: the cassettes and P are debited and credited, a LATE PICK REPORT record is written, and no record changes
(R56, R79). -/
def State.latePickReport (s : State) (tag : Nat) (f : PickFigures) (status : Nat) : State :=
  (s.debitPick f).record { kind := .latePickReport, value := tag, items := pickItems f, detail := status }

/-! ## TAKEN and RETRACTED (R61, R62) -/

/-- The record whose pick tag a tray report carries. DESIGN CHOICE: of several records that hold the tag, the first of the table,
whatever its state (log 56). -/
def State.withTag (s : State) (tag : Nat) : Option DispenseSlot := s.findDispense fun r => r.pickTag == some tag

/-- The recycler reports TAKEN (R61). -/
def State.takeTaken (s : State) (tag : Nat) : State :=
  match s.withTag tag with
  | none => s.record { kind := .lateTaken, facts := [.tag tag] }
  | some i =>
    s.onDispense i fun s r =>
      if r.state = .presented then
        (s.touchDispense i).onDispense i fun s r =>
          if r.flags.retractOrdered then
            let s := s.mapDispenseAt i fun r => { r with flags := { r.flags with takenLate := true } }
            (s.postHold r.lane .cash).record (r.entry .takenLate)
          else
            let s := s.mapDispenseAt i fun r => { r with state := .taken, presentTimer := none }
            (s.record (r.entry .taken)).reportDispense i .taken
      else s.record { r.entry .lateTaken with facts := [.tag tag] }

/-- The recycler reports RETRACTED (R62). DESIGN CHOICE: a LATE RETRACTED record's note count is the count reported (log 68). -/
def State.takeRetracted (s : State) (tag count : Nat) : State :=
  let matched := s.findDispense fun r => r.pickTag == some tag && r.flags.retractOrdered
  let s := s.creditPurge count true
  match matched with
  | none => s.record { kind := .lateRetracted, noteCount := count, facts := [.tag tag] }
  | some i =>
    (s.touchDispense i).onDispense i fun s r =>
      let s := s.mapDispenseAt i fun r =>
        { r with reportTimer := none, retractCount := some count, presented := Vector.replicate 6 0, presentedValue := 0 }
      s.endDispense i .retracted r.notes

/-! ## Notices of the Tube Scheduler (R67) -/

/-- The record of a dispense id. -/
def State.dispenseOf (s : State) (id : Nat) : Option DispenseSlot := s.findDispense fun r => r.id == id

/-- The dispense is bound to its lane's carrier: IN TRANSIT (R67). DESIGN CHOICE: the BOUND record carries the dispense's station,
credential and index, whoever sent the carrier (log 55). -/
def State.noticeBound (s : State) (id : Nat) : State :=
  match s.dispenseOf id with
  | none => s
  | some i =>
    let s := (s.touchDispense i).mapDispenseAt i fun r => { r with state := .inTransit }
    let s := s.onDispense i fun s r => s.record (r.entry .bound)
    s.reportDispense i .inTransit

/-- The carrier is back at TELLER, or its request removed: back to TAKEN (R67). -/
def State.noticeBack (s : State) (id : Nat) : State :=
  match s.dispenseOf id with
  | none => s
  | some i =>
    (s.touchDispense i).onDispense i fun s r =>
      if r.state = .inTransit then
        (s.mapDispenseAt i fun r => { r with state := .taken }).reportDispense i .backAtTeller
      else s

/-- The kind of a delivered dispense's outcome (R67). -/
def DispenseRecord.deliveredKind (r : DispenseRecord) : RecordKind :=
  match r.decided with
  | some .partialPay => .partialPay
  | some .overPay => .overPay
  | none => .delivered

/-- The cash-bearing carrier was lifted at the lane: the outcome is written (R67). -/
def State.noticeLifted (s : State) (id : Nat) : State :=
  match s.dispenseOf id with
  | none => s
  | some i => s.onDispense i fun s r => if r.state = .inTransit then s.endDispense i r.deliveredKind r.notes else s

/-! ## Flushed entries, lockdown, faults, isolation (R63, R64) -/

/-- A QUEUED record ends CANCELLED (R63, R64). -/
def State.cancelQueued (s : State) (i : DispenseSlot) (code : Option Code) : State :=
  (s.touchDispense i).onDispense i fun s r => s.endDispense i .cancelled r.notes code

/-- A PICK entry handed back by Cash Position: a QUEUED record ends CANCELLED, a PICKING one's top-up is decided PARTIAL (R63, R64,
R90). DESIGN CHOICE: a record in another state, which a repeated report has settled, is left to what its state calls for (log 74). -/
def State.pickFlushed (s : State) (id : Nat) (code : Option Code) : State :=
  match s.dispenseOf id with
  | none => s
  | some i =>
    s.onDispense i fun s r =>
      match r.state with
      | .queued => s.cancelQueued i code
      | .picking => (s.touchDispense i).decidePartial i
      | .presented | .taken | .inTransit => s

/-- Dispense Control on the setting of the lockdown latch, the flush being done (R63): a QUEUED record that had no entry (log 57)
ends as the others did, and a PRESENTED bundle is retracted. -/
def State.dispenseLockdown (s : State) : State :=
  s.forEach (List.finRange 8) fun s i =>
    s.onDispense i fun s r =>
      if r.state = .queued then s.cancelQueued i none
      else if r.state = .presented ∧ r.flags.retractOrdered = false then (s.touchDispense i).orderRetract i
      else s

/-- Dispense Control on a fault of the recycler, the flush being done (R64): a QUEUED record that had no entry (log 57) ends as the
others did. -/
def State.dispenseFaulted (s : State) : State :=
  s.forEach (List.finRange 8) fun s i =>
    s.onDispense i fun s r => if r.state = .queued then s.cancelQueued i (some .recyclerFault) else s

/-- Dispense Control on an isolation of the recycler node (R64): running picks and presented bundles end IN DOUBT; queued
entries are left to the flush, and a QUEUED record that has none (log 57) ends here. -/
def State.dispenseIsolated (s : State) : State :=
  s.forEach (List.finRange 8) fun s i =>
    s.onDispense i fun s r =>
      let waits := s.waits fun e => e.isPickOf r.id
      match r.state with
      | .queued => if waits then s else s.cancelQueued i (some .recyclerFault)
      | .picking => if waits then s else s.endInDoubt i true
      | .presented => s.endInDoubt i false
      | .taken | .inTransit => s

/-! ## Soft reset (R72) -/

/-- Resolve one occupied record at a soft reset (R72). -/
def State.resetDispense (s : State) (i : DispenseSlot) : State :=
  s.onDispense i fun s r =>
    match r.state with
    | .queued => s.endDispense i .cancelled r.notes
    | .picking => s.endInDoubt i true
    | .presented => s.endDispense i .presented r.notes
    | .taken => s.endDispense i .taken r.notes
    | .inTransit => s.endInDoubt i false

/-- Dispense Control's soft reset (R72). -/
def State.resetDispenses (s : State) : State := s.forEach (List.finRange 8) State.resetDispense

end Sys2Proof.Machine
end

