-- ==== Sys2Proof/Machine/Deposit.lean ====
section
/-! DEFINITION. Deposit Control (chapter 6): the deposit slots, the start of a session, notes arriving and landing, the ways a
session ends, its outcomes and reports, and its part of a soft reset. -/

namespace Sys2Proof.Machine

open Sys2Proof

/-! ## The deposit slots (R94) -/

/-- A lane's deposit slot. -/
def State.session (s : State) (l : Lane) : Option Session := s.deposit.slots[l]

/-- Set a deposit slot. -/
def State.setSession (s : State) (l : Lane) (x : Option Session) : State :=
  s.mapDeposit fun d => { d with slots := d.slots.set l x }

/-- Change an occupied slot; a free one stays free. -/
def State.mapSession (s : State) (l : Lane) (f : Session → Session) : State := s.setSession l ((s.session l).map f)

/-- An operation on an occupied slot; nothing on a free one. -/
def State.onSession (s : State) (l : Lane) (act : State → Session → State) : State :=
  match s.session l with
  | some x => act s x
  | none => s

/-- ACTIVE or ENDING. -/
def Session.running (x : Session) : Bool := x.state == .active || x.state == .ending

/-- DURESS joins the flags at any event taken for the session while the latch stands (R109). -/
def State.touchSession (s : State) (l : Lane) : State :=
  s.mapSession l fun x => { x with flags := { x.flags with duress := x.flags.duress || s.alarm.duress } }

/-- A DEPOSIT report's body; only the copy to station 7 carries the flags (R109). DESIGN CHOICE: a console's copy carries none of
them, DURESS or other (log 58). -/
def Session.report (x : Session) (l : Lane) (e : DepositEvent) (code : Option Code) (copy : Bool) : Report :=
  .deposit (numberOf l) e code x.accepted x.value x.returned (if copy then some x.flags else none)

/-- Queue a DEPOSIT report to the report station with a copy to station 7 (R109). -/
def State.reportDeposit (s : State) (l : Lane) (e : DepositEvent) (code : Option Code := none) : State :=
  s.onSession l fun s x => s.sendCopied x.reportStation x.tag (x.report l e code false) (x.report l e code true)

/-- A journal record about a lane's session, with its DURESS flag (R153), or about its lane alone where there is none. DESIGN
CHOICE: it carries the session's station, credential and Authority index (log 75). -/
def State.sessionEntry (s : State) (l : Lane) (kind : RecordKind) (facts : List Fact) : Entry :=
  match s.session l with
  | some x => { kind := kind, lane := numberOf l, station := numberOf x.station, credential := x.credential
                authIndex := numberOf x.index, flags := { duress := x.flags.duress }, facts := facts }
  | none => { kind := kind, lane := numberOf l, facts := facts }

/-- The record of a report that is tied to no session (R98, R99, R101, R102, R105, R107): the lane and what the report says, every
other field 0 (R170). -/
def strayEntry (l : Lane) (kind : RecordKind) (facts : List Fact) : Entry := { kind := kind, lane := numberOf l, facts := facts }

/-! ## Timers (R95, R103, R105) -/

/-- The parity check of the deposit setting (R95). -/
def State.checkDepositSetting (s : State) : State :=
  if s.deposit.setting.check.parityGood then s
  else (s.mapDeposit fun d => { d with setting := { d.setting with check := d.setting.check.read } }).tableFault .deposit

/-- The deposit idle timeout in seconds as a timer reads it: 30 s if FAULTED (R95). -/
def State.idleTimeout (s : State) : Nat := if s.deposit.setting.check.faulted then 30 else s.deposit.setting.value

/-- Start the idle timer (R95, R103). -/
def State.startIdle (s : State) (l : Lane) : State :=
  let s := s.checkDepositSetting
  s.mapSession l fun x => { x with idleTimer := some (s.timer (1000 * s.idleTimeout)) }

/-- The session end limit, 30 s (R105). -/
def endLimit : Nat := 30000

/-- What a note report does to the times of a session: the last-note time, and the timer of its state (R98, R99, R101, R105). -/
def State.noteTimes (s : State) (l : Lane) : State :=
  s.onSession l fun s x =>
    let s := s.mapSession l fun x => { x with lastNote := s.now }
    match x.state with
    | .queued => s
    | .active => s.startIdle l
    | .ending => s.mapSession l fun x => { x with endTimer := some (s.timer endLimit) }

/-! ## Values of notes (R101, R73) -/

/-- The Denomination Table entry an index names, if it is 1 to 8 and holds a value above 0. -/
def State.denomOf (s : State) (d : Nat) : Option DenomId :=
  (numbered 8 d).bind fun i => if s.cash.denominations[i].value = 0 then none else some i

/-- Read a note's value for a tally: the check of the entry the index names is made; the value is 0 and unknown where the index
is none of 1 to 8, the entry holds 0 or is FAULTED (R101, R73). Answers the state, the value, and whether the value is known. -/
def State.readNoteValue (s : State) (d : Nat) : State × Nat × Bool :=
  match numbered 8 d with
  | none => (s, 0, false)
  | some i =>
    let s := s.checkDenomination i
    let e := s.cash.denominations[i]
    (s, e.usable, !e.check.faulted && e.value != 0)

/-! ## Outcomes (R108) -/

/-- What distinguishes an outcome of a session: record kind, value, note count, counts list, event and code of the report, and
whether the recycler is about to be made FAULTED. -/
structure SessionEnd where
  kind : RecordKind
  value : Nat
  notes : Nat
  items : List (Nat × Nat)
  event : DepositEvent
  code : Option Code
  toFault : Bool

/-- The outcome record of a session (R108). The detail byte holds the end cause, or with none the reason of a refused ACCEPT
BEGIN (R186, R188; log 11). -/
def Session.outcomeEntry (x : Session) (l : Lane) (e : SessionEnd) (reason : Option Nat) : Entry :=
  { kind := e.kind, lane := numberOf l, station := numberOf x.station, credential := x.credential
    authIndex := numberOf x.index, value := e.value, noteCount := e.notes, items := e.items
    flags := { duress := x.flags.duress, defaultStack := x.flags.defaultStack, endUnconfirmed := x.flags.endUnconfirmed
               valueUnknown := x.flags.valueUnknown }
    detail := (x.endCause.map EndCause.number).getD (reason.getD 0)
    facts := (reason.map Fact.moduleReason).toList }

/-- Write a session's outcome (R108): DURESS, record, hold and transaction, report, the slot freed, the operation ended. -/
def State.endSession (s : State) (l : Lane) (e : SessionEnd) (reason : Option Nat := none) : State :=
  let s := s.touchSession l
  s.onSession l fun s x =>
    let s := s.outcome (x.outcomeEntry l e reason)
    let s := if e.kind = .inDoubt then s.postHold l .cash else s
    let s := s.closeTxn l
    let s := s.reportDeposit l e.event e.code
    let s := (s.setSession l none).retire (.acceptBegin l)
    if e.toFault then s else s.endOperation fun w => w.isAcceptOf l

/-- The counts list of a closed session: the stacked count per destination that has one, then RETURN (R108). -/
def Session.closedItems (x : Session) : List (Nat × Nat) :=
  ((List.finRange 7).filterMap fun d => if x.stacked[d] = 0 then none else some (d.val + 1, x.stacked[d])) ++ [(9, x.returned)]

/-- The outcome CLOSED with the counts as they stand (R105, R106, R108). -/
def State.closeSession (s : State) (l : Lane) (code : Option Code) (toFault : Bool) (reason : Option Nat := none) :
    State :=
  s.onSession l fun s x =>
    s.endSession l
      { kind := .closed, value := x.value, notes := x.stacked.toList.sum, items := x.closedItems, event := .closed
        code := code, toFault := toFault } reason

/-- The number of list entries with a destination. -/
def countDest (list : List Transit) (d : Dest) : Nat := (list.filter fun t => t.dest = d).length

/-- The counts list of a session in doubt (R108). -/
def Session.doubtItems (x : Session) : List (Nat × Nat) :=
  ((List.finRange 7).filterMap fun d =>
      if countDest x.transit (.store d) = 0 then none else some (d.val + 1, countDest x.transit (.store d)))
    ++ [(9, x.returned + countDest x.transit .toCustomer)]

/-- The destination of a listed note becomes UNRECONCILED (R107, R110). -/
def State.markDest (s : State) (t : Transit) : State :=
  match t.dest with
  | .store d => s.markUnreconciled (stackCassette d)
  | .toCustomer => s

/-- Give up one routed note (R107): the inbound count of its cassette falls and the cassette becomes UNRECONCILED. -/
def State.giveUp (s : State) (t : Transit) : State :=
  match t.dest with
  | .store d => (s.lowerInbound (stackCassette d)).markDest t
  | .toCustomer => s

/-- The in-doubt value (R107) and whether every value was known. -/
def State.doubtValue (s : State) (list : List Transit) : State × Nat × Bool :=
  list.foldl (fun a t => let v := a.1.readNoteValue t.denom; (v.1, a.2.1 + v.2.1, a.2.2 && v.2.2)) (s, 0, true)

/-- End a session IN DOUBT, what it does to its notes' cassettes aside: `mark` (R107, R108). -/
def State.sessionDoubted (s : State) (l : Lane) (toFault : Bool) (mark : State → Transit → State) : State :=
  s.onSession l fun s x =>
    let s := s.forEach x.transit mark
    let v := s.doubtValue x.transit
    let s := v.1.mapSession l fun x =>
      { x with transit := [], flags := { x.flags with valueUnknown := x.flags.valueUnknown || !v.2.2 } }
    s.endSession l
      { kind := .inDoubt, value := v.2.1, notes := x.transit.length, items := x.doubtItems
        event := .inDoubt x.transit.length v.2.1, code := none, toFault := toFault }

/-- End a session IN DOUBT, its listed notes given up (R107). -/
def State.sessionInDoubt (s : State) (l : Lane) (toFault : Bool) : State := s.sessionDoubted l toFault State.giveUp

/-! ## Ending (R103, R105) -/

/-- Enter ENDING (R105). A RECYCLER ENDED session has its ended set and no ACCEPT END is sent. -/
def State.enterEnding (s : State) (l : Lane) (cause : EndCause) : State :=
  let s := s.mapSession l fun x => { x with state := .ending, endCause := some cause, idleTimer := none }
  let s := if cause = .recyclerEnded then s.mapSession l fun x => { x with ended := true }
    else s.post s.recyclerEntry .deposit (.acceptEnd l)
  let s := s.mapSession l fun x => { x with endTimer := some (s.timer endLimit) }
  s.reportDeposit l (.ending cause)

/-- The session is closed once ended is yes and the list is empty (R105). -/
def State.closeIfDone (s : State) (l : Lane) : State :=
  s.onSession l fun s x => if x.state = .ending ∧ x.ended ∧ x.transit = [] then s.closeSession l none false else s

/-- The cap: an ACTIVE session whose committed count is 500 or more goes to ENDING (R103). -/
def State.applyCap (s : State) (l : Lane) : State :=
  s.onSession l fun s x => if x.state = .active ∧ 500 ≤ x.committed then s.enterEnding l .cap else s

/-! ## Starting (R97) -/

/-- The ACCEPT BEGIN exchange ended (R97). `live`: the session it was placed for has not ended since. -/
def State.acceptBeginEnded (s : State) (l : Lane) (live : Bool) (r : Result) : State :=
  if live then
    (s.touchSession l).onSession l fun s x =>
      match r with
      | .good =>
        if x.endCause.isSome ∨ s.alarm.lockdown then s.enterEnding l (x.endCause.getD .lockdown)
        else
          let s := s.mapSession l fun x => { x with state := .active, lastNote := s.now }
          (s.startIdle l).reportDeposit l .active
      | .refused reason => s.closeSession l (some .recyclerFault) false (some reason)
      | .silent | .damaged => s.enterEnding l (x.endCause.getD .beginLost)
  else if r = .good then s.post s.recyclerEntry .deposit (.acceptEnd l)
  else s

/-- The arbiter has started a session's ACCEPT entry (R97). An ACCEPT BEGIN that finds the outgoing queue full is taken as
SILENT (R161). DESIGN CHOICE: the start is no event at which DURESS joins the session's flags (log 59). -/
def State.startAccept (s : State) (l : Lane) : State :=
  let p := s.placeFor s.recyclerEntry .deposit (.acceptBegin l)
  if p.2 then p.1 else p.1.acceptBeginEnded l true .silent

/-! ## Notes arriving (R98, R99, R100) -/

/-- A NOTE REJECTED report (R98). -/
def State.noteRejected (s : State) (l : Lane) : State :=
  if (s.session l).any Session.running then
    ((s.touchSession l).mapSession l fun x => { x with returned := narrow 65535 (x.returned + 1) }).noteTimes l
  else s.record (strayEntry l .strayNote [])

/-- A recycling cassette that may take a note of a denomination (R100, step 1). -/
def State.recycles (s : State) (d : DenomId) (c : CassetteId) : Bool :=
  let k := s.cassette c
  k.role == .recycle && k.denom == some d
    && (k.shown c == .serving || k.shown c == .low || k.shown c == .empty)
    && decide (k.count + k.inbound < k.fillLimit)

/-- The candidate with the smallest count plus inbound count, the lowest-numbered among equals (R100). -/
def State.leastFull (s : State) : List CassetteId → Option CassetteId
  | [] => none
  | c :: cs =>
    match s.leastFull cs with
    | none => some c
    | some b =>
      if (s.cassette c).count + (s.cassette c).inbound ≤ (s.cassette b).count + (s.cassette b).inbound then some c else some b

/-- A cassette 1 to 6 as a stacking destination. -/
def asDest (c : CassetteId) : Dest := if h : c.val < 7 then .store ⟨c.val, h⟩ else .toCustomer

/-- The routing decision (R100), with the checks of the entries it considers. -/
def State.routeFor (s : State) (d : DenomId) : State × Dest :=
  let s := s.forEach workCassettes State.checkCassette
  match s.leastFull (workCassettes.filter (s.recycles d)) with
  | some c => (s, asDest c)
  | none =>
    let s := s.checkCassette cassetteD
    let k := s.cassette cassetteD
    let x := k.shown cassetteD
    if (x = .empty ∨ x = .serving) ∧ k.count + k.inbound < capacity cassetteD then (s, asDest cassetteD) else (s, .toCustomer)

/-- The destination of a validated note on an ACTIVE or ENDING session with room on its list (R99). -/
def State.chooseRoute (s : State) (x : Session) (denom : Nat) : State × Dest :=
  if x.state = .active then
    match s.denomOf denom with
    | some d => s.routeFor d
    | none => (s, .toCustomer)
  else (s, .toCustomer)

/-- Place the ROUTE order of a note (R99). -/
def State.sendRoute (s : State) (note : Nat) (d : Dest) : State := s.post s.recyclerEntry .deposit (.route note d)

/-- List a routed note: its inbound and committed counts rise (R99, R80). -/
def State.listNote (s : State) (l : Lane) (t : Transit) : State :=
  let s := s.mapSession l fun x => { x with transit := x.transit ++ [t] }
  match t.dest with
  | .store d =>
    (s.raiseInbound (stackCassette d)).mapSession l fun x => { x with committed := min (x.committed + 1) 65535 }
  | .toCustomer => s

/-- A NOTE VALIDATED report (R99; log 40 for a QUEUED session, log 53 for a note number already listed). DESIGN CHOICE: on a QUEUED
session it is no event at which DURESS joins the flags (log 59). -/
def State.noteValidated (s : State) (l : Lane) (note denom : Nat) : State :=
  match s.session l with
  | none => (s.sendRoute note .toCustomer).record (strayEntry l .strayNote [.note note denom])
  | some x =>
    if x.running then
      let s := s.touchSession l
      if x.transit.length < 8 then
        let p := s.chooseRoute x denom
        let s := (p.1.sendRoute note p.2).listNote l { note := note, denom := denom, dest := p.2 }
        (s.noteTimes l).applyCap l
      else (s.sendRoute note .toCustomer).noteTimes l
    else ((s.sendRoute note .toCustomer).noteTimes l).record (strayEntry l .strayNote [.note note denom])

/-! ## Notes landing (R101, R102) -/

/-- The list entry of a note number on a lane's session. -/
def State.transitOf (s : State) (l : Lane) (note : Nat) : Option Transit :=
  (s.session l).bind fun x => x.transit.find? fun t => t.note == note

/-- The entry leaves the list. -/
def State.unlist (s : State) (l : Lane) (note : Nat) : State :=
  s.mapSession l fun x => { x with transit := x.transit.eraseP fun t => t.note == note }

/-- Raise the accepted count of a denomination index. -/
def Session.addAccepted (x : Session) (i : DenomId) : Session := { x with accepted := x.accepted.set i (x.accepted[i] + 1) }

/-- What a stacked note does to its session's tallies (R101). -/
def State.tallyStack (s : State) (l : Lane) (t : Transit) (reached : StackDest) : State :=
  let counted := s.denomOf t.denom
  let v := s.readNoteValue t.denom
  v.1.mapSession l fun x =>
    let x := match counted with
      | some i => x.addAccepted i
      | none => x
    { x with
      stacked := x.stacked.set reached (x.stacked[reached] + 1)
      value := narrow max32 (x.value + v.2.1)
      flags := { x.flags with valueUnknown := x.flags.valueUnknown || !v.2.2 } }

/-- Credit a stacked note of the list: where it was routed, or elsewhere (R101; log 52 for VALUE UNKNOWN). -/
def State.creditNote (s : State) (l : Lane) (t : Transit) (reached : StackDest) : State :=
  let c := stackCassette reached
  if t.dest = .store reached then s.creditStack c true
  else
    let s := match t.dest with
      | .store d => s.lowerInbound (stackCassette d)
      | .toCustomer => s
    let s := s.creditStack c false
    let s := s.record
      (s.sessionEntry l .defaultStack [.note t.note t.denom, .dest t.dest, .dest (.store reached)])
    s.mapSession l fun x =>
      { x with
        flags := { x.flags with defaultStack := true }
        committed := if t.dest = .toCustomer then min (x.committed + 1) 65535 else x.committed }

/-- What an unmatched NOTE STACKED or NOTE RETURNED does to the lane's session, if it has one: the last-note time, the timer of its
state and the closing test (R101, R102). DESIGN CHOICE: for an ACTIVE or ENDING session it is an event at which DURESS joins the
flags, for a QUEUED one it is not (log 59). -/
def State.strayLanding (s : State) (l : Lane) : State :=
  let s := if (s.session l).any Session.running then s.touchSession l else s
  (s.noteTimes l).closeIfDone l

/-- A NOTE STACKED report (R101; log 40 for a QUEUED session). Whether the recycler stacked by default shows in the destination alone. -/
def State.noteStacked (s : State) (l : Lane) (note : Nat) (reached : StackDest) : State :=
  match s.transitOf l note with
  | some t =>
    let s := (s.touchSession l).unlist l note
    let s := (s.creditNote l t reached).tallyStack l t reached
    ((s.noteTimes l).applyCap l).closeIfDone l
  | none =>
    let s := s.markUnreconciled (stackCassette reached)
    (s.record (strayEntry l .strayStack [.note note 0, .dest (.store reached)])).strayLanding l

/-- A NOTE RETURNED report (R102; log 40 for a QUEUED session). -/
def State.noteReturned (s : State) (l : Lane) (note : Nat) : State :=
  match s.transitOf l note with
  | some t =>
    let s := (s.touchSession l).unlist l note
    let s := s.mapSession l fun x => { x with returned := narrow 65535 (x.returned + 1) }
    let s := match t.dest with
      | .store d =>
        let s := (s.lowerInbound (stackCassette d)).mapSession l fun x => { x with committed := x.committed - 1 }
        s.record (s.sessionEntry l .routeNotFollowed [.note note t.denom, .dest t.dest])
      | .toCustomer => s
    (s.noteTimes l).closeIfDone l
  | none => (s.record (strayEntry l .strayNote [.note note 0])).strayLanding l

/-- An ACCEPT ENDED report (R105). -/
def State.acceptEnded (s : State) (l : Lane) : State :=
  match (s.session l).map Session.state with
  | some .ending => ((s.touchSession l).mapSession l fun x => { x with ended := true }).closeIfDone l
  | some .active => ((s.touchSession l).enterEnding l .recyclerEnded).closeIfDone l
  | _ => s.record (strayEntry l .strayEnd [])

/-! ## Closing, expiries, notices -/

/-- CLOSE DEPOSIT's effect once its checks have passed (R104, R97), with its result code. -/
def State.closeDeposit (s : State) (l : Lane) : State × Code :=
  let s := s.touchSession l
  if (s.session l).any fun x => x.state == .active then (s.enterEnding l .close, .accepted)
  else if s.waits fun e => e.isAcceptOf l then
    ((s.dropWork fun e => e.isAcceptOf l).closeSession l (some .done) false, .done)
  else (s.mapSession l fun x => { x with endCause := some .close }, .accepted)

/-- The idle timer expires (R103). -/
def State.idleExpired (s : State) (l : Lane) : State := (s.touchSession l).enterEnding l .idle

/-- The end timer expires (R105). -/
def State.endExpired (s : State) (l : Lane) : State :=
  (s.touchSession l).onSession l fun s x =>
    if x.transit = [] then
      (s.mapSession l fun x => { x with flags := { x.flags with endUnconfirmed := true } }).closeSession l none false
    else s.sessionInDoubt l false

/-- An ACCEPT entry handed back by a flush (R106). -/
def State.acceptFlushed (s : State) (l : Lane) (code : Code) : State := (s.touchSession l).closeSession l (some code) false

/-- Deposit Control on the setting of the lockdown latch, the flush being done (R106). -/
def State.depositLockdown (s : State) : State :=
  s.forEach (List.finRange 6) fun s l =>
    s.onSession l fun s x => if x.state = .active then (s.touchSession l).enterEnding l .lockdown else s

/-- Deposit Control on an isolation of the recycler node (R97, R107). -/
def State.depositIsolated (s : State) : State :=
  s.forEach (List.finRange 6) fun s l =>
    s.onSession l fun s x =>
      if x.running then s.sessionInDoubt l true
      else if s.runs fun e => e.isAcceptOf l then s.closeSession l (some .recyclerFault) true
      else s

/-- Close with no notes, for a fault of the recycler, the QUEUED sessions whose lane has a property (R106, R107). -/
def State.closeQueued (s : State) (p : State → Lane → Bool) : State :=
  s.forEach (List.finRange 6) fun s l =>
    s.onSession l fun s x => if x.state = .queued ∧ p s l then s.closeSession l (some .recyclerFault) true else s

/-- Deposit Control's part of a DEPOSIT JAM, before Cash Position is told: the lane's session ends IN DOUBT, or the jam is a stray
one; a QUEUED session whose ACCEPT is the running entry is closed, since the flush to come hands only waiting ones back (R107). -/
def State.depositJam (s : State) (l : Lane) : State :=
  let s := if (s.session l).any Session.running then s.sessionInDoubt l true else s.record (strayEntry l .strayJam [])
  s.closeQueued fun s m => s.runs fun e => e.isAcceptOf m

/-- Deposit Control on a fault of the recycler, the flush being done. DESIGN CHOICE: a session still QUEUED, whose running ACCEPT
entry left as a PICK JAM of another record came (R86), is closed as the flushed ones are (R106; log 86). -/
def State.depositFaulted (s : State) : State := s.closeQueued fun _ _ => true

/-! ## Soft reset (R110) -/

/-- Resolve one slot at a soft reset (R110). The listed destinations become UNRECONCILED, and their inbound counts are kept (R93;
log 84). DESIGN CHOICE: the report of a QUEUED session's closing carries no code (log 85). -/
def State.resetSession (s : State) (l : Lane) : State :=
  s.onSession l fun s x =>
    if x.running then
      let s := if x.transit = [] then s.closeSession l none false else s.sessionDoubted l false State.markDest
      s.post s.recyclerEntry .deposit (.acceptEnd l)
    else s.closeSession l none false

/-- Deposit Control's soft reset (R110). -/
def State.resetSessions (s : State) : State := s.forEach (List.finRange 6) State.resetSession

end Sys2Proof.Machine
end

