-- ==== Sys2Proof/Machine/Recycler.lean ====
section
/-! DEFINITION. Cash Position's recycler (5.6 to 5.8): the arbiter, the recycler becoming FAULTED, pick reports as the recycler
hands them over, the ends of PICK and STATUS QUERY exchanges, withdrawals, the lockdown flush, the Exchange Authorisation, and
Cash Position's part of a soft reset. -/

namespace Sys2Proof.Machine

open Sys2Proof

/-! ## The arbiter (R89) -/

/-- OUT, SUSPENDED or UNRECONCILED in a cassette's latches. -/
def Cassette.latched (k : Cassette) : Bool := k.out || k.suspended || k.unreconciled

/-- The cassettes do not keep a plan's PICK from being sent (R89, R66). -/
def State.cassettesAllow (s : State) (plan : List PlanItem) : Bool :=
  !(plan.any fun i => (s.cassette i.cassette).latched)
    && !(s.cassette cassetteP).out && !(s.cassette cassetteP).suspended

/-- Whether an entry may start (R89). -/
def State.mayStart (s : State) (e : WorkEntry) : Bool :=
  match e.work with
  | .pick _ plan _ => s.trayFree && s.cassettesAllow plan && s.entryGood s.recyclerEntry
  | .accept _ => s.entryGood s.recyclerEntry

/-- The entry the arbiter would start: the first, or behind a PICK that may not start the first ACCEPT that may (R89). -/
def State.choice (s : State) : Option WorkEntry :=
  match s.cash.workQueue with
  | [] => none
  | e :: rest =>
    if s.mayStart e then some e
    else
      match e.work with
      | .pick .. => rest.find? fun x => (match x.work with | .accept _ => true | .pick .. => false) && s.mayStart x
      | .accept _ => none

/-- The arbiter decides only while the recycler is READY with no entry running and the lockdown latch is clear (R89). -/
def State.arbiterFree (s : State) : Bool :=
  s.cash.recycler == .ready && !(s.cash.workQueue.any fun e => e.running) && !s.alarm.lockdown

/-- Start an entry (R89): it is marked running, the recycler is BUSY, and its owner takes it. -/
def State.startEntry (s : State) (e : WorkEntry) : State :=
  let s := (s.mapWork fun q => q.map fun x => if x = e then { x with running := true } else x).mapCash fun k =>
    { k with recycler := .busy }
  match e.work with
  | .pick id _ _ =>
    match s.dispenseOf id with
    | some i => s.startPick i
    | none => s
  | .accept l => s.startAccept l

/-- The arbiter's decisions; a started entry whose operation ends in the same event lets it decide again. `fuel` bounds them by
the entries there are. -/
def State.arbitrateWith : Nat → State → State
  | 0, s => s
  | fuel + 1, s =>
    if s.arbiterFree then
      match s.choice with
      | some e => State.arbitrateWith fuel (s.startEntry e)
      | none => s
    else s

/-- The arbiter decides (R89). -/
def State.arbitrate (s : State) : State := s.arbitrateWith s.cash.workQueue.length

/-! ## FAULTED (R86) -/

/-- An entry removed from the queue is handed back to its owner (R86, R90). -/
def State.handBack (s : State) (e : WorkEntry) (pickCode : Option Code) (acceptCode : Code) : State :=
  match e.work with
  | .pick id _ _ => s.pickFlushed id pickCode
  | .accept l => s.acceptFlushed l acceptCode

/-- What follows the recycler's becoming FAULTED (R86). -/
def State.faultEffects (s : State) : State :=
  let s := s.mapCash fun k => { k with condition := .unknown }
  let s := s.dropWork fun e => e.running
  let flushed := s.cash.workQueue
  let s := s.mapWork fun _ => []
  let s := s.forEach flushed fun s e => s.handBack e (some .recyclerFault) .recyclerFault
  let s := s.dispenseFaulted.depositFaulted
  (s.record { kind := .recyclerFault }).send7 (.recyclerState s.cash.recycler)

/-- The recycler becomes FAULTED, from READY or BUSY (R86). -/
def State.becomeFaulted (s : State) : State :=
  if s.cash.recycler = .faulted then s else (s.mapCash fun k => { k with recycler := .faulted }).faultEffects

/-! ## Pick reports (R56, R79) -/

/-- Take a PICK REPORT or a COUNTS answer: reconciled with its record, or a late one. A JAM then acts on the others (R64). -/
def State.takePickReport (s : State) (tag : Nat) (f : PickFigures) (status : Nat) (moduleReason : Option Nat) : State :=
  match s.pickingWith tag with
  | none => s.latePickReport tag f status
  | some i =>
    let already := s.cash.recycler
    let s := s.reconcile i f status moduleReason
    if status = statusJam ∧ already ≠ .faulted then s.faultEffects else s.arbitrate

/-- The PICK exchange ended (R55). DESIGN CHOICE: each way it ends is an event at which DURESS joins the record's flags, an
acknowledgement too (log 67). -/
def State.pickEnded (s : State) (tag : Nat) (plan : List PlanItem) (r : Result) : State :=
  match s.pickingWith tag with
  | none => s
  | some i =>
    match r with
    | .good => s.touchDispense i
    | .refused reason => s.takePickReport tag (plan.map fun p => (p.cassette, 0, 0)) statusJam (some reason)
    | .silent | .damaged =>
      (s.touchDispense i).onDispense i fun s r =>
        if r.recovery = .notUnderWay then (s.enterRecovery i).arbitrate else s

/-! ## Withdrawals (R163) -/

/-- A PICK kept back for a RESTRICTED node, or for latched cassettes at a NOT RECEIVED answer (R163, R66): the entry waits
again; a first pick's record goes back to QUEUED. DESIGN CHOICE: the same where a fault has already taken the entry off the queue,
so that the record then has no entry to start (log 57). -/
def State.putBackPick (s : State) (i : DispenseSlot) : State :=
  s.onDispense i fun s r =>
    let s := s.unstart fun e => e.isPickOf r.id
    let s := s.mapDispenseAt i fun r => { r with reportTimer := none, pickTag := none, recovery := .notUnderWay }
    let s := if r.topUp.isNone then (s.mapDispenseAt i fun r => { r with state := .queued }).reportDispense i .queued else s
    s.arbitrate

/-- A PICK withdrawn at the front under lockdown: its entry leaves as the flush would have removed it (R163). -/
def State.cancelPick (s : State) (i : DispenseSlot) : State :=
  s.onDispense i fun s r =>
    let s := s.endOperation fun e => e.isPickOf r.id
    let s := s.mapDispenseAt i fun r => { r with reportTimer := none, recovery := .notUnderWay }
    if r.topUp.isSome then s.decidePartial i else s.endDispense i .cancelled r.notes

/-- A PICK is withdrawn at the front of the outgoing queue; `s.alarm.lockdown` says why (R163; log 19). -/
def State.pickWithdrawn (s : State) (tag : Nat) : State :=
  match s.pickingWith tag with
  | none => s
  | some i =>
    let s := s.touchDispense i
    if s.alarm.lockdown then s.cancelPick i else s.putBackPick i

/-- An ACCEPT BEGIN is withdrawn at the front (R163, R97). -/
def State.acceptWithdrawn (s : State) (l : Lane) (live : Bool) : State :=
  if live then
    (s.touchSession l).onSession l fun s x =>
      if s.alarm.lockdown then s.closeSession l (some .condition) false
      else if x.endCause = some .close then (s.closeSession l (some .done) false).arbitrate
      else (s.unstart fun e => e.isAcceptOf l).arbitrate
  else s

/-! ## STATUS QUERY (R66) -/

/-- What a STATUS QUERY brought: an answer, or no valid one (R66). -/
inductive QueryAnswer
  | counts (f : PickFigures) (status : Nat)
  | running
  | notReceived
  | noValid
  deriving DecidableEq, Repr

/-- NOT RECEIVED (R66): the one re-issue, or the entry put back while a cassette is latched, or IN DOUBT. DESIGN CHOICE: an entry put
back keeps the query count until its PICK is sent again (log 92). -/
def State.reIssue (s : State) (i : DispenseSlot) : State :=
  s.onDispense i fun s r =>
    let old := r.pickTag.getD 0
    if r.reissued then s.endInDoubt i true
    else if s.cassettesAllow r.currentPlan then
      let p := (s.mapDispenseAt i fun r => { r with reissued := true }).sendPick i
      let s := p.1.record { r.entry .reIssue with facts := [.tags old p.1.dispense.lastTag] }
      if p.2 then s else s.enterRecovery i
    else
      let s := s.mapDispenseAt i fun r => { r with reissued := true, flags := { r.flags with inDoubt := false } }
      let s := s.record { r.entry .reIssue with facts := [.tag old] }
      s.putBackPick i

/-- A STATUS QUERY's exchange ended (R66). Its answer is discarded unless the record of its tag still waits for it. DESIGN CHOICE: an
IN DOUBT that a refused third query brings carries no module's reason (log 11). -/
def State.queryEnded (s : State) (tag : Nat) (a : QueryAnswer) : State :=
  match s.findDispense fun r => r.state == .picking && r.pickTag == some tag && r.recovery == .querying with
  | none => s
  | some i =>
    let s := s.touchDispense i
    match a with
    | .counts f status => s.takePickReport tag f status none
    | .running => s.mapDispenseAt i fun r => { r with recovery := .waiting, reportTimer := some (s.timer reportLimit) }
    | .notReceived => (s.reIssue i).arbitrate
    | .noValid => (s.nextQuery i).arbitrate

/-- The report timer of a picking record expires (R55, R66). -/
def State.pickReportExpired (s : State) (i : DispenseSlot) : State :=
  (s.touchDispense i).onDispense i fun s r =>
    match r.recovery with
    | .notUnderWay => (s.enterRecovery i).arbitrate
    | .querying => s
    | .waiting => (s.nextQuery i).arbitrate

/-! ## RETRACT (R62) -/

/-- A RETRACT refused, or its report timer expired: IN DOUBT, no cassette marked (R62). -/
def State.retractLost (s : State) (i : DispenseSlot) (detail : Nat := 0) : State :=
  ((s.touchDispense i).endInDoubt i false detail).arbitrate

/-- A RETRACT exchange ended (R62): only a refusal acts, on the record whose RETRACT it was: the one the order's tag names, a
dropped tag as the order carried it (log 49). DESIGN CHOICE: an acknowledged or SILENT one is no event at which DURESS joins the
record's flags (log 67). -/
def State.retractEnded (s : State) (tag : Nat) (r : Result) : State :=
  match r with
  | .refused reason =>
    match s.findDispense fun r => r.state == .presented && r.trayTag == tag && r.flags.retractOrdered with
    | some i => s.retractLost i reason
    | none => s
  | _ => s

/-! ## The Exchange Authorisation (R83, R85) -/

/-- How long an authorisation lasts, 300 s (R83). -/
def exchangeLimit : Nat := 300000

/-- Open the authorisation once a CONFIRM of EXCHANGE CASSETTE completes (R83); `who` holds the confirming console's fields of a
record (R17). DESIGN CHOICE: the record names the cassette (log 75). -/
def State.openExchange (s : State) (c : CassetteId) (who : Entry) : State × Code :=
  if s.alarm.lockdown then (s, .condition)
  else if s.cash.exchange.isSome then (s, .wrongState)
  else if (s.cassette c).out then (s, .wrongState)
  else if s.workInFlight c then (s, .wrongState)
  else
    let s := s.mapCash fun k => { k with exchange := some { cassette := c, expiry := s.timer exchangeLimit } }
    let s := s.changeCassette c fun k => { k with causes := { k.causes with exchange := true } }
    (s.record { who with kind := .exchangeOpen, facts := [.cassette c] }, .done)

/-- The authorisation ends, for whatever reason (R85). DESIGN CHOICE: the record names the cassette beside the reason (log 75), and
the report carries both (log 78). -/
def State.endExchange (s : State) (why : Cause) : State :=
  match s.cash.exchange with
  | none => s
  | some a =>
    let s := s.mapCash fun k => { k with exchange := none }
    let s := s.changeCassette a.cassette fun k => { k with causes := { k.causes with exchange := false } }
    let s := s.record { kind := .exchangeEnd, facts := [.cassette a.cassette, .cause why] }
    s.send7 (.exchangeEnd a.cassette why)

/-! ## CASSETTE IN (R84) -/

/-- The recycler reports CASSETTE IN (R84); any CASSETTE IN for its cassette ends an authorisation (R85). DESIGN CHOICE: the record
names the cassette (log 75). -/
def State.cassetteIn (s : State) (c : CassetteId) : State :=
  let wasOut := (s.cassette c).out
  let s := s.changeCassette c fun k =>
    { k with out := false, unreconciled := true, reinserted := k.reinserted || wasOut }
  let s := if s.cash.exchange.any fun a => a.cassette == c then s.endExchange .cassetteIn else s
  (s.record { kind := .cassetteIn, facts := [.cassette c] }).arbitrate

/-! ## Lockdown and reset (R90, R93) -/

/-- Cash Position on the setting of the lockdown latch (R90). -/
def State.lockdownFlush (s : State) : State :=
  let flushed := s.cash.workQueue.filter fun e => !e.running
  let s := s.mapWork fun q => q.filter fun e => e.running
  let s := s.forEach flushed fun s e => s.handBack e none .condition
  (s.post s.recyclerEntry .cash .lockBays).endExchange .lockdown

/-- Cash Position on the clearing of the lockdown latch (R90). -/
def State.lockdownLifted (s : State) : State := (s.post s.recyclerEntry .cash .unlockBays).arbitrate

/-- Cash Position's soft reset (R93). -/
def State.resetCash (s : State) : State :=
  let s := s.mapCash fun k =>
    { k with workQueue := [], recycler := if k.recycler = .busy then .ready else k.recycler }
  let s := s.endExchange .softReset
  if s.alarm.lockdown then s.post s.recyclerEntry .cash .lockBays else s

/-- Cash Position on an isolation of the recycler node, Dispense Control and Deposit Control having acted (R165, R86). -/
def State.recyclerIsolated (s : State) : State := s.dispenseIsolated.depositIsolated.becomeFaulted

/-- A DEPOSIT JAM (R107): Deposit Control first, then the recycler is FAULTED. -/
def State.takeDepositJam (s : State) (l : Lane) : State := (s.depositJam l).becomeFaulted

end Sys2Proof.Machine
end

