-- ==== Sys2Proof/Machine/Envelope.lean ====
section
/-! DEFINITION. Envelope Control (chapter 7): the Envelope Table, insertions, captures and voids, the depository levels, the Safe
Opening Authorisation, and its part of a soft reset. -/

namespace Sys2Proof.Machine

open Sys2Proof

/-! ## Slots and counts (R111) -/

/-- A lane's Envelope Table slot. -/
def State.capture (s : State) (l : Lane) : Option Capture := s.envelope.slots[l]

/-- Set a slot. -/
def State.setCapture (s : State) (l : Lane) (x : Option Capture) : State :=
  s.mapEnvelope fun e => { e with slots := e.slots.set l x }

/-- Change an occupied slot; a free one stays free. -/
def State.mapCapture (s : State) (l : Lane) (f : Capture → Capture) : State := s.setCapture l ((s.capture l).map f)

/-- The occupied slots, in lane order. -/
def State.captures (s : State) : List Capture := s.envelope.slots.toList.filterMap id

/-- The in-progress count. -/
def State.inProgress (s : State) : Nat := s.captures.length

/-- The slot's number is the one reported. -/
def State.matchesCapture (s : State) (l : Lane) (number : Nat) : Bool := (s.capture l).any fun c => c.number == number

/-- The number issued after n (R111). -/
def nextNumber (n : Nat) : Nat := if n = 999999 then 1 else n + 1

/-! ## The depository (R112) -/

/-- DEPOSITORY WARN: the count at or above the capacity minus 20. -/
def State.depositoryWarn (s : State) : Bool := decide (s.envelope.setting.value - 20 ≤ s.envelope.count)

/-- DEPOSITORY FULL: the count equals the capacity. -/
def State.depositoryFull (s : State) : Bool := decide (s.envelope.count = s.envelope.setting.value)

/-- The DEPOSITORY report (R112). -/
def State.depositoryReport (s : State) : Report := .depository s.envelope.count s.envelope.setting.value s.inProgress

/-- A change of the count or of the capacity; a report follows when either cause comes to stand or ceases (R112). DEDUCED: one report,
also where a capacity write changes both causes (log 38). -/
def State.changeDepository (s : State) (f : EnvelopeControl → EnvelopeControl) : State :=
  let t := s.mapEnvelope f
  if s.depositoryWarn = t.depositoryWarn ∧ s.depositoryFull = t.depositoryFull then t else t.send7 t.depositoryReport

/-- The parity check of the depository setting (R112). -/
def State.checkDepositorySetting (s : State) : State :=
  if s.envelope.setting.check.parityGood then s
  else (s.mapEnvelope fun e => { e with setting := { e.setting with check := e.setting.check.read } }).tableFault .depository

/-! ## Reports (R114) -/

/-- Queue an ENVELOPE report to the lane's serving consoles with a copy to station 7; the flags, if the event has a slot, are in
that copy alone (R114). DESIGN CHOICE: a console's copy does not carry IN DOUBT either (log 70). -/
def State.reportEnvelope (s : State) (l : Lane) (e : EnvelopeEvent) (number : Option Nat)
    (flags : Option (Bool × Bool)) : State :=
  s.sendServing l 0 (.envelope (numberOf l) e number s.envelope.count none)
    (.envelope (numberOf l) e number s.envelope.count flags)

/-- An ENVELOPE report to station 7 alone (R118). -/
def State.reportEnvelope7 (s : State) (l : Lane) (e : EnvelopeEvent) (number : Option Nat) : State :=
  s.send7 (.envelope (numberOf l) e number s.envelope.count none)

/-- EJECT for a station node (R113). -/
def State.eject (s : State) (node : Nat) (l : Lane) : State := s.post (s.nodeEntry node) .envelope (.eject l)

/-! ## Insertions (R113, R114) -/

/-- The checks of an insertion, in order (R113). -/
def insertionChecks (l : Lane) (node : Nat) : List Step :=
  [ need (fun s => s.mgmt.partState == .inService) .notReady,
    need (fun s => !s.alarm.lockdown) .condition,
    need (fun s => s.envelope.safe.isNone) .wrongState,
    fun s =>
      let s := s.usePolicy l
      (s, if (s.policy l).check.faulted then some .tableFault
          else if (s.policy l).envelopeDrop then none else some .laneClosed),
    need (fun s => !(s.laneRec l).holds.envelope) .laneHeld,
    need (fun s => (s.capture l).isNone) .laneBusy,
    need (fun s => s.entryGood (s.nodeEntry node)) .nodeUnavailable,
    fun s =>
      let s := s.checkDepositorySetting
      (s, if s.envelope.setting.check.faulted then some .tableFault
          else if s.envelope.count + s.inProgress < s.envelope.setting.value then none else some .depositoryFull),
    need State.journalAdmits .journalFull ]

/-- The completion time of a capture, 15 s (R111). -/
def completionLimit : Nat := 15000

/-- An insertion that passed every check is admitted (R114). DESIGN CHOICE: the record's value is the number (log 76). -/
def State.admitEnvelope (s : State) (l : Lane) (node : Nat) : State :=
  let number := s.envelope.counter
  let s := s.mapEnvelope fun e => { e with counter := nextNumber e.counter }
  let s := s.setCapture l (some
    { number := number, start := s.now, timer := s.timer completionLimit, node := node, duress := s.alarm.duress })
  let s := s.reserve
  let s := s.post (s.nodeEntry node) .envelope (.capture l number)
  let s := s.record { kind := .envelopeAdmitted, lane := numberOf l, value := number }
  s.reportEnvelope l .capturing (some number) (some (s.alarm.duress, false))

/-- The lane station of a node reports ENVELOPE INSERTED (R113). -/
def State.envelopeInserted (s : State) (l : Lane) (node : Nat) : State :=
  match s.checks (insertionChecks l node) with
  | (s, none) => s.admitEnvelope l node
  | (s, some reason) =>
    let s := s.eject node l
    let s := s.record { kind := .envelopeRefused, lane := numberOf l, facts := [.code reason] }
    s.reportEnvelope l (.refused reason) none none

/-! ## Voids (R117) -/

/-- The record of a capture's outcome (R116, R117). -/
def Capture.entry (c : Capture) (kind : RecordKind) (l : Lane) (count detail : Nat) (facts : List Fact) : Entry :=
  { kind := kind, lane := numberOf l, value := c.number, noteCount := count, detail := detail, facts := facts
    flags := { duress := c.duress, inDoubt := c.inDoubt } }

/-- DURESS joins a slot's flags if the latch stands (R116, R117). -/
def State.touchCapture (s : State) (l : Lane) : State :=
  s.mapCapture l fun c => { c with duress := c.duress || s.alarm.duress }

/-- Void a lane's capture (R117). `toEject`: the table calls for an EJECT. -/
def State.voidCapture (s : State) (l : Lane) (reason : VoidReason) (toEject : Bool) (facts : List Fact := []) : State :=
  let s := s.touchCapture l
  match s.capture l with
  | none => s
  | some c =>
    let s := s.outcome (c.entry .void l s.envelope.count reason.number facts)
    let s := if reason = .jammed then s.postHold l .envelope else s
    let s := if toEject then s.eject c.node l else s
    (s.reportEnvelope l (.void reason) (some c.number) (some (c.duress, c.inDoubt))).setCapture l none

/-- A CAPTURE withdrawn: WITHDRAWN, with an EJECT unless the node is ISOLATED (R115). DESIGN CHOICE: nothing where its slot was
voided before (log 61). -/
def State.withdrawCapture (s : State) (l : Lane) (number : Nat) : State :=
  match s.capture l with
  | some c => if c.number = number then s.voidCapture l .withdrawn (s.entryReachable (s.nodeEntry c.node)) else s
  | none => s

/-- The CAPTURE exchange ended (R115). DESIGN CHOICE: a refusal does nothing where its slot was voided before (log 61). -/
def State.captureEnded (s : State) (l : Lane) (number : Nat) (r : Result) : State :=
  match r with
  | .refused reason => if s.matchesCapture l number then s.voidCapture l .refused true [.moduleReason reason] else s
  | _ => s

/-- The station node of captures is ISOLATED (R117). -/
def State.envelopeIsolated (s : State) (node : Nat) : State :=
  s.forEach (List.finRange 6) fun s l =>
    if (s.capture l).any fun c => c.node == node then
      (s.mapCapture l fun c => { c with inDoubt := true }).voidCapture l .isolated false
    else s

/-! ## Station reports (R116, R117, R118) -/

/-- PRINTED (R116, R118); the record carries the capture's DURESS flag (R153). DESIGN CHOICE: a repeat is journaled as a second
ENVELOPE PRINTED with the fact `repeated` (log 60); ENVELOPE PRINTED and LATE PRINTED carry lane and number (log 76). -/
def State.envelopePrinted (s : State) (l : Lane) (number : Nat) : State :=
  if s.matchesCapture l number then
    let again := (s.capture l).any fun c => c.state == .dropping
    (s.mapCapture l fun c => { c with state := .dropping }).record
      { kind := .envelopePrinted, lane := numberOf l, value := number
        flags := { duress := (s.capture l).any Capture.duress }, facts := if again then [.repeated] else [] }
  else
    (s.record { kind := .latePrinted, lane := numberOf l, value := number }).reportEnvelope7 l .latePrinted (some number)

/-- CAPTURED (R116, R118). DESIGN CHOICE: the number of a LATE CAPTURE is the record's value (log 76). -/
def State.envelopeCaptured (s : State) (l : Lane) (number : Nat) : State :=
  if s.matchesCapture l number then
    let s := s.changeDepository fun e => { e with count := e.count + 1 }
    let s := s.touchCapture l
    match s.capture l with
    | none => s
    | some c =>
      let s := s.outcome (c.entry .captured l s.envelope.count 0 [])
      (s.reportEnvelope l .captured (some number) (some (c.duress, c.inDoubt))).setCapture l none
  else
    (s.record { kind := .lateCapture, lane := numberOf l, value := number }).reportEnvelope7 l .lateCapture (some number)

/-- JAMMED (R117, R118). DESIGN CHOICE: LATE JAMMED carries lane and number (log 76). -/
def State.envelopeJammed (s : State) (l : Lane) (number : Nat) : State :=
  if s.matchesCapture l number then s.voidCapture l .jammed false
  else
    ((s.record { kind := .lateJammed, lane := numberOf l, value := number }).postHold l .envelope).reportEnvelope7 l
      .lateJammed (some number)

/-- EJECTED, with or without a number (R117, R118). DESIGN CHOICE: ENVELOPE RETURNED carries the lane and the number, if any (log 76). -/
def State.envelopeEjected (s : State) (l : Lane) (number : Option Nat) : State :=
  if number.any fun n => s.matchesCapture l n then s.voidCapture l .ejected false
  else
    (s.record { kind := .envelopeReturned, lane := numberOf l, value := number.getD 0 }).reportEnvelope7 l
      .envelopeReturned number

/-! ## The Safe Opening Authorisation (R119 to R121) -/

/-- How long an authorisation waits, 300 s (R120). -/
def safeLimit : Nat := 300000

/-- Open the authorisation once a CONFIRM of EMPTY DEPOSITORY completes (R120); `who` holds the confirming console's fields of a
record (R17). DESIGN CHOICE: the depository count is the record's note count, its value 0 (log 62). -/
def State.openSafe (s : State) (who : Entry) : State × Code :=
  if s.alarm.lockdown then (s, .condition)
  else if s.envelope.safe.isSome then (s, .wrongState)
  else if s.inProgress ≠ 0 then (s, .wrongState)
  else
    ((s.mapEnvelope fun e => { e with safe := some (.waiting (s.timer safeLimit)) }).record
      { who with kind := .safeOpen, noteCount := s.envelope.count }, .done)

/-- The authorisation ends without an emptying (R121). -/
def State.closeSafe (s : State) (why : Cause) : State :=
  if s.envelope.safe.isSome then
    let s := (s.mapEnvelope fun e => { e with safe := none }).record { kind := .safeClose, facts := [.cause why] }
    s.send7 s.depositoryReport
  else s

/-- The consultation at a SAFE DOOR trip by ACTIVE; the Bool says whether it is authorised (R121). -/
def State.consultSafe (s : State) (l : LoopId) : State × Bool :=
  match s.envelope.safe with
  | none => (s, false)
  | some a =>
    let set := match a with
      | .waiting _ => [l]
      | .opened set => if l ∈ set then set else set ++ [l]
    ((s.mapEnvelope fun e => { e with safe := some (.opened set) }).record
      { kind := .safeDoorOpened, facts := [.loop l] }, true)

/-- The emptying is complete (R121). DESIGN CHOICE: the old count is the record's note count, its value 0 (log 62). DEDUCED: one
DEPOSITORY report stands for the causes that cease and for the emptying (log 38). -/
def State.emptied (s : State) : State :=
  let old := s.envelope.count
  let s := (s.mapEnvelope fun e => { e with count := 0 }).record { kind := .emptied, noteCount := old }
  (s.send7 s.depositoryReport).mapEnvelope fun e => { e with safe := none }

/-- A SECURE reading of a SAFE DOOR loop (R121, R148). -/
def State.safeSecured (s : State) (l : LoopId) : State :=
  match s.envelope.safe with
  | some (.opened set) =>
    if l ∈ set then
      let left := set.filter (· ≠ l)
      let s := s.mapEnvelope fun e => { e with safe := some (.opened left) }
      if left = [] then s.emptied else s
    else s
  | _ => s

/-! ## Lockdown and reset (R115, R121, R122) -/

/-- Remove a CAPTURE from the outgoing queue; the Bool says whether it was there. -/
def State.pullCapture (s : State) (l : Lane) (number : Nat) : State × Bool :=
  let mine := fun (f : Frame) => f.content == .order (.capture l number)
  (s.mapBus fun b => { b with outgoing := b.outgoing.filter fun f => !mine f }, s.bus.outgoing.any mine)

/-- Envelope Control on the setting of the lockdown latch (R115, R121). -/
def State.envelopeLockdown (s : State) : State :=
  let s := s.forEach (List.finRange 6) fun s l =>
    match s.capture l with
    | none => s
    | some c =>
      let p := s.pullCapture l c.number
      if p.2 then p.1.withdrawCapture l c.number else s
  match s.envelope.safe with
  | some (.waiting _) => s.closeSafe .lockdown
  | _ => s

/-- Envelope Control's soft reset (R122). -/
def State.resetEnvelope (s : State) : State :=
  (s.forEach (List.finRange 6) fun s l => s.voidCapture l .reset false).closeSafe .softReset

end Sys2Proof.Machine
end

