-- ==== Sys2Proof/Machine/Tube.lean ====
section
/-! DEFINITION. The Tube Scheduler (chapter 8): carriers, the Tube Queue, the blower and its arbiter, arrivals and lifts, and its
part of a soft reset. One CARRIER report tells of an event, with the fields as the event leaves them (log 20). -/

namespace Sys2Proof.Machine

open Sys2Proof

/-! ## Carriers (R123) -/

/-- A Carrier Record. -/
def State.carrier (s : State) (l : Lane) : Carrier := s.tube.carriers[l]

/-- Change a Carrier Record. -/
def State.mapCarrier (s : State) (l : Lane) (f : Carrier → Carrier) : State :=
  s.mapTube fun t => { t with carriers := t.carriers.set l (f t.carriers[l]) }

/-- Moving: OUTBOUND or INBOUND. -/
def Carrier.moving (c : Carrier) : Bool := c.location == .outbound || c.location == .inbound

/-- The location that stands for an end. -/
def TubeEnd.place : TubeEnd → Location
  | .teller => .teller
  | .lane => .lane

/-- The end a moving carrier goes to; none for one that does not move. -/
def Carrier.destination (c : Carrier) : Option TubeEnd :=
  match c.location with
  | .outbound => some .lane
  | .inbound => some .teller
  | _ => none

/-- The end a moving carrier left; none for one that does not move. -/
def Carrier.origin (c : Carrier) : Option TubeEnd :=
  match c.location with
  | .outbound => some .teller
  | .inbound => some .lane
  | _ => none

/-- The end a request's carrier leaves (R135). -/
def Direction.origin : Direction → TubeEnd
  | .toLane => .teller
  | .toTeller => .lane

/-- The direction of a moving carrier. -/
def Carrier.direction (c : Carrier) : Direction := if c.location = .inbound then .toTeller else .toLane

/-- Queue a CARRIER report (R123). -/
def State.reportCarrier (s : State) (l : Lane) (e : CarrierEvent) (code : Option Code := none) : State :=
  let c := s.carrier l
  let r : Report := .carrier (numberOf l) e c.location c.seated c.bound.isSome c.bound code
  s.sendServing l 0 r r

/-- Notify Dispense Control that a carrier, whose binding is cleared, is back at TELLER unlifted (R67). -/
def State.notifyBack (s : State) (bound : Option Nat) : State :=
  match bound with
  | some id => s.noticeBack id
  | none => s

/-! ## The Tube Queue (R124) -/

/-- The lane's request. -/
def State.requestOf (s : State) (l : Lane) : Option Request := s.tube.requests.find? fun r => r.lane = l

/-- Take the lane's request off the queue. -/
def State.dropRequest (s : State) (l : Lane) : State :=
  s.mapTube fun t => { t with requests := t.requests.filter fun r => r.lane ≠ l }

/-- A removal other than a grant or a soft reset (R124). DESIGN CHOICE: its record carries nothing of a console whose order brings it
(log 89). -/
def State.removeRequest (s : State) (l : Lane) (code : Code) : State :=
  match s.requestOf l with
  | none => s
  | some r =>
    let bound := if r.direction = .toLane then (s.carrier l).bound else none
    let s := s.dropRequest l
    let s := if bound.isSome then s.mapCarrier l fun c => { c with bound := none } else s
    let s := s.record { kind := .requestRemoved, lane := numberOf l, facts := [.direction r.direction, .code code] }
    (s.notifyBack bound).reportCarrier l .removed (some code)

/-- A BLOWER entry whose node is not ISOLATED (R125). -/
def State.blowerUsable (s : State) : Bool := s.entryReachable s.blowerEntry

/-! ## The blower (R128, R129, R130) -/

/-- The parity check of the tube setting (R128). -/
def State.checkTubeSetting (s : State) : State :=
  if s.tube.setting.check.parityGood then s
  else (s.mapTube fun t => { t with setting := { t.setting with check := t.setting.check.read } }).tableFault .tube

/-- The rest time in ms as a timer reads it: 300 if FAULTED (R128). -/
def State.restTime (s : State) : Nat := if s.tube.setting.check.faulted then 300 else s.tube.setting.value

/-- The movement of a lane releases the blower (R129): RESTING, or IDLE at once with a rest time of 0. -/
def State.releaseBlower (s : State) (l : Lane) : State :=
  if s.tube.blower = .moving l then
    let s := s.checkTubeSetting
    s.mapTube fun t => { t with blower := if s.restTime = 0 then .idle else .resting (s.timer s.restTime) }
  else s

/-- The request a comparison prefers (R129): TO TELLER first, then the older, then the lower lane. -/
def Request.before (now : Time) (a b : Request) : Bool :=
  if a.direction = b.direction then
    decide (age now b.arrival < age now a.arrival) || (age now b.arrival == age now a.arrival && decide (a.lane ≤ b.lane))
  else a.direction == .toTeller

/-- The first of a list by an order. -/
def firstBy {α : Type} (better : α → α → Bool) : List α → Option α
  | [] => none
  | x :: xs =>
    match firstBy better xs with
    | none => some x
    | some y => if better x y then some x else some y

/-- The request the blower arbiter would grant (R129). -/
def State.nextGrant (s : State) : Option Request :=
  firstBy (Request.before s.now) (s.tube.requests.filter fun r => !s.alarm.lockdown || r.direction == .toTeller)

/-- The transit limit in ms as a grant reads it: 8,000 for a FAULTED copy (R130, R3). -/
def State.transitLimit (s : State) (l : Lane) : Nat :=
  if (s.policy l).check.faulted then 8000 else (s.policy l).transitLimit

/-- Grant a request (R130). A BLOWER MOVE that finds the outgoing queue full is SILENT, and the movement stands as granted.
DESIGN CHOICE: the CARRIER MOVE record is the arbiter's and carries no console's fields (log 54), but the lane and the direction of the
movement (log 90). -/
def State.grant (s : State) (r : Request) : State :=
  let s := s.dropRequest r.lane
  let s := s.mapCarrier r.lane fun c =>
    { c with location := if r.direction = .toLane then .outbound else .inbound, seated := false, moveStart := s.now }
  let s := s.usePolicy r.lane
  let limit := s.transitLimit r.lane
  let s := s.mapCarrier r.lane fun c => { c with timer := if limit = 0 then none else some (s.timer limit) }
  let s := s.mapTube fun t => { t with blower := .moving r.lane }
  let s := s.post s.blowerEntry .tube (.blowerMove r.lane r.direction)
  let s := s.record { kind := .carrierMove, lane := numberOf r.lane, facts := [.direction r.direction] }
  s.reportCarrier r.lane .moving

/-- The blower arbiter decides (R129). -/
def State.arbitrateBlower (s : State) : State :=
  if s.tube.blower = .idle ∧ s.entryGood s.blowerEntry then
    match s.nextGrant with
    | some r => s.grant r
    | none => s
  else s

/-- A request joins (R124), and the arbiter decides. `bind`: the dispense its carrier is bound to in the same event (R125). -/
def State.joinRequest (s : State) (l : Lane) (d : Direction) (origin : Origin) (bind : Option Nat) : State :=
  let s := s.mapTube fun t =>
    { t with requests := t.requests ++ [{ lane := l, direction := d, origin := origin, arrival := s.now }] }
  let s := if bind.isSome then s.mapCarrier l fun c => { c with bound := bind } else s
  let s := s.reportCarrier l .queued
  let s := match bind with
    | some id => s.noticeBound id
    | none => s
  s.arbitrateBlower

/-- The dispense SEND CARRIER binds: the lane's open dispense if its record is TAKEN (R125). -/
def State.toBind (s : State) (l : Lane) : Option Nat :=
  match (s.laneRec l).txn with
  | some (.dispense id) =>
    (s.dispenseOf id).bind fun i => s.dispense.records[i].bind fun r => if r.state = .taken then some id else none
  | _ => none

/-! ## Arrival, overdue, late arrival (R131 to R134) -/

/-- The movement of a lane has ended, so its BLOWER MOVE's result acts on nothing (R130; log 14). -/
def State.retireMove (s : State) (l : Lane) : State := s.retire (.blowerMove l (s.carrier l).direction)

/-- A moving carrier arrives at an end (R131). -/
def State.arrive (s : State) (l : Lane) (e : TubeEnd) : State :=
  let c := s.carrier l
  let back := if e = .teller then c.bound else none
  let s := (s.retireMove l).mapCarrier l fun c =>
    { c with timer := none, location := e.place, seated := true, bound := if e = .teller then none else c.bound }
  let s := s.releaseBlower l
  let s := s.record
    { kind := .carrierArrived, lane := numberOf l, facts := [.tubeEnd e]
      flags := { wrongEnd := decide (c.origin = some e) } }
  (s.reportCarrier l .arrived).notifyBack back

/-- The first report that places an UNKNOWN carrier (R133). -/
def State.lateArrival (s : State) (l : Lane) (e : TubeEnd) (seated : Bool) : State :=
  let c := s.carrier l
  let back := if e = .teller then c.bound else none
  let s := s.mapCarrier l fun c =>
    { c with location := e.place, seated := seated, cause := none, bound := if e = .teller then none else c.bound }
  let s := s.record
    { kind := .lateArrival, lane := numberOf l, facts := .tubeEnd e :: (c.cause.map Fact.unknownCause).toList }
  (s.reportCarrier l .lateArrival).notifyBack back

/-- STRAY CARRIER (R131, R135). DESIGN CHOICE: the record carries the lane and the end reported (log 90). -/
def State.strayCarrier (s : State) (l : Lane) (e : TubeEnd) : State :=
  s.record { kind := .strayCarrier, lane := numberOf l, facts := [.tubeEnd e] }

/-- An ARRIVED report (R131, R133). DESIGN CHOICE: a repeat is journaled as CARRIER ARRIVED with the fact `repeated` (log 60), its lane
and its end (log 90), and a carrier lifted at an end counts as one that sits there (log 63). -/
def State.takeArrived (s : State) (l : Lane) (e : TubeEnd) : State :=
  let c := s.carrier l
  let s :=
    if c.moving then s.arrive l e
    else if c.location = .unknown then s.lateArrival l e true
    else if c.location = e.place then
      s.record { kind := .carrierArrived, lane := numberOf l, facts := [.tubeEnd e, .repeated] }
    else s.strayCarrier l e
  s.arbitrateBlower

/-- How a movement ends with the carrier unaccounted for. -/
structure Lost where
  cause : UnknownCause
  kind : RecordKind
  event : CarrierEvent

/-- A moving carrier becomes UNKNOWN (R132, R134): BLOWER STOP, the blower released, CARRIER posted. -/
def State.overdue (s : State) (l : Lane) (k : Lost) : State :=
  let c := s.carrier l
  let s := (s.retireMove l).mapCarrier l fun c =>
    { c with location := .unknown, cause := some k.cause, seated := false, timer := none }
  let s := if s.blowerUsable then s.post s.blowerEntry .tube .blowerStop else s
  let s := (s.releaseBlower l).postHold l .carrier
  let s := s.record
    { kind := k.kind, lane := numberOf l
      facts := [.direction c.direction, .stored [(c.timer.map Timer.duration).getD 0]] }
  (s.reportCarrier l k.event).arbitrateBlower

/-- The transit timer expires (R132). -/
def lostOverdue : Lost := { cause := .overdue, kind := .carrierOverdue, event := .overdue }

/-- CLEAR TUBE (R134). -/
def lostCleared : Lost := { cause := .cleared, kind := .carrierCleared, event := .cleared }

/-- BLOWER MOVE refused or withdrawn: the carrier never left (R130). -/
def State.moveRefused (s : State) (l : Lane) (why : Cause) (reason : Nat) : State :=
  let c := s.carrier l
  match c.origin with
  | none => s
  | some o =>
    let back := if o = .teller then c.bound else none
    let s := s.mapCarrier l fun c =>
      { c with timer := none, location := o.place, seated := true, bound := if o = .teller then none else c.bound }
    let s := s.mapTube fun t => { t with blower := .idle }
    let s := s.record { kind := .blowerRefused, lane := numberOf l, detail := reason, facts := [.cause why] }
    ((s.reportCarrier l .refused).notifyBack back).arbitrateBlower

/-- A BLOWER MOVE exchange ended (R130). -/
def State.blowerMoveEnded (s : State) (l : Lane) (live : Bool) (r : Result) : State :=
  match r with
  | .refused reason => if live then s.moveRefused l .refused reason else s
  | _ => s

/-- A BLOWER MOVE was withdrawn (R130, R163). -/
def State.blowerMoveWithdrawn (s : State) (l : Lane) (live : Bool) : State :=
  if live then s.moveRefused l .withdrawn 0 else s

/-! ## At the terminals (R135) -/

/-- The consequences of a lift at an end (R135): delivery, then a request withdrawn. DESIGN CHOICE: one LIFTED report tells of both
the seated flag and the unbinding; at the LANE end an UNKNOWN bound carrier has it too, behind its LATE ARRIVAL (log 72). -/
def State.lift (s : State) (l : Lane) (e : TubeEnd) : State :=
  let c := s.carrier l
  let delivered := if e = .lane then c.bound else none
  let s := s.mapCarrier l fun c => { c with seated := false, bound := if e = .lane then none else c.bound }
  let s := if c.seated ∨ delivered.isSome then s.reportCarrier l .lifted else s
  let s := match delivered with
    | some id => s.noticeLifted id
    | none => s
  if (s.requestOf l).any fun r => r.direction.origin == e then s.removeRequest l .carrierAbsent else s

/-- CARRIER SEATED (R135). -/
def State.takeSeated (s : State) (l : Lane) (e : TubeEnd) : State :=
  let c := s.carrier l
  let s :=
    if c.location = e.place then
      if c.seated then s else (s.mapCarrier l fun c => { c with seated := true }).reportCarrier l .seated
    else if c.destination = some e then s.arrive l e
    else if c.location = .unknown then s.lateArrival l e true
    else s.strayCarrier l e
  s.arbitrateBlower

/-- CARRIER LIFTED (R135). -/
def State.takeLifted (s : State) (l : Lane) (e : TubeEnd) : State :=
  let c := s.carrier l
  let s :=
    if c.location = e.place then s.lift l e
    else if c.destination = some e then (s.arrive l e).lift l e
    else if c.location = .unknown then (s.lateArrival l e false).lift l e
    else s.strayCarrier l e
  s.arbitrateBlower

/-- The first condition of R127 that fails. -/
def State.sendFault (s : State) (l : Lane) : Option Cause :=
  let c := s.carrier l
  if c.location ≠ .lane ∨ c.seated = false then some .notSeated
  else if (s.requestOf l).isSome then some .alreadyQueued
  else if s.blowerUsable then none
  else some .noBlower

/-- SEND PRESSED (R127). -/
def State.takeSendPressed (s : State) (l : Lane) : State :=
  match s.sendFault l with
  | none => s.joinRequest l .toTeller .customer none
  | some why => s.record { kind := .sendIgnored, lane := numberOf l, facts := [.cause why] }

/-! ## Lockdown, blower health, reset (R136 to R138) -/

/-- The Tube Scheduler on the setting of the lockdown latch (R136). -/
def State.tubeLockdown (s : State) : State :=
  s.forEach (s.tube.requests.filter fun r => r.direction == .toLane) fun s r => s.removeRequest r.lane .condition

/-- A moving carrier under blower isolation (R137). DESIGN CHOICE: its CARRIER OVERDUE record names the direction and the cause and
not the limit (log 73), and fills the lane (log 90). -/
def State.isolateCarrier (s : State) (l : Lane) : State :=
  if (s.carrier l).moving then
    let d := (s.carrier l).direction
    let s := (s.retireMove l).mapCarrier l fun c =>
      { c with location := .unknown, cause := some .isolated, seated := false, timer := none }
    let s := s.postHold l .carrier
    let s := s.record { kind := .carrierOverdue, lane := numberOf l, facts := [.direction d, .cause .isolated] }
    s.reportCarrier l .overdue
  else s

/-- The blower node is ISOLATED (R137). -/
def State.blowerIsolated (s : State) : State :=
  let s := s.forEach (List.finRange 6) State.isolateCarrier
  let s := s.mapTube fun t => { t with blower := .idle }
  s.forEach s.tube.requests fun s r => s.removeRequest r.lane .nodeUnavailable

/-- The event a soft reset's CARRIER report names: R123 lists ten and none is given for it (log 20). -/
def resetEvent : CarrierEvent :=
  #v[CarrierEvent.queued, .removed, .moving, .arrived, .overdue, .lateArrival, .seated, .lifted, .refused,
    .cleared][Config.resetCarrierEvent]

/-- One lane's carrier at a soft reset (R138): unbound, and UNKNOWN if it was moving; a change is reported (R123). -/
def State.resetCarrier (s : State) (l : Lane) : State :=
  let before := s.carrier l
  let s := s.mapCarrier l fun c =>
    if c.moving then { c with bound := none, location := .unknown, cause := some .reset, seated := false, timer := none }
    else { c with bound := none }
  let s := if before.moving ∨ before.bound.isSome then s.reportCarrier l resetEvent else s
  if before.moving then s.postHold l .carrier else s

/-- The Tube Scheduler's soft reset (R138). -/
def State.resetTube (s : State) : State :=
  let s := s.mapTube fun t => { t with requests := [] }
  let s := s.forEach (List.finRange 6) State.resetCarrier
  match s.tube.blower with
  | .moving l => (if s.blowerUsable then s.post s.blowerEntry .tube .blowerStop else s).releaseBlower l
  | _ => s

end Sys2Proof.Machine
end

