-- ==== Sys2Proof/Machine/Alarm.lean ====
section
/-! DEFINITION. The Alarm Supervisor (chapter 9): loop readings, arming, qualification and trips, the two latches with their
outputs and notices, acknowledgement and clearing, its part of a soft reset; and the CASSETTE OUT that may lock the wall down. -/

namespace Sys2Proof.Machine

open Sys2Proof

/-! ## The Loop Table (R139, R140) -/

/-- A Loop Table entry. -/
def State.loop (s : State) (i : LoopId) : Loop := s.alarm.loops[i]

/-- Change a Loop Table entry. -/
def State.mapLoop (s : State) (i : LoopId) (f : Loop → Loop) : State :=
  s.mapAlarm fun a => { a with loops := a.loops.set i (f a.loops[i]) }

/-- The parity check of a loop's configuration (R140). DESIGN CHOICE: a qualify timer that already runs when the loop is found FAULTED
keeps its duration; 200 ms is for the timers that start from then (log 91). -/
def State.checkLoop (s : State) (i : LoopId) : State :=
  if (s.loop i).check.parityGood then s
  else (s.mapLoop i fun k => { k with check := k.check.read }).tableFault (.loop (numberOf i))

/-- A loop whose kind is not NONE (R139). -/
def Loop.configured (k : Loop) : Bool := k.kind != .none

/-- A loop that stands TRIPPED. -/
def Loop.tripped (k : Loop) : Bool := k.state == .tripped

/-- Whether a TRIPPED loop's applied response holds a response. -/
def Loop.applied (k : Loop) (r : Response) : Bool := k.tripped && k.trip.any fun t => t.applied.contains r

/-- The figures of a trip as its record and report give them (R146). -/
def Loop.tripFact (k : Loop) : Option Fact := k.trip.map fun t => .trip k.kind k.lane t.cause t.applied k.reading

/-- Queue a LOOP report to station 7 (R143, R146, R153). DESIGN CHOICE: each carries loop, state, current band and, in TRIPPED, the
trip's figures, not that of a trip alone (log 78), and the tag 0, in an order's own event too (log 79). -/
def State.reportLoop (s : State) (i : LoopId) : State :=
  let k := s.loop i
  s.send7 (.loop i k.state k.band k.tripFact)

/-- A journal record that names a loop. DESIGN CHOICE: its lane is the loop's configured lane, also where the rule names none
(log 75). -/
def State.recordLoop (s : State) (i : LoopId) (kind : RecordKind) (facts : List Fact := []) : State :=
  s.record { kind := kind, lane := (s.loop i).lane, facts := .loop i :: facts }

/-! ## Conditions and their reports (R150 to R152) -/

/-- The WALL CONDITION report to station 7, with both latches (R152). DESIGN CHOICE: its tag is 0, in an order's own event too (log
79). -/
def State.reportWall7 (s : State) : State := s.send7 (.wallCondition s.condition (some (s.alarm.duress, s.alarm.lockdown)))

/-- The WALL CONDITION report to the signed-on consoles, with the console view (R152). -/
def State.reportWallConsoles (s : State) : State := s.sendSignedOn (.wallCondition s.consoleCondition none)

/-- Write the duress latch; the silent-alarm output follows it (R150). -/
def State.setDuressLatch (s : State) (b : Bool) : State := s.mapAlarm fun a => { a with duress := b, silentOutput := b }

/-- Write the lockdown latch; the local-alarm output follows it (R151). -/
def State.setLockdownLatch (s : State) (b : Bool) : State := s.mapAlarm fun a => { a with lockdown := b, localOutput := b }

/-- A trip that applies DURESS (R150). -/
def State.raiseDuress (s : State) (i : LoopId) : State :=
  if s.alarm.duress then s
  else
    ((s.setDuressLatch true).recordLoop i .conditionSet [.condition .duress]).reportWall7

/-- A cause of LOCKDOWN is taken (R151): the output, the record, the owning blocks in order, the reports. -/
def State.raiseLockdown (s : State) (why : Cause) : State :=
  if s.alarm.lockdown then s
  else
    let s := s.setLockdownLatch true
    let s := s.record { kind := .conditionSet, facts := [.condition .lockdown, .cause why] }
    let s := s.lockdownFlush
    let s := s.dispenseLockdown
    let s := s.depositLockdown
    let s := s.envelopeLockdown
    let s := s.tubeLockdown
    s.reportWall7.reportWallConsoles

/-! ## Trips (R146, R147) -/

/-- A loop's number joins the suspension causes of cassettes 1 to 6 (R147, R77). -/
def State.suspendFor (s : State) (i : LoopId) : State :=
  s.forEach workCassettes fun s c =>
    s.changeCassette c fun k =>
      { k with causes := { k.causes with loops := if i ∈ k.causes.loops then k.causes.loops else k.causes.loops ++ [i] } }

/-- A loop's number leaves the suspension causes of cassettes 1 to 6 (R149, R139). -/
def State.unsuspendFor (s : State) (i : LoopId) : State :=
  s.forEach workCassettes fun s c =>
    if i ∈ (s.cassette c).causes.loops then
      s.changeCassette c fun k => { k with causes := { k.causes with loops := k.causes.loops.filter (· ≠ i) } }
    else s

/-- The responses of a trip by FAULT (R146). -/
def Loop.faultResponses (k : Loop) : List Response :=
  if k.kind = .tamper ∨ k.kind = .safeDoor then [.lockdown]
  else if 1 ≤ k.lane ∧ k.lane ≤ 6 then [.notify, .laneHold]
  else [.notify]

/-- The applied response of a trip (R146), with the consultation of Envelope Control where it is made. -/
def State.appliedTo (s : State) (i : LoopId) (cause : BandGroup) : State × List Response :=
  let k := s.loop i
  if k.check.faulted then (s, [.lockdown])
  else if cause = .fault then (s, k.faultResponses)
  else if k.kind = .safeDoor then
    let p := s.consultSafe i
    (p.1, if p.2 then [.notify] else [k.response])
  else (s, [k.response])

/-- The effect of one response (R147). -/
def State.respondTrip (s : State) (i : LoopId) (r : Response) : State :=
  match r with
  | .duress => s.raiseDuress i
  | .lockdown => s.raiseLockdown (.loop i)
  | .laneHold =>
    match numbered 6 (s.loop i).lane with
    | some l => s.postHold l .loop
    | none => s
  | .suspendCassettes => s.suspendFor i
  | .notify => s

/-- A loop trips with its candidate group as the cause (R146). -/
def State.tripLoop (s : State) (i : LoopId) : State :=
  let cause := ((s.loop i).candidate.map Prod.fst).getD .fault
  let s := s.mapLoop i fun k => { k with state := .tripped, candidate := none, qualifyTimer := none }
  let s := s.checkLoop i
  let p := s.appliedTo i cause
  let s := p.1.mapLoop i fun k => { k with trip := some { cause := cause, applied := p.2, time := s.now } }
  let s := s.forEach p.2 fun s r => s.respondTrip i r
  (s.recordLoop i .loopTrip (s.loop i).tripFact.toList).reportLoop i

/-! ## Arming and readings (R141, R143, R144, R148) -/

/-- The arm limit, 10 s (R143). -/
def armLimit : Nat := 10000

/-- A loop enters ARMING (R143). -/
def State.enterArming (s : State) (i : LoopId) : State :=
  s.mapLoop i fun k =>
    { k with state := .arming, armTimer := some (s.timer armLimit), armFailed := false, qualifyTimer := none
             candidate := none }

/-- A loop becomes DISARMED, its timers and marks cleared (R145, R139). -/
def State.disarm (s : State) (i : LoopId) : State :=
  s.mapLoop i fun k =>
    { k with state := .disarmed, armTimer := none, armFailed := false, qualifyTimer := none, candidate := none }

/-- A new candidate: its start and the qualify timer, 200 ms for a FAULTED configuration (R144, R140). DESIGN CHOICE: a restart for
the other group is a start, at which the parity is checked (log 81). -/
def State.startQualify (s : State) (i : LoopId) (g : BandGroup) : State :=
  let s := s.checkLoop i
  s.mapLoop i fun k =>
    { k with state := .qualifying, candidate := some (g, s.now)
             qualifyTimer := some (s.timer (if k.check.faulted then 200 else k.qualify)) }

/-- A reading taken in ARMING (R143). -/
def State.readArming (s : State) (i : LoopId) (g : BandGroup) : State :=
  if g = .secure then
    let s := s.mapLoop i fun k => { k with state := .watching, armTimer := none, armFailed := false }
    (s.recordLoop i .loopArmed).reportLoop i
  else s

/-- A reading taken in QUALIFYING (R144). -/
def State.readQualifying (s : State) (i : LoopId) (g : BandGroup) : State :=
  if g = .secure then s.mapLoop i fun k => { k with state := .watching, candidate := none, qualifyTimer := none }
  else if (s.loop i).candidate.any fun c => c.1 == g then s
  else s.startQualify i g

/-- A 5 ms reading of a loop (R141); an unconfigured loop is not read (R139). -/
def State.readLoop (s : State) (i : LoopId) (reading : Nat) : State :=
  let old := s.loop i
  let b := bandOf reading
  if old.configured then
    let s := s.mapLoop i fun k => { k with band := some b, reading := reading }
    match old.state with
    | .disarmed => s
    | .arming => s.readArming i b.group
    | .watching => if b.group = .secure then s else s.startQualify i b.group
    | .qualifying => s.readQualifying i b.group
    | .tripped => if old.kind = .safeDoor ∧ b = .secure ∧ old.band ≠ some .secure then s.safeSecured i else s
  else s

/-- The arm timer expires (R143). -/
def State.armExpired (s : State) (i : LoopId) : State :=
  let s := s.mapLoop i fun k => { k with armFailed := true, armTimer := none }
  (s.recordLoop i .armFailed [.band (s.loop i).band]).reportLoop i

/-! ## Acknowledgement and clearing (R149, R154, R155) -/

/-- A trip is ended as an acknowledgement ends it (R149, R139). -/
def State.endTrip (s : State) (i : LoopId) : State :=
  (s.unsuspendFor i).mapLoop i fun k => { k with state := .watching, trip := none }

/-- ACK LOOP's effects (R149). A released cassette lets the arbiter decide (R89). -/
def State.acknowledge (s : State) (i : LoopId) : State :=
  (((s.endTrip i).recordLoop i .loopAck).reportLoop i).arbitrate

/-- CLEAR CONDITION DURESS (R154). DESIGN CHOICE: the record names the condition cleared (log 75). -/
def State.clearDuress (s : State) : State × Code :=
  if s.alarm.duress = false then (s, .wrongState)
  else if (List.finRange 16).any fun i => (s.loop i).tripped && ((s.loop i).kind == .holdup || (s.loop i).applied .duress)
  then (s, .wrongState)
  else
    (((s.setDuressLatch false).record { kind := .conditionClear, facts := [.condition .duress] }).reportWall7, .done)

/-- CLEAR CONDITION LOCKDOWN once its CONFIRM completes (R155); `who` holds the confirming console's fields of a record (R17).
DESIGN CHOICE: the record names the condition cleared (log 75). -/
def State.clearLockdown (s : State) (who : Entry) : State × Code :=
  if s.alarm.lockdown = false then (s, .wrongState)
  else if (List.finRange 16).any fun i => (s.loop i).applied .lockdown then (s, .wrongState)
  else
    let s := s.setLockdownLatch false
    let s := s.record { who with kind := .conditionClear, facts := [.condition .lockdown] }
    let s := s.lockdownLifted.arbitrateBlower
    (s.reportWall7.reportWallConsoles, .done)

/-! ## CASSETTE OUT (R84) -/

/-- The tallies a cassette keeps, without its base, as a CASSETTE OUT record lists them (R74, R84). DESIGN CHOICE: items under the
cassette's code, as R188 has them for LOAD and RECONCILE (log 76). -/
def Cassette.tallyItems (k : Cassette) (c : CassetteId) : List (Nat × Nat) := (k.accountItems c).tail

/-- The recycler reports CASSETTE OUT (R84). DESIGN CHOICE: where its record holds count and tallies (log 76). -/
def State.cassetteOut (s : State) (c : CassetteId) : State :=
  let k := s.cassette c
  let removed : Entry := { kind := .cassetteOut, noteCount := k.count, items := k.tallyItems c, facts := [.cassette c] }
  if k.out then s.record removed
  else if s.cash.exchange.any fun a => a.cassette == c then
    (s.changeCassette c fun k => { k with out := true }).record removed
  else
    let s := s.changeCassette c fun k => { k with out := true }
    let s := s.record { kind := .unauthorisedRemoval, noteCount := k.count, facts := [.cassette c] }
    let s := s.raiseLockdown (.removal c)
    s.forEach (List.finRange 6) fun s l => s.postHold l .cash

/-! ## Soft reset (R157) -/

/-- A loop at a soft reset (R157). -/
def State.resetLoop (s : State) (i : LoopId) : State :=
  let k := s.loop i
  if k.configured && !k.tripped then
    if k.armMode = .always then s.enterArming i else s.disarm i
  else s

/-- The Alarm Supervisor's soft reset (R157). -/
def State.resetAlarm (s : State) : State := s.forEach (List.finRange 16) State.resetLoop

end Sys2Proof.Machine
end

