-- ==== Sys2Proof/Machine/Flags.lean ====
section
/-! DEFINITION. The attention set (R177): each level cause computed from its condition, each sticky cause from its mark, the two
views and their codes, and the attention line. -/

namespace Sys2Proof.Machine

open Sys2Proof

/-- Some loop has a property. -/
def State.anyLoop (s : State) (p : Loop → Bool) : Bool := (List.finRange 16).any fun i => p (s.loop i)

/-- A loop TRIPPED with a cause. -/
def Loop.trippedBy (k : Loop) (g : BandGroup) : Bool := k.tripped && k.trip.any fun t => t.cause == g

/-- LOOP TRIPPED as station 7 sees it (R148). -/
def State.loopTripped7 (s : State) : Bool := s.anyLoop fun k => k.trippedBy .active

/-- LOOP TRIPPED as consoles see it: not by loops whose applied response is DURESS (R148, R177). -/
def State.loopTrippedConsole (s : State) : Bool := s.anyLoop fun k => k.trippedBy .active && !k.applied .duress

/-- LOOP FAULT (R148). -/
def State.loopFault (s : State) : Bool :=
  s.anyLoop fun k => k.trippedBy .fault || (k.state == .arming && (k.band == some .shorted || k.band == some .cut))

/-- ARM FAILED (R143). -/
def State.armFailedStands (s : State) : Bool := s.anyLoop fun k => k.state == .arming && k.armFailed

/-- Some node has a health state; an entry whose node is 0 counts as none (R158, R164). -/
def State.anyNode (s : State) (h : Health) : Bool := (s.findModule fun m => m.health == h).isSome

/-- CASH CARRIER OVERDUE (R123). -/
def State.cashCarrierOverdue (s : State) : Bool :=
  (List.finRange 6).any fun l => (s.carrier l).location == .unknown && (s.carrier l).bound.isSome

/-- PURGE NEAR FULL (R78). -/
def State.purgeNearFull (s : State) : Bool := decide (240 < (s.cassette cassetteP).count)

/-- JOURNAL LOW: free less reserved is 64 or less (R171). -/
def State.journalLow (s : State) : Bool := decide (s.journal.free ≤ s.journal.reserved + 64)

/-- The causes of both views but LOOP TRIPPED and DURESS, with their codes, highest first (R177). -/
def State.commonCauses (s : State) : List (Nat × Bool) :=
  [ (20, s.alarm.lockdown), (18, s.loopFault), (17, s.mgmt.sticky.journalOverrun), (16, s.mgmt.sticky.tableFault),
    (15, s.anyNode .isolated), (14, s.cash.recycler == .faulted), (13, s.cashCarrierOverdue),
    (12, !s.dispense.inDoubtLanes.isEmpty), (11, s.anyUnreconciled), (10, s.depositoryFull), (9, s.anyNode .restricted),
    (8, s.purgeNearFull), (7, s.journalLow), (6, s.mgmt.sticky.reportLost), (5, s.armFailedStands),
    (4, s.mgmt.sticky.nodeWatch), (3, s.mgmt.sticky.cassetteLow), (2, s.depositoryWarn) ]

/-- The codes of the causes that stand, highest first, given LOOP TRIPPED's standing and DURESS's. -/
def standing (common : List (Nat × Bool)) (tripped duress : Bool) : List Nat :=
  let all := common.take 1 ++ [(19, tripped)] ++ common.drop 1 ++ [(1, duress)]
  all.filterMap fun c => if c.2 then some c.1 else none

/-- Station 7's view (R177). -/
def State.attention7 (s : State) : List Nat := standing s.commonCauses s.loopTripped7 s.alarm.duress

/-- The console view (R177). -/
def State.attentionConsole (s : State) : List Nat := standing s.commonCauses s.loopTrippedConsole false

/-- The attention code of a view: its highest cause, or 0 (R177). -/
def viewCode (view : List Nat) : Nat := view.headD 0

/-- The attention code of a station's view (R177). -/
def State.attentionCode (s : State) (st : Station) : Nat :=
  match st with
  | .supervisor => viewCode s.attention7
  | .console _ => viewCode s.attentionConsole

/-- The attention line: asserted while the console view's code is not 0 (R177). -/
def State.attentionLine (s : State) : Bool := viewCode s.attentionConsole != 0

/-- The lowest-numbered TRIPPED loop with its kind and trip (R152). -/
def State.topLoop (s : State) : Option (LoopId × LoopKind × Trip) :=
  ((List.finRange 16).find? fun i => (s.loop i).tripped).bind fun i =>
    (s.loop i).trip.map fun t => (i, (s.loop i).kind, t)

/-- The fence's and the newest sequence (R173). DESIGN CHOICE: both read 0 while the ring holds no record (log 80). -/
def Journal.fence (j : Journal) : Nat := (j.ring.head?.map JournalRecord.seq).getD 0
def Journal.newest (j : Journal) : Nat := (j.ring.getLast?.map JournalRecord.seq).getD 0

/-- What READ STATUS returns (R178). -/
def State.status (s : State) : Status :=
  { partState := s.mgmt.partState
    timeBase := s.now
    attention := s.attention7
    attentionCode := viewCode s.attention7
    consoleCode := viewCode s.attentionConsole
    condition := s.condition
    duress := s.alarm.duress
    lockdown := s.alarm.lockdown
    silentOutput := s.alarm.silentOutput
    localOutput := s.alarm.localOutput
    loops := s.alarm.loops
    topLoop := s.topLoop
    lanes := s.lanes.records
    writeSelect := s.lanes.writeSelect
    operateSelect := s.lanes.operateSelect
    cassettes := (List.finRange 8).map fun c =>
      { shown := (s.cassette c).shown c, count := (s.cassette c).count, inbound := (s.cassette c).inbound }
    dispensable := s.dispensable
    wallNotes := s.wallNotes
    recycler := s.cash.recycler
    recyclerCondition := s.cash.condition
    workQueue := s.cash.workQueue
    dispenses := s.dispenses
    sessions := s.deposit.slots
    captures := s.envelope.slots
    envelopeCounter := s.envelope.counter
    depositoryCount := s.envelope.count
    depositoryCapacity := s.envelope.setting.value
    carriers := s.tube.carriers
    tubeQueue := s.tube.requests
    blower := s.tube.blower
    modules := s.bus.modules.toList.map fun m =>
      { node := m.node, health := m.health, orderErrors := m.orderErrors, replyErrors := m.replyErrors }
    fence := s.journal.fence
    newest := s.journal.newest
    free := s.journal.free
    reserved := s.journal.reserved
    overrun := s.journal.overrun }

end Sys2Proof.Machine
end

