-- ==== Sys2Proof/Machine/Frames.lean ====
section
/-! DEFINITION. The bytes of both links (chapter 12): the frame check, Console Link frames sent and received, the journal record
as read out, Wall Bus frames sent, and how a module's bytes are read. -/

namespace Sys2Proof.Machine

open Sys2Proof

/-! ## The frame check (R183) -/

/-- One bit into the CRC register. -/
def crcBit (r : BitVec 16) (b : Bool) : BitVec 16 :=
  if r.msb != b then (r <<< 1) ^^^ 0x1021#16 else r <<< 1

/-- One byte, most significant bit first. -/
def crcByte (r : BitVec 16) (x : Byte) : BitVec 16 :=
  [7, 6, 5, 4, 3, 2, 1, 0].foldl (fun r i => crcBit r (x.getLsbD i)) r

/-- The frame check of some bytes (R183). -/
def crc16 (bytes : List Byte) : BitVec 16 := bytes.foldl crcByte 0xFFFF#16

/-! ## Numbers as bytes -/

/-- The low byte of a number. -/
def byteOf (n : Nat) : Byte := BitVec.ofNat 8 n

/-- The `k` low bytes of a number, most significant first (chapter 12). -/
def bigEndian : Nat → Nat → List Byte
  | 0, _ => []
  | k + 1, n => bigEndian k (n / 256) ++ [byteOf n]

/-- The number some bytes give, most significant first. -/
def fromBytes (bytes : List Byte) : Nat := bytes.foldl (fun n b => n * 256 + b.toNat) 0

/-- Bytes with their check behind them, high byte first; the start marker is not in the check. -/
def sealed (marker : Byte) (body : List Byte) : List Byte := marker :: (body ++ bigEndian 2 (crc16 body).toNat)

/-! ## The journal record as read out (R188) -/

/-- A kind's name in 20 bytes, padded with spaces. -/
def nameBytes (k : RecordKind) : List Byte :=
  let bytes := k.name.toList.map fun c => byteOf c.toNat
  (bytes ++ List.replicate (20 - bytes.length) 0x20#8).take 20

/-- A journal record's bytes (R188). -/
def JournalRecord.bytes (r : JournalRecord) : List Byte :=
  let e := r.entry
  let items := e.items.take 8
  bigEndian 4 r.seq ++ bigEndian 4 r.time.toNat ++ nameBytes e.kind ++ bigEndian 1 e.lane ++ bigEndian 1 e.station
    ++ bigEndian 2 e.credential ++ bigEndian 1 e.authIndex ++ bigEndian 4 e.value ++ bigEndian 2 e.noteCount
    ++ bigEndian 2 e.flags.bits ++ bigEndian 1 e.detail ++ bigEndian 1 items.length
    ++ items.flatMap fun i => bigEndian 1 i.1 ++ bigEndian 4 i.2

/-! ## Console Link frames sent (R176, R184) -/

/-- A body's bytes: those R184 and R188 lay out; the others are free (log 7), kept to the longest body there is. -/
def ResponseBody.bytes : ResponseBody → List Byte
  | .empty => []
  | .dispenseId n => bigEndian 1 n
  | .slot n => bigEndian 1 n
  | .journal records fence newest free reserved overrun =>
    bigEndian 4 fence ++ bigEndian 4 newest ++ bigEndian 2 free ++ bigEndian 2 reserved ++ bigEndian 2 overrun
      ++ bigEndian 1 records.length ++ records.flatMap JournalRecord.bytes
  | b => (Config.unlaidBody b).take 1000

/-- Frame type, kind, result code and body of an item. -/
def Payload.fields : Payload → Nat × Nat × Nat × List Byte
  | .response kind code body => (3, kind.number, code.number, body.bytes)
  | .report r => (4, r.number, 0, (Config.unlaidBody r).take 1000)

/-- The bytes of an item's frame, with the attention code read as it is sent (chapter 12.2, R177). -/
def Item.bytes (i : Item) (attention : Nat) : List Byte :=
  let p := i.payload.fields
  sealed 0xC3#8
    (bigEndian 1 (stationNumber i.dest) ++ bigEndian 1 0 ++ bigEndian 1 p.1 ++ bigEndian 2 i.tag ++ bigEndian 1 p.2.1
      ++ bigEndian 1 p.2.2.1 ++ bigEndian 1 attention ++ bigEndian 2 p.2.2.2.length ++ p.2.2.2)

/-! ## Console Link frames received (R185) -/

/-- The station a source byte names, if it is 1 to 4 or 7. -/
def stationOf (n : Nat) : Option Station := if n = 7 then some .supervisor else (numbered 4 n).map Station.console

/-- The body length a header gives, once offsets 0 to 10 are there. -/
def bodyLength (frame : List Byte) : Nat := fromBytes ((frame.drop 9).take 2)

/-- The frame that some bytes make, unless it is discarded unanswered (R185; log 21 for a type outside 1 to 4). -/
def readConsoleFrame (frame : List Byte) : Option ConsoleFrame :=
  let n := bodyLength frame
  let byteAt := fun i => (frame.getD i 0).toNat
  let check := fromBytes ((frame.drop (11 + n)).take 2)
  if (crc16 ((frame.drop 1).take (10 + n))).toNat = check ∧ byteAt 1 = 0 ∧ (byteAt 3 = 1 ∨ byteAt 3 = 2) then
    (stationOf (byteAt 2)).map fun st =>
      { station := st, isMgmt := byteAt 3 == 2, tag := fromBytes ((frame.drop 4).take 2), kind := byteAt 6
        body := (frame.drop 11).take n }
  else none

/-- A frame that passed goes to the receive buffer; while 4 wait it is discarded and REPORT LOST is raised (R176). -/
def State.bufferFrame (s : State) (f : ConsoleFrame) : State :=
  if s.link.rxBuffer.length < 4 then s.mapLink fun k => { k with rxBuffer := k.rxBuffer ++ [f] } else s.raiseReportLost

/-- One byte on the Console Link (R185). -/
def State.receiveByte (s : State) (b : Byte) : State :=
  if s.link.rxPartial = [] ∧ b ≠ 0xC3#8 then s
  else
    let bytes := s.link.rxPartial ++ [b]
    if bytes.length < 11 then s.mapLink fun k => { k with rxPartial := bytes }
    else if 1000 < bodyLength bytes then
      s.mapLink fun k => { k with rxPartial := bytes.tail.dropWhile fun x => x ≠ 0xC3#8 }
    else if bytes.length < 13 + bodyLength bytes then s.mapLink fun k => { k with rxPartial := bytes }
    else
      let s := s.mapLink fun k => { k with rxPartial := [] }
      match readConsoleFrame bytes with
      | some f => s.bufferFrame f
      | none => s

/-- A DISPENSE body: its lane, pair part and amount, if it is six bytes long and the part is one of the three (R184, R24). -/
def readDispense (body : List Byte) : Option (Nat × Nat × Nat) :=
  match body with
  | [lane, part, a3, a2, a1, a0] =>
    if part.toNat ≤ 2 then some (lane.toNat, part.toNat, fromBytes [a3, a2, a1, a0]) else none
  | _ => none

/-- Whether a body is the DISPENSE of a lane, a pair part (0 SINGLE, 1 FIRST, 2 SECOND) and an amount (R184). -/
def spellsDispense (lane part amount : Nat) (body : List Byte) : Bool := readDispense body == some (lane, part, amount)

/-! ## Wall Bus frames sent (R186) -/

/-- The body of an order: laid out for PICK and ROUTE, free otherwise (log 7). -/
def BusOrder.body : BusOrder → List Byte
  | .pick tag items =>
    bigEndian 2 tag ++ bigEndian 1 items.length ++ items.flatMap fun i =>
      bigEndian 1 (numberOf i.cassette) ++ bigEndian 1 i.count
  | .route note d => bigEndian 2 note ++ bigEndian 1 d.code
  | o => (Config.unlaidBody o).take 200

/-- Class, kind and body of a frame to a module (chapter 12.3). -/
def Content.fields : Content → Nat × Nat × List Byte
  | .order o => (1, o.number, o.body)
  | .poll => (2, 0, [])
  | .probe => (3, 0, [])

/-- The bytes of a frame to a module (chapter 12.3). -/
def Frame.bytes (f : Frame) : List Byte :=
  let c := f.content.fields
  sealed 0x5A#8
    (bigEndian 1 f.node ++ bigEndian 1 0 ++ bigEndian 1 c.1 ++ bigEndian 1 c.2.1 ++ bigEndian 1 c.2.2.length ++ c.2.2)

/-! ## A module's frame as its bytes give it (R186, R187) -/

/-- The items of a PICK REPORT body, three bytes each. -/
def readPickItems : Nat → List Byte → Option (List PickItem)
  | 0, [] => some []
  | 0, _ => none
  | m + 1, c :: p :: r :: rest =>
    (readPickItems m rest).map fun items => { code := c.toNat, picked := p.toNat, rejected := r.toNat } :: items
  | _ + 1, _ => none

/-- A PICK REPORT body, read to the end of its length; its item count is 0 to 6 (R186). -/
def readPickReport (body : List Byte) : Option PickReport :=
  match body with
  | t1 :: t0 :: st :: m :: rest =>
    if m.toNat ≤ 6 then
      (readPickItems m.toNat rest).map fun items => { tag := fromBytes [t1, t0], status := st.toNat, items := items }
    else none
  | _ => none

/-- The number of a report's kind (R186). -/
def reportNumber : ModuleReport → Nat
  | .pickReport _ => 1 | .taken _ => 2 | .retracted .. => 3 | .cassetteOut _ => 4 | .cassetteIn _ => 5
  | .noteValidated .. => 6 | .noteRejected _ => 7 | .noteStacked .. => 8 | .noteReturned .. => 9 | .acceptEnded _ => 10
  | .depositJam _ => 11 | .envelopeInserted _ => 12 | .printed .. => 13 | .captured .. => 14 | .jammed .. => 15
  | .ejected .. => 16 | .sendPressed _ => 17 | .arrived _ => 18 | .carrierSeated _ => 19 | .carrierLifted _ => 20
  | .other k => k
  | .unreadable => 0

/-- One report of a poll reply by its kind byte and body (R186; log 6). -/
def readReport (kind : Nat) (body : List Byte) : ModuleReport :=
  if kind = 1 then
    match readPickReport body with
    | some r => .pickReport r
    | none => .unreadable
  else if 2 ≤ kind ∧ kind ≤ 20 then
    match Config.readReportBody kind body with
    | some r => if reportNumber r = kind then r else .unreadable
    | none => .unreadable
  else .other kind

/-- The reports of a poll reply: kind, length and body each, to the end of the body. -/
def readReports : Nat → List Byte → Option (List ModuleReport)
  | 0, [] => some []
  | 0, _ => none
  | m + 1, kind :: len :: rest =>
    if len.toNat ≤ rest.length then
      (readReports m (rest.drop len.toNat)).map fun rs => readReport kind.toNat (rest.take len.toNat) :: rs
    else none
  | _ + 1, _ => none

/-- A POLL REPLY body: condition, report count, reports (R186). -/
def readPoll (body : List Byte) : ReplyBody :=
  match body with
  | cond :: count :: rest =>
    match readReports count.toNat rest with
    | some rs => .poll cond.toNat rs
    | none => .unreadable
  | _ => .unreadable

/-- An ANSWER to STATUS QUERY: the answer byte, and a PICK REPORT body behind COUNTS (R186). -/
def readAnswer (body : List Byte) : ReplyBody :=
  match body with
  | a :: rest =>
    if a.toNat = 1 then
      match readPickReport rest with
      | some r => .answer 1 (some r)
      | none => .unreadable
    else if rest = [] then .answer a.toNat none
    else .unreadable
  | [] => .unreadable

/-- A body by its frame's class and kind: 5 ANSWER (kind 3 STATUS QUERY), 6 POLL REPLY, 7 REFUSAL. -/
def readBody (cls kind : Nat) (body : List Byte) : ReplyBody :=
  if cls = 5 ∧ kind = 3 then readAnswer body
  else if cls = 6 then readPoll body
  else if cls = 7 then
    match body with
    | [r] => .refusal r.toNat
    | _ => .unreadable
  else .plain

/-- A Wall Bus frame from its bytes on the wire; what does not make a frame has no correct check. -/
def readWire (bytes : List Byte) : BusReply :=
  let n := (bytes.getD 5 0).toNat
  let byteAt := fun i => (bytes.getD i 0).toNat
  let whole := bytes.head? = some 0x5A#8 ∧ bytes.length = 8 + n ∧ n ≤ 200
  let check := fromBytes ((bytes.drop (6 + n)).take 2)
  { checkOk := decide (whole ∧ (crc16 ((bytes.drop 1).take (5 + n))).toNat = check)
    dest := byteAt 1, source := byteAt 2, cls := byteAt 3, kind := byteAt 4
    body := readBody (byteAt 3) (byteAt 4) ((bytes.drop 6).take n) }

/-- A frame taken on the Wall Bus. -/
def replyOf : BusInput → BusReply
  | .wire bytes => readWire bytes
  | .fields r => r

/-! ## How a frame ends an exchange (R187) -/

/-- A PICK REPORT within its values: cassette codes 1 to 6, counts of at most 100, end status 1 to 3. -/
def pickReportOk (r : PickReport) : Bool :=
  decide (1 ≤ r.status ∧ r.status ≤ 3 ∧ r.items.length ≤ 6)
    && r.items.all fun i => decide (1 ≤ i.code ∧ i.code ≤ 6 ∧ i.picked ≤ 100 ∧ i.rejected ≤ 100)

/-- A report that can be read and whose values are within their ranges. -/
def reportOk : ModuleReport → Bool
  | .pickReport r => pickReportOk r
  | .retracted _ count => decide (count ≤ 100)
  | .unreadable => false
  | _ => true

/-- Whether a report is a PICK REPORT. -/
def isPickReport : ModuleReport → Bool
  | .pickReport _ => true
  | _ => false

/-- A poll reply's body that does not end the exchange DAMAGED. -/
def pollOk (reports : List ModuleReport) : Bool :=
  decide (reports.length ≤ 15) && reports.all reportOk && decide ((reports.filter isPickReport).length ≤ 1)

/-- An answer within its values: COUNTS with a PICK REPORT within its own, RUNNING or NOT RECEIVED with none (R186, R187). -/
def answerOk (code : Nat) (counts : Option PickReport) : Bool :=
  (code == 1 && counts.any pickReportOk) || ((code == 2 || code == 3) && counts.isNone)

/-- The body of an acknowledgement or answer to an order that does not end the exchange DAMAGED. -/
def ackOk (o : BusOrder) (cls : Nat) (b : ReplyBody) : Bool :=
  match o, b with
  | _, .unreadable => false
  | _, .answer code counts => answerOk code counts
  | .statusQuery _, _ => cls == 4
  | _, _ => true

/-- How a frame taken within the reply window ends the exchange (R187). -/
def resultOf (f : Frame) (r : BusReply) : Result :=
  if !(r.checkOk && r.dest == 0 && r.source == f.node) then .damaged
  else
    match f.content with
    | .order o =>
      if r.kind ≠ o.number then .damaged
      else if r.cls = 4 ∨ r.cls = 5 then if ackOk o r.cls r.body then .good else .damaged
      else if r.cls = 7 then
        match r.body with
        | .refusal reason => .refused reason
        | _ => .damaged
      else .damaged
    | .poll =>
      match r.body with
      | .poll _ reports => if r.cls = 6 ∧ pollOk reports then .good else .damaged
      | _ => .damaged
    | .probe => if r.cls = 4 ∧ r.body ≠ .unreadable then .good else .damaged

/-- What a frame brings its exchange's owner: an ACK answers nothing (R167, R187; log 25). -/
def contentOf (r : BusReply) : ReplyBody := if r.cls = 4 then .plain else r.body

end Sys2Proof.Machine
end

