-- ==== Sys2Proof/Machine/Bus.lean ====
section
/-! DEFINITION. The Wall Bus Controller (chapter 10): what is sent next and the checks at the front, how exchanges end, module
health, isolation and restore, reports handed to their owners, and its part of a soft reset. -/

namespace Sys2Proof.Machine

open Sys2Proof

/-! ## The Module Table -/

/-- A Module Table entry. -/
def State.module (s : State) (m : ModuleId) : Module := s.bus.modules[m]

/-- Change a Module Table entry. -/
def State.mapModule (s : State) (m : ModuleId) (f : Module → Module) : State :=
  s.mapBus fun b => { b with modules := b.modules.set m (f b.modules[m]) }

/-- A change the hardware makes to an entry, its parity recomputed with it (R175). -/
def Module.changedTo (e e' : Module) : Module := if e' = e then e else { e' with check := e'.check.recomputed }

/-- The hardware changes a Module Table entry (R175). -/
def State.changeModule (s : State) (m : ModuleId) (f : Module → Module) : State := s.mapModule m fun e => e.changedTo (f e)

/-! ## The part state as the bus changes it (R180) -/

/-- The PART STATE report goes to station 7 and to every signed-on console (R180, R181). DESIGN CHOICE: its tag is 0, in an order's
own event too (log 79). -/
def State.reportPartState (s : State) : State := (s.send7 (.partState s.mgmt.partState)).sendSignedOn (.partState s.mgmt.partState)

/-- The part takes a state, with its record and reports (R180, R181). -/
def State.enterPartState (s : State) (p : PartState) : State :=
  ((s.mapMgmt fun m => { m with partState := p }).record { kind := .partState }).reportPartState

/-- A pending GO SERVICE fails (R180). -/
def State.failGo (s : State) (why : Cause) (reason : Nat) : State :=
  let s := s.mapMgmt fun m => { m with goPending := false }
  (s.record { kind := .goServiceFailed, detail := reason, facts := [.cause why] }).send7 (.goServiceFailed why)

/-- A DENOMINATIONS exchange ended (R180). `live`: its GO SERVICE has not ended since. -/
def State.goEnded (s : State) (live : Bool) (r : Result) : State :=
  if live && s.mgmt.goPending then
    match r with
    | .good => ((s.mapMgmt fun m => { m with goPending := false }).enterPartState .inService).arbitrate
    | .refused reason => s.failGo .refused reason
    | .silent => s.failGo .silent 0
    | .damaged => s.failGo .damaged 0
  else s

/-! ## A change of health is told (R165) -/

/-- Tell the blocks concerned with an entry's kind that its health changed (R165). -/
def State.tellHealth (s : State) (m : ModuleId) : State :=
  let e := s.module m
  let isolated := e.health == .isolated
  match e.kind with
  | .recycler => (if isolated then s.recyclerIsolated else s).arbitrate
  | .blower => if isolated then s.blowerIsolated else s.arbitrateBlower
  | .laneStation =>
    let s := match numbered 6 e.lane with
      | some l => s.evaluateNode l
      | none => s
    if isolated then s.envelopeIsolated e.node else s

/-- Whether a frame is a DENOMINATIONS order whose GO SERVICE may be pending. -/
def Frame.isLiveDenominations (f : Frame) : Bool :=
  match f.content with
  | .order (.denominations _) => f.live
  | _ => false

/-- The frames of a node leave the outgoing queue, a resend due with them (R161, R162, R165). -/
def State.dropFrames (s : State) (node : Nat) : State :=
  s.mapBus fun b =>
    { b with outgoing := b.outgoing.filter fun f => f.node != node, resend := b.resend.filter fun f => f.node != node }

/-- A node becomes ISOLATED (R165): its frames leave, it leaves the ring, the blocks are told. A pending GO SERVICE whose order
was among the frames fails (R180). -/
def State.isolate (s : State) (m : ModuleId) : State :=
  let node := (s.module m).node
  let gone := s.bus.outgoing.filter (fun f => f.node == node) ++ (s.bus.resend.filter fun f => f.node == node).toList
  let s := ((s.dropFrames node).changeModule m fun e => { e with health := .isolated }).tellHealth m
  if s.mgmt.goPending && gone.any Frame.isLiveDenominations then s.failGo .nodeIsolated 0 else s

/-- A health state is taken; the blocks are told of a change (R164, R165). -/
def State.setHealth (s : State) (m : ModuleId) (h : Health) : State :=
  if (s.module m).health = h then s
  else if h = .isolated then s.isolate m
  else (s.changeModule m fun e => { e with health := h }).tellHealth m

/-! ## Health (R160, R164) -/

/-- The counters after a result (R160). -/
def Module.count (e : Module) (r : Result) : Module :=
  match r with
  | .good => { e with orderErrors := e.orderErrors - 1, replyErrors := e.replyErrors - 1 }
  | .silent => { e with orderErrors := e.orderErrors + 8 }
  | .damaged => { e with replyErrors := min (e.replyErrors + 1) 255 }
  | .refused _ => e

/-- The health state of two counters (R164). -/
def healthState (order reply : Nat) : Health :=
  if 256 ≤ order then .isolated
  else if 128 ≤ order ∨ 128 ≤ reply then .restricted
  else if 96 ≤ order ∨ 96 ≤ reply then .watch
  else .active

/-- Whether a counter goes from below a threshold to at or above it. -/
def crosses (t : Nat) (before after : Module) : Bool :=
  decide ((before.orderErrors < t ∧ t ≤ after.orderErrors) ∨ (before.replyErrors < t ∧ t ≤ after.replyErrors))

/-- The crossing mark of a threshold. -/
def Module.mark (e : Module) (t : Nat) : Bool := if t = 96 then e.mark96 else if t = 128 then e.mark128 else e.mark256

/-- Set the crossing mark of a threshold. -/
def Module.setMark (e : Module) (t : Nat) : Module :=
  if t = 96 then { e with mark96 := true } else if t = 128 then { e with mark128 := true } else { e with mark256 := true }

/-- All three marks clear. -/
def Module.clearMarks (e : Module) : Module := { e with mark96 := false, mark128 := false, mark256 := false }

/-- A crossing is announced once, until its mark clears (R164). DESIGN CHOICE: the report carries the figures of the record (log 78). -/
def State.announceCrossing (s : State) (m : ModuleId) (t : Nat) : State :=
  let e := s.module m
  if e.mark t then s
  else
    let s := s.changeModule m fun e => e.setMark t
    let s := s.record { kind := .nodeHealth, facts := [.node e.node, .errors e.orderErrors e.replyErrors t] }
    let s := s.send7 (.nodeHealth e.node e.orderErrors e.replyErrors t)
    if t = 96 then s.raiseNodeWatch else s

/-- What an exchange's result does to its node's entry (R164). -/
def State.updateHealth (s : State) (m : ModuleId) (r : Result) : State :=
  let before := s.module m
  let after := before.count r
  let s := s.changeModule m fun _ => after
  let s := s.forEach [96, 128, 256] fun s t => if crosses t before after then s.announceCrossing m t else s
  let s := if r = .good ∧ after.orderErrors < 96 ∧ after.replyErrors < 96 then s.changeModule m Module.clearMarks else s
  s.setHealth m (healthState after.orderErrors after.replyErrors)

/-! ## The entry's parity check (R159) -/

/-- The check of an entry chosen for an exchange or read; the Bool says whether it failed. A failure isolates the node as a
crossing of 256 does; the frames of a node already ISOLATED leave (R159, R165; log 22). DESIGN CHOICE: an unused entry becomes
FAULTED and nothing is isolated (log 87). -/
def State.checkModule (s : State) (m : ModuleId) : State × Bool :=
  if (s.module m).check.parityGood then (s, false)
  else
    let s := (s.mapModule m fun e => { e with check := e.check.read }).tableFault (.module (numberOf m))
    if (s.module m).node = 0 then (s, true)
    else if (s.module m).health = .isolated then (s.dropFrames (s.module m).node, true)
    else ((s.announceCrossing m 256).isolate m, true)

/-! ## Node restores (R166) -/

/-- A restore ends: the record and the report carry its result (R166). DESIGN CHOICE: the report's tag is 0, not that of the RESTORE
NODE order (log 79), and the record and the report name the node beside the result (log 90). -/
def State.endRestore (s : State) (r : Restore) (result : RestoreResult) : State :=
  let s := s.mapBus fun b => { b with restores := b.restores.filter fun x => x.node ≠ r.node }
  (s.record { kind := .nodeRestore, facts := [.node r.node, .restore result r.probes r.goods] }).send7
    (.nodeRestore r.node result r.probes r.goods)

/-- A restore succeeds: the entry starts afresh and the blocks are told (R166). -/
def State.restored (s : State) (r : Restore) : State :=
  let s := match s.nodeEntry r.node with
    | some m =>
      (s.changeModule m fun e => { e.clearMarks with orderErrors := 0, replyErrors := 0, health := .active }).tellHealth m
    | none => s
  s.endRestore r .restored

/-- A restore's progress by one probe. -/
def Restore.after (r : Restore) (good : Bool) : Restore :=
  { r with probes := r.probes + 1, run := if good then r.run + 1 else 0, goods := if good then r.goods + 1 else r.goods }

/-- Keep a restore's progress. -/
def State.setRestore (s : State) (r : Restore) : State :=
  s.mapBus fun b => { b with restores := b.restores.map fun x => if x.node = r.node then r else x }

/-- Place a PROBE (R166). -/
def State.placeProbe (s : State) (node : Nat) : State × Bool :=
  s.place { node := node, content := .probe, owner := .bus }

/-- Whether the entry that holds a node is FAULTED: such an entry cannot be restored (R159). -/
def State.restoreBarred (s : State) (node : Nat) : Bool := (s.nodeEntry node).any fun m => (s.module m).check.faulted

/-- A probe's exchange ended (R166). A next PROBE that finds the queue full is a SILENT probe in its turn (R161); `fuel` bounds
those by the 32 probes of a restore. DESIGN CHOICE: a restore whose entry was found FAULTED meanwhile ends FAILED at the run of 8
(R159; log 64). -/
def State.probeEnded : Nat → State → Nat → Bool → State
  | 0, s, _, _ => s
  | fuel + 1, s, node, good =>
    match s.bus.restores.find? fun r => r.node = node with
    | none => s
    | some r =>
      let r := r.after good
      let s := s.setRestore r
      if 8 ≤ r.run then if s.restoreBarred node then s.endRestore r .failed else s.restored r
      else if 32 ≤ r.probes then s.endRestore r .failed
      else
        let p := s.placeProbe node
        if p.2 then p.1 else State.probeEnded fuel p.1 node false

/-- RESTORE NODE's effect once its checks have passed (R166). -/
def State.beginRestore (s : State) (node : Nat) : State :=
  let s := s.mapBus fun b => { b with restores := b.restores ++ [{ node := node }] }
  let p := s.placeProbe node
  if p.2 then p.1 else p.1.probeEnded 32 node false

/-! ## Reports of a poll reply (R160) -/

/-- The figures of a PICK REPORT whose codes are in range. -/
def figuresOf (r : PickReport) : PickFigures :=
  r.items.filterMap fun i => (numbered 8 i.code).map fun c => (c, i.picked, i.rejected)

/-- A report of a kind the node's entry cannot make (R160). DESIGN CHOICE: its record carries the node and the report kind, no lane
(log 75). -/
def State.strayReport (s : State) (m : ModuleId) (r : ModuleReport) : State :=
  s.record { kind := .strayReport, facts := [.node (s.module m).node, .reportKind (reportNumber r)] }

/-- A report of the recycler node. -/
def State.recyclerReport (s : State) (m : ModuleId) (r : ModuleReport) : State :=
  match r with
  | .pickReport p => s.takePickReport p.tag (figuresOf p) p.status none
  | .taken tag => (s.takeTaken tag).arbitrate
  | .retracted tag count => (s.takeRetracted tag count).arbitrate
  | .cassetteOut c => (s.cassetteOut c).arbitrate
  | .cassetteIn c => s.cassetteIn c
  | .noteValidated l note denom => s.noteValidated l note denom
  | .noteRejected l => s.noteRejected l
  | .noteStacked l note dest _ => (s.noteStacked l note dest).arbitrate
  | .noteReturned l note _ => (s.noteReturned l note).arbitrate
  | .acceptEnded l => (s.acceptEnded l).arbitrate
  | .depositJam l => s.takeDepositJam l
  | r => s.strayReport m r

/-- A report of a lane station, taken as one of the lane its entry names (R158; log 23). -/
def State.stationReport (s : State) (m : ModuleId) (l : Lane) (r : ModuleReport) : State :=
  match r with
  | .envelopeInserted _ => s.envelopeInserted l (s.module m).node
  | .printed _ n => s.envelopePrinted l n
  | .captured _ n => s.envelopeCaptured l n
  | .jammed _ n => s.envelopeJammed l n
  | .ejected _ n => s.envelopeEjected l n
  | .sendPressed _ => s.takeSendPressed l
  | .arrived _ => s.takeArrived l .lane
  | .carrierSeated _ => s.takeSeated l .lane
  | .carrierLifted _ => s.takeLifted l .lane
  | r => s.strayReport m r

/-- A report of the blower cabinet. -/
def State.blowerReport (s : State) (m : ModuleId) (r : ModuleReport) : State :=
  match r with
  | .arrived l => s.takeArrived l .teller
  | .carrierSeated l => s.takeSeated l .teller
  | .carrierLifted l => s.takeLifted l .teller
  | r => s.strayReport m r

/-- Hand one report to its owning job (R160). -/
def State.takeReport (s : State) (m : ModuleId) (r : ModuleReport) : State :=
  match (s.module m).kind with
  | .recycler => s.recyclerReport m r
  | .blower => s.blowerReport m r
  | .laneStation =>
    match numbered 6 (s.module m).lane with
    | some l => s.stationReport m l r
    | none => s.strayReport m r

/-- The recycler's condition in a poll reply: 1 CLEAR, 2 JAMMED (R86, R186); another value leaves the last one. -/
def State.takeCondition (s : State) (m : ModuleId) (c : Nat) : State :=
  if (s.module m).kind = .recycler then
    if c = 1 then s.mapCash fun k => { k with condition := .clear }
    else if c = 2 then s.mapCash fun k => { k with condition := .jammed }
    else s
  else s

/-- A GOOD poll reply: its condition, then its reports in their order (R160). -/
def State.takePoll (s : State) (node : Nat) (b : ReplyBody) : State :=
  match s.nodeEntry node, b with
  | some m, .poll c reports => (s.takeCondition m c).forEach reports fun s r => s.takeReport m r
  | _, _ => s

/-! ## The end of an exchange (R160, R162) -/

/-- What a STATUS QUERY's result brings its owner (R66, R167). DESIGN CHOICE: a refusal is no valid answer and its reason is in no
record (log 11). -/
def queryAnswer (r : Result) (b : ReplyBody) : QueryAnswer :=
  match r, b with
  | .good, .answer 1 (some p) => .counts (figuresOf p) p.status
  | .good, .answer 2 _ => .running
  | .good, .answer 3 _ => .notReceived
  | _, _ => .noValid

/-- Hand an exchange's result to the block that owns its frame (R160). -/
def State.deliver (s : State) (f : Frame) (r : Result) (b : ReplyBody) : State :=
  match f.content with
  | .order (.pick tag items) => s.pickEnded tag items r
  | .order (.retract tag) => s.retractEnded tag r
  | .order (.statusQuery tag) => s.queryEnded tag (queryAnswer r b)
  | .order (.acceptBegin l) => (s.acceptBeginEnded l f.live r).arbitrate
  | .order (.capture l n) => s.captureEnded l n r
  | .order (.blowerMove l _) => s.blowerMoveEnded l f.live r
  | .order (.denominations _) => s.goEnded f.live r
  | .order _ => s
  | .poll => if r = .good then s.takePoll f.node b else s
  | .probe => s.probeEnded 32 f.node (r == .good)

/-- PICK, ACCEPT BEGIN, CAPTURE and BLOWER MOVE move money (R162). -/
def BusOrder.isMoney : BusOrder → Bool
  | .pick .. | .acceptBegin _ | .capture .. | .blowerMove .. => true
  | _ => false

/-- Whether an exchange is resent when it ends SILENT or DAMAGED (R162). -/
def Exchange.resendable (x : Exchange) : Bool :=
  match x.frame.content with
  | .order o => !o.isMoney && !x.isResend
  | _ => false

/-- SILENT or DAMAGED. -/
def Result.lost (r : Result) : Bool := r == .silent || r == .damaged

/-- The exchange outstanding ends with a result (R160): counters and health first (but for a probe, R166), then the owner, or a
resend (R162). A node isolated meanwhile is judged no further and its order is not resent. -/
def State.endBusExchange (s : State) (x : Exchange) (r : Result) (b : ReplyBody) : State :=
  let s := s.mapBus fun k => { k with outstanding := none }
  if x.frame.content = .probe then s.deliver x.frame r b
  else
    match s.nodeEntry x.frame.node with
    | none => s.deliver x.frame r b
    | some m =>
      if (s.module m).health = .isolated then s.deliver x.frame r b
      else if x.resendable && r.lost then
        (s.mapBus fun k => { k with resend := some x.frame }).updateHealth m r
      else (s.updateHealth m r).deliver x.frame r b

/-! ## What is sent next (R161, R163) -/

/-- Whether a frame is a ROUTE. -/
def Frame.isRoute (f : Frame) : Bool :=
  match f.content with
  | .order (.route ..) => true
  | _ => false

/-- The next frame of the queue: the oldest ROUTE, or else the oldest frame (R161). -/
def State.nextQueued (s : State) : Option Frame :=
  match s.bus.outgoing.find? Frame.isRoute with
  | some f => some f
  | none => s.bus.outgoing.head?

/-- The nodes of the poll ring (R161). -/
def State.ring (s : State) : List Nat :=
  ((List.finRange 16).filter fun m => (s.module m).node != 0 && (s.module m).health != .isolated).map
    fun m => (s.module m).node

/-- The lowest of some numbers. -/
def lowest (ns : List Nat) : Option Nat := firstBy (fun a b => decide (a ≤ b)) ns

/-- The next node to poll (R161). -/
def State.nextPoll (s : State) : Option Nat :=
  match lowest (s.ring.filter fun n => decide (s.bus.ringPos < n)) with
  | some n => some n
  | none => lowest s.ring

/-- The parity check of the bus setting, made as an exchange begins (R168). -/
def State.checkBusSetting (s : State) : State :=
  if s.bus.setting.check.parityGood then s
  else (s.mapBus fun b => { b with setting := { b.setting with check := b.setting.check.read } }).tableFault .bus

/-- The reply window in ms: 10 if the setting is FAULTED (R160, R168). -/
def State.replyWindow (s : State) : Nat := if s.bus.setting.check.faulted then 10 else s.bus.setting.window

/-- The bit timing in force: the stored one, or the defaults if the setting is FAULTED (R168). -/
def State.busTiming (s : State) : BusTiming :=
  if s.bus.setting.check.faulted then {}
  else { quanta := s.bus.setting.quanta, phase2 := s.bus.setting.phase2, jump := s.bus.setting.jump }

/-- Send a frame: the exchange is outstanding under the window and timing now in force. -/
def State.transmit (s : State) (f : Frame) (isResend : Bool) : State :=
  let s := s.checkBusSetting
  s.mapBus fun b =>
    { b with
      outstanding := some { frame := f, isResend := isResend, window := s.timer s.replyWindow, timing := s.busTiming }
      ringPos := if f.content = .poll then f.node else b.ringPos
      busTx := f.bytes }

/-- Whether one of R163's conditions keeps a frame from being sent to a node of a health state. -/
def State.withdraws (s : State) (o : BusOrder) (h : Health) : Bool :=
  match o with
  | .pick .. | .acceptBegin _ | .capture .. => h == .restricted || s.alarm.lockdown
  | .blowerMove _ d => h == .restricted || (d == .toLane && s.alarm.lockdown)
  | _ => false

/-- A withdrawn frame is handed back to its owner (R163). -/
def State.withdraw (s : State) (f : Frame) : State :=
  match f.content with
  | .order (.pick tag _) => s.pickWithdrawn tag
  | .order (.acceptBegin l) => (s.acceptWithdrawn l f.live).arbitrate
  | .order (.capture l n) => s.withdrawCapture l n
  | .order (.blowerMove l _) => s.blowerMoveWithdrawn l f.live
  | _ => s

/-- A frame that reaches the front for an ISOLATED node is never sent (R163); a CAPTURE or a BLOWER MOVE is withdrawn (R115,
R130), another frame is dropped (log 13). -/
def State.dropIsolated (s : State) (f : Frame) : State :=
  match f.content with
  | .order (.capture ..) | .order (.blowerMove ..) => s.withdraw f
  | _ => s

/-- Check the chosen frame at the front (R163), its node's entry having passed its check, and send or withdraw it. `remove`
takes it off the place it was chosen from. -/
def State.checkFront (s : State) (m : ModuleId) (f : Frame) (isResend : Bool) (remove : State → State) : State :=
  let h := (s.module m).health
  match f.content with
  | .order o => if s.withdraws o h then (remove s).withdraw f else (remove s).transmit f isResend
  | _ => (remove s).transmit f isResend

/-- The chosen frame (R161), its node's entry checked (R159): a node without an entry or ISOLATED gets no frame but a PROBE (R163);
a parity mismatch isolates the node and no exchange is made (log 22). -/
def State.tryFrame (s : State) (f : Frame) (isResend : Bool) (remove : State → State) : State :=
  match s.nodeEntry f.node with
  | none => remove s
  | some m =>
    let p := s.checkModule m
    if (s.module m).health = .isolated ∧ f.content ≠ .probe then (remove p.1).dropIsolated f
    else
      if p.2 then p.1 else p.1.checkFront m f isResend remove

/-- Take a frame off the outgoing queue. -/
def State.takeQueued (s : State) (f : Frame) : State := s.mapBus fun b => { b with outgoing := b.outgoing.erase f }

/-- An exchange is chosen and begun, with none outstanding (R161). -/
def State.beginExchange (s : State) : State :=
  if s.bus.outstanding.isSome then s
  else
    match s.bus.resend with
    | some f => s.tryFrame f true fun s => s.mapBus fun b => { b with resend := none }
    | none =>
      match s.nextQueued with
      | some f => s.tryFrame f false fun s => s.takeQueued f
      | none =>
        match s.nextPoll with
        | some n => s.tryFrame { node := n, content := .poll, owner := .bus } false id
        | none => s

/-- A Wall Bus frame is taken (R187): it ends the exchange outstanding within its window, and is discarded otherwise (R160;
log 3). -/
def State.takeReply (s : State) (r : BusReply) : State :=
  match s.bus.outstanding with
  | none => s
  | some x => if x.window.past s.now then s else s.endBusExchange x (resultOf x.frame r) (contentOf r)

/-- The reply window runs out (R160). -/
def State.windowExpired (s : State) : State :=
  match s.bus.outstanding with
  | none => s
  | some x => if timerDue (some x.window) s.now then s.endBusExchange x .silent .plain else s

/-! ## Soft reset (R169) -/

/-- The Wall Bus Controller's soft reset (R169). -/
def State.resetBus (s : State) : State :=
  let s := s.mapBus fun b => { b with outstanding := none, outgoing := [], resend := none }
  let s := s.forEach s.bus.restores fun s r => s.endRestore r .abandoned
  let s := s.mapBus fun b =>
    { b with modules := b.modules.map fun e =>
        e.changedTo { e.clearMarks with orderErrors := 0, replyErrors := 0, health := .active } }
  s.evaluateNodes

end Sys2Proof.Machine
end

