-- ==== Sys2Proof/Machine/Screen.lean ====
section
/-! DEFINITION. The Order Screen (chapter 2) with the lane orders (1.4): sign-on, the screening steps of R25 and R26, broken pairs,
and the twelve console orders' own checks and effects. -/

namespace Sys2Proof.Machine

open Sys2Proof

/-! ## The Console Table (R17) and sign-off (R19, R21) -/

/-- A console's binding. -/
def State.binding (s : State) (c : Console) : Option Binding := s.screen.consoles[c]

/-- Set a console's binding. -/
def State.setBinding (s : State) (c : Console) (b : Option Binding) : State :=
  s.mapScreen fun k => { k with consoles := k.consoles.set c b }

/-- The entry fields a console's journal records carry (R17). -/
def State.consoleEntry (s : State) (c : Console) (kind : RecordKind) : Entry :=
  match s.binding c with
  | some b => { kind := kind, station := numberOf c, credential := b.credential, authIndex := numberOf b.index }
  | none => { kind := kind, station := numberOf c }

/-- The entry fields an order's journal records carry; 0 for station 7 (R24). -/
def State.senderEntry (s : State) (st : Station) (kind : RecordKind) : Entry :=
  match st with
  | .console c => s.consoleEntry c kind
  | .supervisor => { kind := kind, station := 7 }

/-- Set a Dispense Pair Slot. -/
def State.setPair (s : State) (l : Lane) (h : Option PairHalf) : State :=
  s.mapScreen fun k => { k with pairSlots := k.pairSlots.set l h }

/-- The entry fields of a record about a stored half. DESIGN CHOICE: they are the stored half's, in a PAIR BROKEN that another
console's order causes too (log 65). -/
def PairHalf.entry (h : PairHalf) (l : Lane) (kind : RecordKind) : Entry :=
  { kind := kind, lane := numberOf l, station := numberOf h.station, credential := h.credential
    authIndex := numberOf h.index, value := h.amount, facts := [.tag h.tag] }

/-- Discard the half stored for a lane, if any: a broken pair (R32). -/
def State.breakPair (s : State) (l : Lane) : State :=
  match s.screen.pairSlots[l] with
  | none => s
  | some h => ((s.setPair l none).record (h.entry l .pairBroken)).sendCopied (.console h.station) h.tag .brokenPair .brokenPair

/-- Break the half a console has stored in any slot (R19, R21). -/
def State.breakPairsOf (s : State) (c : Console) : State :=
  s.forEach (List.finRange 6) fun s l => if s.screen.pairSlots[l].any fun h => h.station == c then s.breakPair l else s

/-- From now on the reports of a console's dispenses and sessions go to station 7 alone (R19). -/
def State.redirect (s : State) (c : Console) : State :=
  let s := s.mapDispense fun d =>
    { d with records := d.records.map fun r => r.map fun r =>
        if r.station = c then { r with reportStation := .supervisor } else r }
  s.mapDeposit fun d =>
    { d with slots := d.slots.map fun x => x.map fun x =>
        if x.station = c then { x with reportStation := .supervisor } else x }

/-- A console is signed off by a write or a stale binding (R21). DESIGN CHOICE: the SIGN OFF record carries the console's station and
the credential and index it was bound with (log 75). -/
def State.forceSignOff (s : State) (c : Console) : State :=
  let e := s.consoleEntry c .signOff
  ((((s.setBinding c none).redirect c).breakPairsOf c).record e).sendCopied (.console c) 0 .signedOff .signedOff

/-! ## The screening settings (R28) and Rate Windows (R38) -/

/-- The parity check of the screening settings (R28). -/
def State.checkScreening (s : State) : State :=
  if s.screen.setting.check.parityGood then s
  else (s.mapScreen fun k => { k with setting := { k.setting with check := k.setting.check.read } }).tableFault .screening

/-- The settings as a use reads them: the defaults while FAULTED (R28). -/
def State.screening (s : State) : ScreeningSetting := if s.screen.setting.check.faulted then {} else s.screen.setting

/-- Change a console's Rate Window. -/
def State.mapRate (s : State) (c : Console) (f : List Time → List Time) : State :=
  s.mapScreen fun k => { k with rateWindows := k.rateWindows.set c (f k.rateWindows[c]) }

/-- The entries of a window that a consultation leaves: from the front, those as old as the duration go (R38). -/
def recent (now : Time) (seconds : Nat) (w : List Time) : List Time :=
  w.dropWhile fun t => decide (1000 * seconds ≤ age now t)

/-- Check 6 of R27: the window is consulted, and must hold fewer than W entries (R38). -/
def rateCheck (c : Console) : Step := fun s =>
  let s := s.checkScreening
  let s := s.mapRate c (recent s.now s.screening.rateDuration)
  (s, if s.screen.rateWindows[c].length < s.screening.rateCount then none else some .rate)

/-! ## The screening steps (R25, R26) -/

/-- Step 1: IN SERVICE, or IN SERVICE or SUSPENDED. -/
def stepPart (inServiceOnly : Bool) : Step :=
  need (fun s => s.mgmt.partState == .inService || (!inServiceOnly && s.mgmt.partState == .suspended)) .notReady

/-- Step 2: the console is signed on. -/
def stepSignedOn (c : Console) : Step := need (fun s => (s.binding c).isSome) .notSignedOn

/-- Step 3: the entry passes its check and still holds the bound credential. -/
def stepEntry (c : Console) : Step := fun s =>
  match s.binding c with
  | none => (s, some .notSignedOn)
  | some b =>
    let s := s.checkAuthority b.index
    if (s.authority b.index).check.faulted then (s, some .tableFault)
    else if (s.authority b.index).credential = b.credential then (s, none)
    else (s.forceSignOff c, some .notSignedOn)

/-- Step 4: the entry holds the right. -/
def stepRight (c : Console) (right : Rights → Bool) : Step :=
  need (fun s => (s.binding c).any fun b => right (s.authority b.index).rights) .noRight

/-- Steps 1 to 4 for a console. -/
def stepsWho (c : Console) (inServiceOnly : Bool) (right : Rights → Bool) : List Step :=
  [stepPart inServiceOnly, stepSignedOn c, stepEntry c, stepRight c right]

/-- Step 5 from a console: the lane's range, its copy in force, its serving set. -/
def stepLane (c : Console) (lane : Nat) : Step := fun s =>
  match numbered 6 lane with
  | none => (s, some .badOrder)
  | some l =>
    let s := s.usePolicy l
    (s, if (s.policy l).check.faulted then some .tableFault
        else if (s.policy l).serving[c] then none else some .noRight)

/-- Step 5 from station 7: the lane's range alone (R24). -/
def stepRange (lane : Nat) : Step := need (fun _ => (numbered 6 lane).isSome) .badOrder

/-- Steps 6, 7, 8. -/
def stepOpen (l : Lane) : Step := need (fun s => (s.laneRec l).state != .closed) .laneClosed
def stepNotHeld (l : Lane) : Step := need (fun s => (s.laneRec l).state != .held) .laneHeld
def stepNotBusy (l : Lane) : Step := need (fun s => (s.laneRec l).state != .busy) .laneBusy

/-- Step 7 of SEND CARRIER: a HELD lane without a transaction refuses (R26). -/
def stepSendable (l : Lane) : Step :=
  need (fun s => (s.laneRec l).state != .held || (s.laneRec l).txn.isSome) .laneHeld

/-- Step 9: LOCKDOWN refuses. -/
def stepCondition : Step := need (fun s => s.condition != .lockdown) .condition

/-- Step 10: journal admission (R172). -/
def stepJournal : Step := need State.journalAdmits .journalFull

/-- Steps 6 to 10 of an order that opens a transaction. -/
def stepsAdmission (l : Lane) : List Step := [stepOpen l, stepNotHeld l, stepNotBusy l, stepCondition, stepJournal]

/-- Run the steps that need no lane and step 5, then the order on the lane. -/
def State.onLane (s : State) (steps : List Step) (lane : Nat) (act : State → Lane → Answer) : Answer :=
  match s.checks steps with
  | (s, some c) => answer s c
  | (s, none) =>
    match numbered 6 lane with
    | some l => act s l
    | none => answer s .badOrder

/-- Run further checks, then an effect. -/
def State.ifPass (s : State) (steps : List Step) (act : State → Answer) : Answer :=
  match s.checks steps with
  | (s, some c) => answer s c
  | (s, none) => act s

/-- An effect that answers a state and a code. -/
def answerOf (p : State × Code) : Answer := answer p.1 p.2

/-- An order naming a lane breaks the half stored there, whatever its own result (R32). -/
def State.breakNamed (s : State) (lane : Nat) : State :=
  match numbered 6 lane with
  | some l => s.breakPair l
  | none => s

/-- An order from a console alone that names a lane: broken pair, then steps 1 to 5; from station 7 it is NO RIGHT (R24). -/
def State.consoleLaneOrder (s : State) (st : Station) (lane : Nat) (inServiceOnly breaks : Bool) (right : Rights → Bool)
    (act : State → Console → Lane → Answer) : Answer :=
  let s := if breaks then s.breakNamed lane else s
  match st with
  | .supervisor => answer s .noRight
  | .console c => s.onLane (stepsWho c inServiceOnly right ++ [stepLane c lane]) lane fun s l => act s c l

/-- An order naming a lane from a console or from station 7 (R24): in the reduced form steps 2 to 4 are passed over. -/
def State.sharedLaneOrder (s : State) (st : Station) (lane : Nat) (inServiceOnly : Bool) (right : Rights → Bool)
    (act : State → Lane → Answer) : Answer :=
  let s := s.breakNamed lane
  match st with
  | .supervisor => s.onLane [stepPart inServiceOnly, stepRange lane] lane act
  | .console c => s.onLane (stepsWho c inServiceOnly right ++ [stepLane c lane]) lane act

/-! ## SIGN ON, SIGN OFF (R18, R19) -/

/-- SIGN ON (R18). -/
def State.signOn (s : State) (st : Station) (credential : Nat) : Answer :=
  match st with
  | .supervisor => answer s .noRight
  | .console c =>
    if credential = 0 ∨ 65535 < credential then answer s .badOrder
    else if s.mgmt.partState = .unconfigured then answer s .notReady
    else if (s.binding c).isSome then answer s .wrongState
    else
      let s := s.forEach (s.reached credential) State.checkAuthority
      match s.lookUp credential with
      | none => answer s .noRight
      | some i =>
        if (s.authority i).check.faulted then answer s .tableFault
        else if (List.finRange 4).any fun d => (s.binding d).any fun b => b.credential == credential then answer s .inUse
        else
          let s := s.setBinding c (some { credential := credential, index := i })
          answer (s.record (s.consoleEntry c .signOn)) .done

/-- SIGN OFF (R19). -/
def State.signOff (s : State) (st : Station) : Answer :=
  match st with
  | .supervisor => answer s .noRight
  | .console c =>
    if (s.binding c).isNone then answer s .notSignedOn
    else if s.dispenses.any fun r => r.station == c && r.state == .presented then answer s .wrongState
    else
      let e := s.consoleEntry c .signOff
      answer ((((s.breakPairsOf c).redirect c).setBinding c none).record e) .done

/-! ## DISPENSE (R27 to R31, R52) -/

/-- For whom a dispense is screened and admitted: the SINGLE's sender or the stored first half (R27, R31). -/
structure Payer where
  station : Console
  credential : Nat
  index : AuthId
  tag : Nat

/-- Check 1 of R27. -/
def checkAmount (amount : Nat) : Step := need (fun _ => decide (1 ≤ amount ∧ amount ≤ 999999)) .badOrder

/-- Checks 2 to 6 of R27. -/
def checksLimits (l : Lane) (p : Payer) (amount : Nat) : List Step :=
  [ need (fun s => decide (amount ≤ (s.policy l).singleLimit)) .limit,
    need (fun s => decide (amount ≤ (s.authority p.index).perDispense)) .limit,
    need (fun s => s.condition != .duress || decide (amount ≤ (s.policy l).duressCap)) .limit,
    need (fun s => decide ((s.authority p.index).shiftTotal + amount ≤ (s.authority p.index).shiftLimit)) .limit,
    rateCheck p.station ]

/-- The dual threshold of 999,999: no dispense needs two halves (R1). -/
def noDual : Nat := 999999

/-- Check 7 of R27 for a SINGLE. -/
def checkSingle (l : Lane) (amount : Nat) : Step :=
  need (fun s => decide (amount < (s.policy l).dualThreshold ∨ (s.policy l).dualThreshold = noDual)) .pairMismatch

/-- Check 7 of R27 for a FIRST (R30). -/
def checkFirst (l : Lane) (amount : Nat) : Step :=
  need (fun s => decide ((s.policy l).dualThreshold ≤ amount ∧ (s.policy l).dualThreshold < noDual)) .pairMismatch

/-- Checks 8 to 10 of R27. -/
def checksRoom : List Step :=
  [ need (fun s => s.cash.recycler != .faulted) .recyclerFault,
    need (fun s => !s.entryPoor s.recyclerEntry) .nodeUnavailable,
    need (fun s => decide ((s.cassette cassetteP).count ≤ 240)) .purgeFull,
    need (fun s => decide (s.cash.workQueue.length < 8)) .queueFull,
    need (fun s => (List.finRange 8).any fun i => (s.dispense.records[i]).isNone) .queueFull ]

/-- The id after the last issued that no occupied record holds (R52): among nine in a row one is free. -/
def State.nextId (s : State) : Nat :=
  (((List.range 9).map fun k => (s.dispense.lastId + k) % 255 + 1).find? fun n => !(s.dispenses.any fun r => r.id == n)).getD 1

/-- The record of an admission (R52). -/
def State.newDispense (s : State) (l : Lane) (p : Payer) (amount : Nat) (plan : List PlanItem) : DispenseRecord :=
  { id := s.nextId, lane := l, station := p.station, reportStation := .console p.station, credential := p.credential
    index := p.index, tag := p.tag, amount := amount, plan := plan, flags := { duress := s.alarm.duress }, charge := amount }

/-- Admit a dispense with its plan (R27, R52, R47): record, charge, rate entry, reserved slot, BUSY lane, PICK entry. It takes the
lowest-numbered free record (log 51). -/
def State.admitDispense (s : State) (l : Lane) (p : Payer) (amount : Nat) (plan : List PlanItem) : Answer :=
  match (List.finRange 8).find? fun i => (s.dispense.records[i]).isNone with
  | none => answer s .queueFull
  | some i =>
    let r := s.newDispense l p amount plan
    let s := (s.setDispense i (some r)).mapDispense fun d => { d with lastId := r.id }
    let s := s.chargeShift p.index amount
    let s := s.mapRate p.station fun w => w ++ [s.now]
    let s := s.reserve
    let s := s.record
      { r.entry .admitted with value := amount, items := plan.map fun x => (numberOf x.cassette, x.count) }
    let s := s.openTxn l (.dispense r.id)
    let s := (s.enqueueWork (.pick r.id plan false)).arbitrate
    { state := s, code := .accepted, body := .dispenseId r.id }

/-- Checks 11 and 12 of R27, then the admission. -/
def State.planAndAdmit (s : State) (l : Lane) (p : Payer) (amount : Nat) : Answer :=
  let s := s.readForPlan
  match mixOf (s.eligibleList []) amount s.bundleLimit with
  | .noCash => answer s .noCash
  | .noMix => answer s .noMix
  | .plan items => s.admitDispense l p amount items

/-- The payer of a SINGLE: the sending console and its binding; step 2 has found one. -/
def State.payerOf (s : State) (c : Console) (tag : Nat) : Payer :=
  { station := c, credential := ((s.binding c).map Binding.credential).getD 0
    index := ((s.binding c).map Binding.index).getD 0, tag := tag }

/-- DISPENSE with pair part SINGLE (R27). -/
def State.dispenseSingle (s : State) (h : Sender) (lane amount : Nat) : Answer :=
  s.consoleLaneOrder h.station lane true true Rights.dispense fun s c l =>
    let p := s.payerOf c h.tag
    s.ifPass (stepsAdmission l ++ [checkAmount amount] ++ checksLimits l p amount ++ [checkSingle l amount] ++ checksRoom)
      fun s => s.planAndAdmit l p amount

/-- DISPENSE with pair part FIRST (R30). -/
def State.dispenseFirst (s : State) (h : Sender) (lane amount : Nat) : Answer :=
  s.consoleLaneOrder h.station lane true true Rights.dispense fun s c l =>
    s.ifPass (stepsAdmission l ++ [checkAmount amount, checkFirst l amount]) fun s =>
      let p := s.payerOf c h.tag
      let s := s.checkScreening
      let half : PairHalf :=
        { station := c, credential := p.credential, index := p.index, amount := amount, tag := h.tag, arrival := s.now
          window := s.screening.pairWindow }
      answer ((s.setPair l (some half)).record (half.entry l .pairFirst)) .pairWait

/-- The pair timer of a stored half (R30). -/
def PairHalf.timer (h : PairHalf) : Timer := { start := h.arrival, duration := 1000 * h.window }

/-- The stored entry is read with its check before check 2 (R31). -/
def checkStored (h : PairHalf) : Step := fun s =>
  let s := s.checkAuthority h.index
  let e := s.authority h.index
  (s, if e.check.faulted then some .tableFault
      else if e.credential = h.credential ∧ e.rights.dispense then none else some .noRight)

/-- The pair rule for a SECOND (R31). -/
def checkSecond (c : Console) (h : PairHalf) (amount : Nat) : Step :=
  need (fun s =>
    c != h.station && (s.binding c).any (fun b => b.credential != h.credential) && amount == h.amount
      && !h.timer.past s.now) .pairMismatch

/-- What follows a SECOND that passed the pair rule: the half is consumed, and checks 8 to 12 decide (R31). DESIGN CHOICE: the PAIR
COMPLETE record carries the lane and the amount as well (log 75), and the PAIR COMPLETE report the code ACCEPTED beside the dispense
id (log 78). -/
def State.completePair (s : State) (c : Console) (l : Lane) (h : PairHalf) (amount : Nat) : Answer :=
  let second := s.consoleEntry c .pairComplete
  let s := s.setPair l none
  let a := s.ifPass checksRoom fun s =>
    s.planAndAdmit l { station := h.station, credential := h.credential, index := h.index, tag := h.tag } amount
  match a.body with
  | .dispenseId id =>
    let s := a.state.record
      { h.entry l .pairComplete with facts := [.station2 second.station second.credential second.authIndex, .tag h.tag] }
    { a with state := s.send (.console h.station) h.tag (.pairComplete (some id) .accepted) }
  | _ => { a with state := a.state.send (.console h.station) h.tag (.pairRefused a.code) }

/-- DISPENSE with pair part SECOND (R31). It breaks no pair (R32). -/
def State.dispenseSecond (s : State) (h : Sender) (lane amount : Nat) : Answer :=
  s.consoleLaneOrder h.station lane true false Rights.second fun s c l =>
    s.ifPass (stepsAdmission l ++ [checkAmount amount]) fun s =>
      match s.screen.pairSlots[l] with
      | none => answer s .pairMismatch
      | some half =>
        let p : Payer := { station := half.station, credential := half.credential, index := half.index, tag := half.tag }
        s.ifPass ([checkStored half] ++ checksLimits l p amount ++ [checkSecond c half amount]) fun s =>
          s.completePair c l half amount

/-- CANCEL DISPENSE (R65). -/
def State.cancelDispense (s : State) (st : Station) (lane id : Nat) : Answer :=
  s.sharedLaneOrder st lane false Rights.dispense fun s l =>
    match s.findDispense fun r => r.id == id && r.lane == l with
    | none => answer s .wrongState
    | some i =>
      let mine := s.dispense.records[i].any fun r => st == .supervisor || st == .console r.station
      let queued := s.dispense.records[i].any fun r => r.state == .queued
      if !mine then answer s .noRight
      else if !queued then answer s .wrongState
      else answer (((s.dropWork fun e => e.isPickOf id).endDispense i .cancelled 0).arbitrate) .done

/-! ## OPEN DEPOSIT, CLOSE DEPOSIT (R96, R104) -/

/-- The own checks of OPEN DEPOSIT (R96). -/
def checksDeposit : List Step :=
  [ need (fun s => s.cash.recycler != .faulted) .recyclerFault,
    need (fun s => !s.entryPoor s.recyclerEntry) .nodeUnavailable,
    need (fun s => decide (s.cash.workQueue.length < 8)) .queueFull ]

/-- A session is admitted (R96). -/
def State.admitSession (s : State) (l : Lane) (p : Payer) : Answer :=
  let s := s.setSession l (some
    { station := p.station, reportStation := .console p.station, credential := p.credential, index := p.index
      tag := p.tag, flags := { duress := s.alarm.duress } })
  let s := (s.reserve).openTxn l .deposit
  let s := s.enqueueWork (.accept l)
  let s := s.record (s.sessionEntry l .sessionOpen [])
  { state := s.arbitrate, code := .accepted, body := .slot (numberOf l) }

/-- OPEN DEPOSIT (R96). -/
def State.openDeposit (s : State) (h : Sender) (lane : Nat) : Answer :=
  s.consoleLaneOrder h.station lane true true Rights.deposit fun s c l =>
    s.ifPass (stepsAdmission l ++ checksDeposit) fun s => s.admitSession l (s.payerOf c h.tag)

/-- A QUEUED session whose running ACCEPT has an end cause recorded takes no further CLOSE DEPOSIT (R97). -/
def Session.closable (x : Session) : Bool := x.state == .active || (x.state == .queued && x.endCause.isNone)

/-- CLOSE DEPOSIT (R104). -/
def State.closeDepositOrder (s : State) (st : Station) (lane : Nat) : Answer :=
  s.sharedLaneOrder st lane false Rights.deposit fun s l =>
    match s.session l with
    | none => answer s .wrongState
    | some x =>
      if st ≠ .supervisor ∧ st ≠ .console x.station then answer s .noRight
      else if x.closable then
        let p := s.closeDeposit l
        answer p.1.arbitrate p.2
      else answer s .wrongState

/-! ## SEND CARRIER, RECALL CARRIER (R125, R126) -/

/-- The own checks of SEND CARRIER (R125). -/
def checksSend (l : Lane) : List Step :=
  [ need (fun s => (s.requestOf l).isNone) .wrongState,
    need (fun s => (s.carrier l).location == .teller && (s.carrier l).seated) .carrierAbsent,
    need State.blowerUsable .nodeUnavailable,
    need (fun s => s.entryReachable (s.stationEntry l)) .nodeUnavailable ]

/-- SEND CARRIER (R125). -/
def State.sendCarrier (s : State) (h : Sender) (lane : Nat) : Answer :=
  s.consoleLaneOrder h.station lane false true Rights.tube fun s c l =>
    s.ifPass ([stepOpen l, stepSendable l, stepCondition] ++ checksSend l) fun s =>
      answer (s.joinRequest l .toLane (.station (.console c)) (s.toBind l)) .accepted

/-- The own checks of RECALL CARRIER (R126). -/
def checksRecall (l : Lane) : List Step :=
  [ need (fun s => (s.requestOf l).isNone) .wrongState,
    need (fun s => (s.carrier l).location == .lane && (s.carrier l).seated) .carrierAbsent,
    need State.blowerUsable .nodeUnavailable ]

/-- RECALL CARRIER (R126). -/
def State.recallCarrier (s : State) (st : Station) (lane : Nat) : Answer :=
  s.sharedLaneOrder st lane false Rights.tube fun s l =>
    s.ifPass (checksRecall l) fun s => answer (s.joinRequest l .toTeller (.station st) none) .accepted

/-! ## OPEN LANE, CLOSE LANE, RELEASE LANE (R12 to R15) -/

/-- The own checks of OPEN LANE (R13). -/
def checksOpenLane (l : Lane) : List Step :=
  [ need (fun s => (s.laneRec l).state == .closed) .wrongState,
    (fun s =>
      let s := s.usePolicy l
      (s, if (s.policy l).check.faulted then some .tableFault
          else if (s.policy l).isOpen then none else some .laneClosed)),
    need (fun s => (s.stationEntry l).isSome) .nodeUnavailable ]

/-- OPEN LANE (R13): the lane leaves CLOSED, HELD if it holds a reason and IDLE otherwise. DESIGN CHOICE: the record fills the lane
beside the station and the credential of R12 (log 90). -/
def State.openLane (s : State) (st : Station) (lane : Nat) : Answer :=
  s.sharedLaneOrder st lane true Rights.lane fun s l =>
    s.ifPass (checksOpenLane l) fun s =>
      let before := s.laneRec l
      let s := s.mapLane l fun r => { r with state := if r.holds.any then .held else .idle }
      let s := s.record { s.senderEntry st .laneOpen with lane := numberOf l }
      answer (s.announce l before) .done

/-- CLOSE LANE (R14). DESIGN CHOICE: the record fills the lane beside the station and the credential of R12 (log 90). -/
def State.closeLane (s : State) (st : Station) (lane : Nat) : Answer :=
  s.sharedLaneOrder st lane false Rights.lane fun s l =>
    s.ifPass [need (fun s => (s.laneRec l).state != .closed) .wrongState,
              need (fun s => (s.laneRec l).txn.isNone) .laneBusy] fun s =>
      let before := s.laneRec l
      let s := s.mapLane l fun r => { r with state := .closed }
      let s := s.record { s.senderEntry st .laneClose with lane := numberOf l }
      answer (s.announce l before) .done

/-- No loop assigned to a lane is TRIPPED (R15); a FAULTED loop's stored lane counts too (R140). -/
def State.laneLoopsClear (s : State) (l : Lane) : Bool := !(s.anyLoop fun k => k.tripped && k.lane == numberOf l)

/-- The own checks of RELEASE LANE (R15). -/
def checksRelease (l : Lane) : List Step :=
  [ need (fun s => (s.laneRec l).holds.latched) .wrongState,
    need (fun s => !(s.laneRec l).holds.loop || s.laneLoopsClear l) .wrongState,
    need (fun s => !(s.laneRec l).holds.carrier || (s.carrier l).location != .unknown) .wrongState ]

/-- RELEASE LANE (R15): every latched reason leaves, and with CASH the lane leaves the in-doubt set (R69). DESIGN CHOICE: the record
fills the lane beside the reasons it lists (log 90). -/
def State.releaseLane (s : State) (st : Station) (lane : Nat) : Answer :=
  s.sharedLaneOrder st lane false Rights.lane fun s l =>
    s.ifPass (checksRelease l) fun s =>
      let before := s.laneRec l
      let s := s.checkCopy before.profile l
      let s := s.mapLane l fun r => { r with holds := { node := r.holds.node } }
      let s := if before.holds.cash then s.leaveInDoubt l else s
      let s := s.record
        { s.senderEntry st .release with
          lane := numberOf l, facts := [.reasons { before.holds with node := false }] }
      answer (s.settleAndAnnounce l before) .done

/-! ## CONFIRM (R36) -/

/-- The pair timer of the Management Pair Slot's half (R35). -/
def MgmtHalf.timer (h : MgmtHalf) : Timer := { start := h.arrival, duration := 1000 * h.window }

/-- Whether the slot holds the half a CONFIRM names, in time (R36). -/
def State.confirms (s : State) (op : Option MgmtOp) : Bool :=
  s.screen.managementSlot.any fun h => op == some h.op && !h.timer.past s.now

/-- Carry out a confirmed operation by its owning block (R36); its record carries the confirming console's fields (R17, R20). -/
def State.carryOut (s : State) (op : MgmtOp) (who : Entry) : State × Code :=
  match op with
  | .exchangeCassette c => s.openExchange c who
  | .emptyDepository => s.openSafe who
  | .clearLockdown => s.clearLockdown who

/-- CONFIRM (R36). `op`: the operation it names, none if its operands name nothing a half can hold. DESIGN CHOICE: PAIR COMPLETE
has the confirming console's fields, and station 7 and the half's tag as facts (logs 11 and 75). -/
def State.confirm (s : State) (st : Station) (right : Rights → Bool) (op : Option MgmtOp) : Answer :=
  match st with
  | .supervisor => answer s .noRight
  | .console c =>
    s.ifPass (stepsWho c false right ++ [need (fun s => s.confirms op) .pairMismatch]) fun s =>
      match s.screen.managementSlot with
      | none => answer s .pairMismatch
      | some h =>
        let e := s.consoleEntry c .pairComplete
        let s := s.mapScreen fun k => { k with managementSlot := none }
        let s := s.record { e with facts := [.station2 7 0 0, .tag h.tag] }
        let p := s.carryOut h.op e
        answer (p.1.send .supervisor h.tag (.pairComplete none p.2)) p.2

/-- The cassette operand of a paired EXCHANGE CASSETTE. -/
def exchangeOp (cassette : Nat) : Option MgmtOp := (numbered 8 cassette).map MgmtOp.exchangeCassette

/-! ## Pair timers (R33, R37) -/

/-- The pair timer of a lane's slot expires (R33). -/
def State.pairExpired (s : State) (l : Lane) : State :=
  match s.screen.pairSlots[l] with
  | some h =>
    if timerDue (some h.timer) s.now then
      ((s.setPair l none).record (h.entry l .pairExpired)).sendCopied (.console h.station) h.tag .pairExpired .pairExpired
    else s
  | none => s

/-- The pair timer of the Management Pair Slot expires (R37). DESIGN CHOICE: the record carries station 7 (log 75). -/
def State.managementPairExpired (s : State) : State :=
  match s.screen.managementSlot with
  | some h =>
    if timerDue (some h.timer) s.now then
      ((s.mapScreen fun k => { k with managementSlot := none }).record
        { kind := .pairExpired, station := 7, facts := [.tag h.tag] }).send .supervisor h.tag .pairExpired
    else s
  | none => s

/-! ## Soft reset (R40) -/

/-- The Order Screen's soft reset (R40). DESIGN CHOICE: this sign-off leaves the report stations of the dispenses and the sessions
as they are, so that their outcomes in the same reset (R72, R110) are reported to their consoles (log 71). -/
def State.resetScreen (s : State) : State :=
  s.mapScreen fun k =>
    { k with consoles := Vector.replicate 4 none, pairSlots := Vector.replicate 6 none, managementSlot := none }

end Sys2Proof.Machine
end

