-- ==== Sys2Proof/Machine/Management.lean ====
section
/-! DEFINITION. Management (chapter 11) and the table writes of every chapter: WRITE ENTRY by table, READ ENTRY, the direct
management orders, READ STATUS, the journal orders, the part states, and the resets of the whole part. -/

namespace Sys2Proof.Machine

open Sys2Proof

/-! ## WRITE ENTRY (R175) -/

/-- A TABLE WRITE record. DESIGN CHOICE: each names the table and entry, a setting's carries the values given and stored, a module's
the node and lane, also where the rule names the kind alone (log 83). -/
def State.tableWrite (s : State) (t : TableRef) (values : List Nat := []) (lane : Nat := 0) : State :=
  s.record { kind := .tableWrite, lane := lane, facts := .table t :: if values = [] then [] else [.stored values] }

/-- The transit limit as it is stored (R2). -/
def storedTransit (n : Nat) : Nat := if n = 0 then 0 else clamp 1000 30000 n

/-- The checks of a policy write (R2). -/
def policyWriteOk (w : LanePolicyWrite) : Bool :=
  decide (1 ≤ w.singleLimit ∧ w.singleLimit ≤ 999999 ∧ 1 ≤ w.dualThreshold ∧ w.dualThreshold ≤ 999999
    ∧ w.duressCap ≤ 999999) && w.serving.all fun n => decide (1 ≤ n ∧ n ≤ 4)

/-- The copy a write stores (R2). -/
def policyWriteCopy (w : LanePolicyWrite) : PolicyCopy :=
  { isOpen := w.isOpen, singleLimit := w.singleLimit, dualThreshold := w.dualThreshold, duressCap := w.duressCap
    envelopeDrop := w.envelopeDrop, transitLimit := storedTransit w.transitLimit
    serving := Vector.ofFn fun c : Fin 4 => w.serving.contains (numberOf c) }

/-- WRITE ENTRY to the Lane Policy Table (R2); a write to the copy in force settles the lane (R7). -/
def State.writeLanePolicy (s : State) (w : LanePolicyWrite) : Answer :=
  match numbered 6 w.lane with
  | none => answer s .badOrder
  | some l =>
    if policyWriteOk w then
      let p := s.lanes.writeSelect
      let before := s.laneRec l
      let s := s.mapLanes fun k => k.setCopy p l (policyWriteCopy w)
      let s := s.tableWrite (.lanePolicy (numberOf l) (some p)) [] (numberOf l)
      answer (if before.profile = p then s.settleAndAnnounce l before else s) .done
    else answer s .badOrder

/-- A console that a write to an Authority entry signs off (R21). -/
def State.losesBinding (s : State) (i : AuthId) (c : Console) : Bool :=
  (s.binding c).any fun b =>
    if b.index = i then (s.authority i).credential != b.credential
    else decide (i.val < b.index.val) && (s.authority i).credential == b.credential

/-- WRITE ENTRY to the Authority Table (R21). -/
def State.writeAuthority (s : State) (w : AuthorityWrite) : Answer :=
  match numbered 32 w.index, w.rights with
  | some i, some rights =>
    if 1 ≤ w.perDispense ∧ w.perDispense ≤ 999999 ∧ w.shiftLimit ≤ 99999999 then
      let old := s.authority i
      let keeps := !old.check.faulted && old.credential == w.credential
      let s := s.mapAuthority i fun e =>
        { e with credential := w.credential, rights := rights, perDispense := w.perDispense, shiftLimit := w.shiftLimit }
      let s := if keeps then s else s.resetShiftOf i
      let s := s.mapAuthority i fun e => { e with check := Check.fresh }
      let s := s.tableWrite (.authority (numberOf i))
      answer (s.forEach (List.finRange 4) fun s c => if s.losesBinding i c then s.forceSignOff c else s) .done
    else answer s .badOrder
  | _, _ => answer s .badOrder

/-- WRITE ENTRY to the Denomination Table (R73). -/
def State.writeDenomination (s : State) (index value : Nat) : Answer :=
  match numbered 8 index with
  | none => answer s .badOrder
  | some i =>
    if 10000 < value then answer s .badOrder
    else if s.mgmt.partState = .inService then answer s .wrongState
    else if s.dispenses ≠ [] ∨ s.sessions ≠ [] then answer s .wrongState
    else
      let s := s.mapCash fun k => { k with denominations := k.denominations.set i { value := value } }
      answer (s.tableWrite (.denomination (numberOf i))) .done

/-- WRITE ENTRY to the Cassette Table (R74). -/
def State.writeCassette (s : State) (cassette : Nat) (role : Option Role) (lowMark fillLimit : Nat) : Answer :=
  match numbered 6 cassette, role with
  | some c, some role =>
    if lowMark ≤ 500 then
      let c : CassetteId := ⟨c.val, by omega⟩
      let s := s.mapCassette c fun k =>
        { k with
          role := role, lowMark := lowMark, fillLimit := clamp 1 2500 fillLimit
          causes := { k.causes with fault := false }, check := Check.fresh, lowArmed := decide (lowMark < k.count) }
      answer ((s.tableWrite (.cassette (numberOf c))).arbitrate) .done
    else answer s .badOrder
  | _, _ => answer s .badOrder

/-- The configuration checks 1 to 3 of a loop write (R139). -/
def loopWriteOk (w : LoopWrite) : Bool :=
  decide (w.lane ≤ 6) && !(decide (w.response = some .laneHold) && decide (w.lane = 0))

/-- The runtime part restarts at a write (R139). -/
def State.restartLoop (s : State) (i : LoopId) : State :=
  let k := s.loop i
  if !k.configured then (s.disarm i).mapLoop i fun k => { k with band := none }
  else if k.armMode = .always then s.enterArming i
  else s.disarm i

/-- WRITE ENTRY to the Loop Table (R139). DESIGN CHOICE: the end of a standing trip writes no LOOP ACK record and queues no LOOP report
(log 77). -/
def State.writeLoop (s : State) (w : LoopWrite) : Answer :=
  match numbered 16 w.loop, w.kind, w.armMode, w.response with
  | some i, some kind, some arm, some response =>
    let old := s.loop i
    if !loopWriteOk w then answer s .badOrder
    else if old.tripped && s.mgmt.partState == .inService then answer s .wrongState
    else if s.envelope.safe.isSome && (old.kind == .safeDoor || kind == .safeDoor) then answer s .wrongState
    else
      let s := if old.tripped then s.endTrip i else s
      let s := s.mapLoop i fun k =>
        { k with kind := kind, lane := w.lane, qualify := clamp 20 2000 w.qualify, armMode := arm, response := response
                 check := Check.fresh }
      let s := (s.restartLoop i).tableWrite (.loop (numberOf i))
      answer s.arbitrate .done
  | _, _, _, _ => answer s .badOrder

/-- Some other entry in use has a property. -/
def State.otherModule (s : State) (m : ModuleId) (p : Module → Bool) : Bool :=
  (List.finRange 16).any fun i => i != m && (s.module i).node != 0 && p (s.module i)

/-- Check 5 of a module write: the old node has no frame waiting, due or outstanding, and its mechanism is at rest (R158). -/
def State.moduleQuiet (s : State) (m : ModuleId) : Bool :=
  let e := s.module m
  let used := e.node != 0
  !(s.bus.outgoing.any fun f => f.node == e.node) && !(s.bus.resend.any fun f => f.node == e.node)
    && !(s.bus.outstanding.any fun x => x.frame.node == e.node)
    && !(used && e.kind == .recycler && s.cash.recycler == .busy)
    && !(used && e.kind == .blower && match s.tube.blower with | .moving _ => true | _ => false)

/-- The checks of a module write after its form (R158). -/
def checksModule (m : ModuleId) (node : Nat) (kind : ModuleKind) : List Step :=
  [ need (fun s => s.mgmt.partState != .inService) .wrongState,
    need (fun s => node == 0 || !(s.otherModule m fun e => e.node == node)) .inUse,
    need (fun s => node == 0 || kind == .laneStation || !(s.otherModule m fun e => e.kind == kind)) .inUse,
    need (fun s => s.moduleQuiet m) .wrongState ]

/-- WRITE ENTRY to the Module Table (R158). -/
def State.writeModule (s : State) (entry node : Nat) (kind : Option ModuleKind) (lane : Nat) : Answer :=
  match numbered 16 entry, kind with
  | some m, some kind =>
    if 30 < node ∨ (kind = .laneStation ∧ (numbered 6 lane).isNone) then answer s .badOrder
    else
      s.ifPass (checksModule m node kind) fun s =>
        let old := (s.module m).node
        let s := s.mapModule m fun _ => { node := node, kind := kind, lane := lane }
        let s := s.forEach (s.bus.restores.filter fun r => r.node = old) fun s r => s.endRestore r .abandoned
        let s := s.tableWrite (.module (numberOf m)) [node, lane]
        answer (s.evaluateNodes.arbitrateBlower.arbitrate) .done
  | _, _ => answer s .badOrder

/-- WRITE ENTRY to the screening settings (R28). -/
def State.writeScreening (s : State) (pairWindow rateCount rateDuration : Nat) : Answer :=
  let x : ScreeningSetting :=
    { pairWindow := clamp 5 60 pairWindow, rateCount := clamp 1 8 rateCount, rateDuration := clamp 10 600 rateDuration }
  answer ((s.mapScreen fun k => { k with setting := x }).tableWrite .screening
    [pairWindow, x.pairWindow, rateCount, x.rateCount, rateDuration, x.rateDuration]) .done

/-- WRITE ENTRY to the planner setting (R42). -/
def State.writePlanner (s : State) (bundle : Nat) : Answer :=
  let n := clamp 1 100 bundle
  answer ((s.mapCash fun k => { k with planner := { value := n } }).tableWrite .planner [bundle, n]) .done

/-- WRITE ENTRY to the presenter setting (R60). -/
def State.writePresenter (s : State) (timeout : Nat) : Answer :=
  let n := clamp 10 120 timeout
  answer ((s.mapDispense fun d => { d with setting := { value := n } }).tableWrite .presenter [timeout, n]) .done

/-- WRITE ENTRY to the deposit setting (R95). -/
def State.writeDeposit (s : State) (timeout : Nat) : Answer :=
  let n := clamp 10 120 timeout
  answer ((s.mapDeposit fun d => { d with setting := { value := n } }).tableWrite .deposit [timeout, n]) .done

/-- The capacity a write stores (R112): clamped, then raised to the count plus the in-progress count. -/
def State.storedCapacity (s : State) (given : Nat) : Nat := max (clamp 100 1000 given) (s.envelope.count + s.inProgress)

/-- WRITE ENTRY to the depository setting (R112). -/
def State.writeDepository (s : State) (capacity : Nat) : Answer :=
  let n := s.storedCapacity capacity
  answer ((s.changeDepository fun e => { e with setting := { value := n } }).tableWrite .depository [capacity, n]) .done

/-- WRITE ENTRY to the tube setting (R128). -/
def State.writeTube (s : State) (rest : Nat) : Answer :=
  let n := min rest 2000
  answer ((s.mapTube fun t => { t with setting := { value := n } }).tableWrite .tube [rest, n]) .done

/-- The bus setting a write stores (R160, R168), clamped in the order of R168. -/
def busWriteStored (w : BusWrite) : BusSetting :=
  let quanta := clamp 8 25 w.quanta
  let phase2 := min (max w.phase2 2) ((quanta - 1) / 2)
  { window := clamp 2 50 w.window, quanta := quanta, phase2 := phase2, jump := min (clamp 1 4 w.jump) phase2 }

/-- WRITE ENTRY to the bus setting (R168). -/
def State.writeBus (s : State) (w : BusWrite) : Answer :=
  let x := busWriteStored w
  answer ((s.mapBus fun b => { b with setting := x }).tableWrite .bus
    [w.window, x.window, w.quanta, x.quanta, w.phase2, x.phase2, w.jump, x.jump]) .done

/-! ## READ ENTRY (R175) -/

/-- A setting's entry as READ ENTRY returns it. -/
def entryAnswer (s : State) (e : State → EntryData) : Answer := { state := s, code := .done, body := .entry (e s) }

/-- READ ENTRY: the parity check, then the stored values (R175); a table or entry that is none of R175's is BAD ORDER. -/
def State.readEntry (s : State) (t : Option TableRef) : Answer :=
  match t with
  | none => answer s .badOrder
  | some (.lanePolicy lane p) =>
    match numbered 6 lane, p with
    | some l, some p => entryAnswer (s.checkCopy p l) fun s => .lanePolicy (s.lanes.copy p l)
    | _, _ => answer s .badOrder
  | some (.authority i) =>
    match numbered 32 i with
    | some i => entryAnswer (s.checkAuthority i) fun s => .authority (s.authority i)
    | none => answer s .badOrder
  | some (.denomination i) =>
    match numbered 8 i with
    | some i => entryAnswer (s.checkDenomination i) fun s => .denomination s.cash.denominations[i]
    | none => answer s .badOrder
  | some (.cassette c) =>
    match numbered 8 c with
    | some c => entryAnswer (s.checkCassette c) fun s => .cassette (s.cassette c)
    | none => answer s .badOrder
  | some (.loop i) =>
    match numbered 16 i with
    | some i => entryAnswer (s.checkLoop i) fun s => .loop (s.loop i)
    | none => answer s .badOrder
  | some (.module m) =>
    match numbered 16 m with
    | some m => entryAnswer (s.checkModule m).1 fun s => .module (s.module m)
    | none => answer s .badOrder
  | some .screening => entryAnswer s.checkScreening fun s => .screening s.screen.setting
  | some .planner => entryAnswer s.checkPlanner fun s => .single s.cash.planner
  | some .presenter => entryAnswer s.checkPresenter fun s => .single s.dispense.setting
  | some .deposit => entryAnswer s.checkDepositSetting fun s => .single s.deposit.setting
  | some .depository => entryAnswer s.checkDepositorySetting fun s => .single s.envelope.setting
  | some .tube => entryAnswer s.checkTubeSetting fun s => .single s.tube.setting
  | some .bus => entryAnswer s.checkBusSetting fun s => .bus s.bus.setting

/-! ## SELECT PROFILE (R6) -/

/-- SELECT PROFILE WRITE (R6). -/
def State.selectWrite (s : State) (p : Option Profile) : Answer :=
  match p with
  | none => answer s .badOrder
  | some p => answer (s.mapLanes fun k => { k with writeSelect := p }) .done

/-- SELECT PROFILE OPERATE (R6). -/
def State.selectOperate (s : State) (p : Option Profile) : Answer :=
  match p with
  | none => answer s .badOrder
  | some p => answer ((s.mapLanes fun k => { k with operateSelect := p }).forEach (List.finRange 6) State.operateLane) .done

/-! ## LOAD CASSETTE, RECONCILE CASSETTE (R81, R82) -/

/-- The denomination operand of a LOAD that check 2 lets through (R81). -/
def loadDenom (c : CassetteId) (denom : Option Nat) : Option (Option DenomId) :=
  match denom with
  | none => some none
  | some d => if isWork c then (numbered 8 d).map some else none

/-- Check 3 of a LOAD (R81). -/
def Cassette.loadable (k : Cassette) : Bool :=
  k.reinserted || (!k.out && !k.unreconciled && k.count == 0) || (k.unreconciled && !k.out)

/-- BIN COUNT tells the recycler the new count of D or P (R81, R82). -/
def State.sendBinCount (s : State) (c : CassetteId) : State :=
  if isWork c then s else s.post s.recyclerEntry .cash (.binCount c (s.cassette c).count)

/-- The load itself (R81). -/
def State.load (s : State) (c : CassetteId) (d : Option DenomId) (count : Nat) : State :=
  let old := s.cassette c
  let s := s.mapCassette c fun k =>
    { k.restarted c count with out := false, reinserted := false, denom := if isWork c then d else k.denom }
  let s := s.sendBinCount c
  s.record
    { kind := .load, value := (s.cassette c).count, noteCount := old.count, items := old.accountItems c
      detail := (d.map numberOf).getD 0, facts := [.cassette c] }

/-- LOAD CASSETTE (R81). -/
def State.loadCassette (s : State) (cassette : Nat) (denom : Option Nat) (count : Nat) : Answer :=
  match numbered 8 cassette with
  | none => answer s .badOrder
  | some c =>
    match loadDenom c denom with
    | none => answer s .badOrder
    | some d =>
      let s := s.checkCassette c
      if (s.cassette c).loadable && !s.workInFlight c then answer (s.load c d count).arbitrate .done
      else answer s .wrongState

/-- The reconciliation itself (R82). -/
def State.reconcileCount (s : State) (c : CassetteId) (count : Nat) : State :=
  let old := s.cassette c
  let s := s.mapCassette c fun k => k.restarted c count
  let s := s.sendBinCount c
  s.record
    { kind := .reconcile, value := count, noteCount := old.count, items := old.accountItems c, facts := [.cassette c] }

/-- RECONCILE CASSETTE (R82). -/
def State.reconcileCassette (s : State) (cassette count : Nat) : Answer :=
  match numbered 8 cassette with
  | none => answer s .badOrder
  | some c =>
    let s := s.checkCassette c
    let k := s.cassette c
    if k.unreconciled && !k.out && !k.reinserted && !s.workInFlight c then
      answer (s.reconcileCount c count).arbitrate .done
    else answer s .wrongState

/-! ## First halves of paired operations (R35) -/

/-- Store a management first half (R35). DESIGN CHOICE: its PAIR FIRST and PAIR BROKEN records carry station 7 (log 75). -/
def State.storeHalf (s : State) (op : MgmtOp) (tag : Nat) : Answer :=
  let s := match s.screen.managementSlot with
    | none => s
    | some old =>
      (s.record { kind := .pairBroken, station := 7, facts := [.tag old.tag] }).send .supervisor old.tag .brokenPair
  let s := s.checkScreening
  let half : MgmtHalf := { op := op, tag := tag, arrival := s.now, window := s.screening.pairWindow }
  let s := s.mapScreen fun k => { k with managementSlot := some half }
  answer (s.record { kind := .pairFirst, station := 7, facts := [.tag tag] }) .pairWait

/-- EXCHANGE CASSETTE's first half (R35). -/
def State.exchangeFirst (s : State) (cassette tag : Nat) : Answer :=
  match exchangeOp cassette with
  | some op => s.storeHalf op tag
  | none => answer s .badOrder

/-! ## Loop orders (R145, R149) -/

/-- Checks 2 to 4 of ARM LOOP and DISARM LOOP (R145). -/
def checksArm (i : LoopId) : List Step :=
  [ need (fun s => (s.loop i).configured) .wrongState,
    (fun s =>
      let s := s.checkLoop i
      (s, if (s.loop i).check.faulted then some .tableFault else none)),
    need (fun s => (s.loop i).armMode == .onOrder) .wrongState ]

/-- ARM LOOP (R145). -/
def State.armLoop (s : State) (loop : Nat) : Answer :=
  match numbered 16 loop with
  | none => answer s .badOrder
  | some i =>
    s.ifPass (checksArm i ++ [need (fun s => (s.loop i).state == .disarmed) .wrongState]) fun s =>
      answer (s.enterArming i) .done

/-- ARMING, WATCHING or QUALIFYING. -/
def Loop.armed (k : Loop) : Bool := k.state == .arming || k.state == .watching || k.state == .qualifying

/-- DISARM LOOP (R145). -/
def State.disarmLoop (s : State) (loop : Nat) : Answer :=
  match numbered 16 loop with
  | none => answer s .badOrder
  | some i =>
    s.ifPass (checksArm i ++ [need (fun s => (s.loop i).armed) .wrongState]) fun s =>
      answer (((s.disarm i).recordLoop i .loopDisarmed).reportLoop i) .done

/-- ACK LOOP (R149). -/
def State.ackLoop (s : State) (loop : Nat) : Answer :=
  match numbered 16 loop with
  | none => answer s .badOrder
  | some i =>
    if (s.loop i).tripped && (s.loop i).band == some .secure then answer (s.acknowledge i) .done
    else answer s .wrongState

/-! ## RESTORE NODE, RESUME RECYCLER, CLEAR TUBE, RESET SHIFT (R166, R87, R134, R23) -/

/-- RESTORE NODE (R166). -/
def State.restoreNode (s : State) (node : Nat) : Answer :=
  if node = 0 ∨ 30 < node then answer s .badOrder
  else
    match s.nodeEntry node with
    | none => answer s .wrongState
    | some m =>
      if (s.module m).health ≠ .isolated ∨ s.bus.restores.any (fun r => r.node == node) then answer s .wrongState
      else if (s.module m).check.faulted then answer s .tableFault
      else answer (s.beginRestore node) .accepted

/-- RESUME RECYCLER (R87). -/
def State.resumeRecycler (s : State) : Answer :=
  if s.cash.recycler ≠ .faulted then answer s .wrongState
  else if s.healthOf s.recyclerEntry = some .isolated then answer s .nodeUnavailable
  else if s.cash.condition ≠ .clear then answer s .recyclerFault
  else
    let s := s.mapCash fun k => { k with recycler := .ready }
    let s := (s.record { kind := .recyclerResume }).send7 (.recyclerState .ready)
    answer s.arbitrate .done

/-- CLEAR TUBE (R134). -/
def State.clearTube (s : State) (lane : Nat) : Answer :=
  match numbered 6 lane with
  | none => answer s .badOrder
  | some l =>
    if (s.carrier l).moving && (s.carrier l).timer.isNone then answer (s.overdue l lostCleared) .done
    else answer s .wrongState

/-- RESET SHIFT for one entry of ALL: a FAULTED one keeps its total (R23). -/
def State.resetShiftIfOk (s : State) (i : AuthId) : State :=
  if (s.authority i).credential = 0 then s
  else
    let s := s.checkAuthority i
    if (s.authority i).check.faulted then s else s.resetShiftOf i

/-- RESET SHIFT (R23). -/
def State.resetShift (s : State) (t : ShiftTarget) : Answer :=
  match t with
  | .other => answer s .badOrder
  | .all => answer (s.forEach (List.finRange 32) State.resetShiftIfOk) .done
  | .index n =>
    match numbered 32 n with
    | none => answer s .badOrder
    | some i =>
      let s := s.checkAuthority i
      if (s.authority i).check.faulted then answer s .tableFault else answer (s.resetShiftOf i) .done

/-! ## READ STATUS and the journal orders (R178, R173, R174) -/

/-- The checked reads READ STATUS makes: each cassette entry and each denomination entry named by one of cassettes 1 to 6 (R75,
R73, R50; log 47). -/
def State.readForStatus (s : State) : State :=
  (s.forEach (List.finRange 8) State.checkCassette).forEach workCassettes State.checkValueOf

/-- READ STATUS (R178). DESIGN CHOICE: a TABLE FAULT that its own reads raise is shown in its response, and cleared with the others
(log 82). -/
def State.readStatus (s : State) (clear : Bool) : Answer :=
  let s := s.readForStatus
  { state := if clear then s.mapSticky fun _ => {} else s, code := .done, body := .status s.status }

/-- Up to 8 undrained records from the one that holds a sequence, or from the fence (R173). -/
def Journal.readFrom (j : Journal) (start : Nat) : List JournalRecord :=
  let found := j.ring.dropWhile fun r => r.seq ≠ start
  (if found = [] then j.ring else found).take 8

/-- READ JOURNAL (R173). -/
def State.readJournal (s : State) (start : Nat) : Answer :=
  let j := s.journal
  { state := s, code := .done
    body := .journal (j.readFrom start) j.fence j.newest j.free j.reserved j.overrun }

/-- A sequence counts as ahead of the fence (R174). -/
def aheadOf (fence s : Nat) : Bool := decide ((s + 4294967295 - fence) % 4294967295 < 2147483648)

/-- What a drain leaves (R174). -/
def Journal.drained (j : Journal) (s : Nat) : Journal :=
  if j.ring.any fun r => r.seq == s then { j with ring := (j.ring.dropWhile fun r => r.seq ≠ s).tail }
  else if j.ring ≠ [] ∧ aheadOf j.fence s then { j with ring := [] }
  else j

/-- DRAIN JOURNAL (R174). -/
def State.drainJournal (s : State) (seq : Nat) : Answer :=
  let s := s.mapJournal fun j => j.drained seq
  { state := s, code := .done, body := .drained s.journal.fence s.journal.free }

/-! ## GO SERVICE, SUSPEND (R180, R181) -/

/-- Every table entry is read with its parity check (R180). A lane whose copy is found FAULTED here is settled at its next use
(log 5). -/
def State.readEveryEntry (s : State) : State :=
  let s := s.forEach (List.finRange 6) fun s l => (s.checkCopy .day l).checkCopy .night l
  let s := s.forEach (List.finRange 32) State.checkAuthority
  let s := s.forEach (List.finRange 8) State.checkDenomination
  let s := s.forEach (List.finRange 8) State.checkCassette
  let s := s.forEach (List.finRange 16) State.checkLoop
  let s := s.forEach (List.finRange 16) fun s m => (s.checkModule m).1
  s.checkScreening.checkPlanner.checkPresenter.checkDepositSetting.checkDepositorySetting.checkTubeSetting.checkBusSetting

/-- Whether some table entry is FAULTED (R180). -/
def State.anyFaulted (s : State) : Bool :=
  (s.lanes.dayCopies.toList ++ s.lanes.nightCopies.toList).any (fun c => c.check.faulted)
    || s.screen.authority.toList.any (fun e => e.check.faulted)
    || s.cash.denominations.toList.any (fun d => d.check.faulted)
    || s.cash.cassettes.toList.any (fun k => k.check.faulted)
    || s.alarm.loops.toList.any (fun k => k.check.faulted)
    || s.bus.modules.toList.any (fun m => m.check.faulted)
    || s.screen.setting.check.faulted || s.cash.planner.check.faulted || s.dispense.setting.check.faulted
    || s.deposit.setting.check.faulted || s.envelope.setting.check.faulted || s.tube.setting.check.faulted
    || s.bus.setting.check.faulted

/-- A cassette shows SERVING and has a denomination whose entry holds a value above 0 (R180). -/
def State.servesCash (s : State) (c : CassetteId) : Bool :=
  (s.cassette c).shown c == .serving && (s.cassette c).denom.any fun d => decide (0 < (s.cash.denominations[d]).value)

/-- The checks of GO SERVICE (R180). -/
def checksGo : List Step :=
  [ need (fun s => s.cash.denominations.toList.any fun d => decide (0 < d.value)) .wrongState,
    need (fun s => s.entryReachable s.recyclerEntry && s.entryReachable s.blowerEntry) .nodeUnavailable,
    need (fun s => workCassettes.any s.servesCash) .noCash,
    need (fun s => (List.finRange 6).all fun l => !(s.policy l).readsOpen || (s.stationEntry l).isSome) .nodeUnavailable,
    need (fun s => !s.anyFaulted) .tableFault ]

/-- GO SERVICE (R180). A DENOMINATIONS that finds the outgoing queue full is SILENT (R161). -/
def State.goService (s : State) : Answer :=
  if s.mgmt.partState = .inService ∨ s.mgmt.goPending then answer s .wrongState
  else
    s.readEveryEntry.ifPass checksGo fun s =>
      let s := s.mapMgmt fun m => { m with goPending := true }
      let p := s.placeFor s.recyclerEntry .management
        (.denominations (s.cash.denominations.toList.map Denomination.value))
      answer (if p.2 then p.1 else p.1.goEnded true .silent) .accepted

/-- Whether a frame carries a DENOMINATIONS order. -/
def Content.isDenominations : Content → Bool
  | .order (.denominations _) => true
  | _ => false

/-- SUSPEND (R181); it ends a pending GO SERVICE (R180). -/
def State.suspend (s : State) : Answer :=
  let s := (s.mapMgmt fun m => { m with goPending := false }).retireIf Content.isDenominations
  answer (if s.mgmt.partState = .suspended then s else s.enterPartState .suspended) .done

/-! ## Resets of the whole part (R182) -/

/-- A soft reset's steps 1 to 3 (R182). -/
def State.softReset (s : State) : State :=
  let s := s.mapLink fun k => { k with reports := [], rxBuffer := [], rxPartial := [] }
  let s := s.record { kind := .reset }
  let s := s.mapMgmt fun m => { m with partState := .suspended, sticky := {}, goPending := false }
  let s := s.resetBus.resetScreen.resetDispenses.resetSessions.resetCash.resetEnvelope.resetTube.resetAlarm
  s.forEach (List.finRange 6) fun s l => s.settleAndAnnounce l (s.laneRec l)

/-- RESTART (R182): the soft reset, the response behind its reports, then the PART STATE report to station 7. -/
def State.restart (s : State) (h : Sender) : State :=
  if s.link.used < 64 then
    let s := s.takeFrame h .restart
    if h.station = .supervisor then
      (s.softReset.respond h .restart .done .empty).send7 (.partState .suspended)
    else s.respond h .restart .noRight .empty
  else s

/-- A hard reset (R182); the commands that wait outside the part go on waiting. -/
def State.hardReset (s : State) : State := { State.reset with pending := s.pending }

end Sys2Proof.Machine
end

