-- ==== Sys2Proof/Machine/ConsoleOrders.lean ====
section
/-! DEFINITION. The meanings of the console orders, one a row of the table: each is the order's effect (Screen.lean) between the
taking of its frame and its response (R24, R176). -/

namespace Sys2Proof.Machine

open Sys2Proof

/-- SIGN ON (R18). -/
def execSignOn (h : Sender) (credential : Nat) (s : State) : Host.Outcome State Fault Refusal :=
  .next (s.takeOrder h .signOn fun s => s.signOn h.station credential)

/-- SIGN OFF (R19). -/
def execSignOff (h : Sender) (s : State) : Host.Outcome State Fault Refusal :=
  .next (s.takeOrder h .signOff fun s => s.signOff h.station)

/-- DISPENSE with pair part SINGLE (R27). -/
def execDispenseSingle (h : Sender) (lane amount : Nat) (s : State) : Host.Outcome State Fault Refusal :=
  .next (s.takeOrder h .dispense (fun s => s.dispenseSingle h lane amount) (spellsDispense lane 0 amount))

/-- DISPENSE with pair part FIRST (R30). -/
def execDispenseFirst (h : Sender) (lane amount : Nat) (s : State) : Host.Outcome State Fault Refusal :=
  .next (s.takeOrder h .dispense (fun s => s.dispenseFirst h lane amount) (spellsDispense lane 1 amount))

/-- DISPENSE with pair part SECOND (R31). -/
def execDispenseSecond (h : Sender) (lane amount : Nat) (s : State) : Host.Outcome State Fault Refusal :=
  .next (s.takeOrder h .dispense (fun s => s.dispenseSecond h lane amount) (spellsDispense lane 2 amount))

/-- CANCEL DISPENSE (R65). -/
def execCancelDispense (h : Sender) (lane id : Nat) (s : State) : Host.Outcome State Fault Refusal :=
  .next (s.takeOrder h .cancelDispense fun s => s.cancelDispense h.station lane id)

/-- OPEN DEPOSIT (R96). -/
def execOpenDeposit (h : Sender) (lane : Nat) (s : State) : Host.Outcome State Fault Refusal :=
  .next (s.takeOrder h .openDeposit fun s => s.openDeposit h lane)

/-- CLOSE DEPOSIT (R104). -/
def execCloseDeposit (h : Sender) (lane : Nat) (s : State) : Host.Outcome State Fault Refusal :=
  .next (s.takeOrder h .closeDeposit fun s => s.closeDepositOrder h.station lane)

/-- SEND CARRIER (R125). -/
def execSendCarrier (h : Sender) (lane : Nat) (s : State) : Host.Outcome State Fault Refusal :=
  .next (s.takeOrder h .sendCarrier fun s => s.sendCarrier h lane)

/-- RECALL CARRIER (R126). -/
def execRecallCarrier (h : Sender) (lane : Nat) (s : State) : Host.Outcome State Fault Refusal :=
  .next (s.takeOrder h .recallCarrier fun s => s.recallCarrier h.station lane)

/-- OPEN LANE (R13). -/
def execOpenLane (h : Sender) (lane : Nat) (s : State) : Host.Outcome State Fault Refusal :=
  .next (s.takeOrder h .openLane fun s => s.openLane h.station lane)

/-- CLOSE LANE (R14). -/
def execCloseLane (h : Sender) (lane : Nat) (s : State) : Host.Outcome State Fault Refusal :=
  .next (s.takeOrder h .closeLane fun s => s.closeLane h.station lane)

/-- RELEASE LANE (R15). -/
def execReleaseLane (h : Sender) (lane : Nat) (s : State) : Host.Outcome State Fault Refusal :=
  .next (s.takeOrder h .releaseLane fun s => s.releaseLane h.station lane)

/-- CONFIRM of EXCHANGE CASSETTE (R36). -/
def execConfirmExchangeCassette (h : Sender) (cassette : Nat) (s : State) : Host.Outcome State Fault Refusal :=
  .next (s.takeOrder h .confirm fun s => s.confirm h.station Rights.cashAdmin (exchangeOp cassette))

/-- CONFIRM of EMPTY DEPOSITORY (R36). -/
def execConfirmEmptyDepository (h : Sender) (s : State) : Host.Outcome State Fault Refusal :=
  .next (s.takeOrder h .confirm fun s => s.confirm h.station Rights.cashAdmin (some .emptyDepository))

/-- CONFIRM of CLEAR CONDITION (R36): a half can hold the condition LOCKDOWN alone (R34). -/
def execConfirmClearCondition (h : Sender) (condition : ConditionName) (s : State) : Host.Outcome State Fault Refusal :=
  .next (s.takeOrder h .confirm fun s => s.confirm h.station Rights.clear (if condition = .lockdown then some .clearLockdown else none))

end Sys2Proof.Machine
end

