-- ==== Sys2Proof/Machine/Events.lean ====
section
/-! DEFINITION. The meanings of the commands that are no orders, one a row of the table: resets, link and bus events, loop readings
and the timers' expiries. An expiry acts when its timer runs and is due, and changes nothing otherwise (R179; log 3). -/

namespace Sys2Proof.Machine

open Sys2Proof

/-! ## What the events do -/

/-- The first item has been sent, with the attention code as it is sent, and leaves the Report Queue (R176, R177). -/
def State.sendItem (s : State) : State :=
  match s.link.reports with
  | [] => s
  | i :: rest => s.mapLink fun k => { k with reports := rest, consoleTx := i.bytes (s.attentionCode i.dest) }

/-- The occupied record of an id whose timer of one kind is due (log 3). -/
def State.dueDispense (s : State) (id : Nat) (state : DispenseState) (timer : DispenseRecord → Option Timer) :
    Option DispenseSlot :=
  s.findDispense fun r => r.id == id && r.state == state && timerDue (timer r) s.now

/-- The report timer of a record in PICKING (R55, R66). -/
def State.pickTimer (s : State) (id : Nat) : State :=
  match s.dueDispense id .picking DispenseRecord.reportTimer with
  | some i => (s.mapDispenseAt i fun r => { r with reportTimer := none }).pickReportExpired i
  | none => s

/-- The report timer of a record whose retract is ordered (R62). -/
def State.retractTimer (s : State) (id : Nat) : State :=
  match s.dueDispense id .presented DispenseRecord.reportTimer with
  | some i => s.retractLost i
  | none => s

/-- The present timer (R62). -/
def State.presentTimer (s : State) (id : Nat) : State :=
  match s.dueDispense id .presented DispenseRecord.presentTimer with
  | some i => (s.touchDispense i).orderRetract i
  | none => s

/-- The Exchange Authorisation's expiry (R85); a released cassette lets the arbiter decide. -/
def State.exchangeTimer (s : State) : State :=
  if timerDue (s.cash.exchange.map ExchangeAuth.expiry) s.now then (s.endExchange .expiry).arbitrate else s

/-- The idle timer, which runs in ACTIVE alone (R103). -/
def State.idleTimer (s : State) (l : Lane) : State :=
  if (s.session l).any fun x => x.state == .active && timerDue x.idleTimer s.now then s.idleExpired l else s

/-- The end timer, which runs in ENDING alone (R105). -/
def State.endTimer (s : State) (l : Lane) : State :=
  if (s.session l).any fun x => x.state == .ending && timerDue x.endTimer s.now then (s.endExpired l).arbitrate else s

/-- The completion timer (R117). DESIGN CHOICE: a CAPTURE still on the outgoing queue stays there (log 61). -/
def State.completionTimer (s : State) (l : Lane) : State :=
  if (s.capture l).any fun c => timerDue (some c.timer) s.now then s.voidCapture l .timeout false else s

/-- The expiry of a Safe Opening Authorisation in WAITING (R121). -/
def State.safeTimer (s : State) : State :=
  match s.envelope.safe with
  | some (.waiting t) => if timerDue (some t) s.now then s.closeSafe .expiry else s
  | _ => s

/-- The rest timer: the blower is IDLE and its arbiter decides (R129). -/
def State.restTimer (s : State) : State :=
  match s.tube.blower with
  | .resting t =>
    if timerDue (some t) s.now then (s.mapTube fun t => { t with blower := .idle }).arbitrateBlower else s
  | _ => s

/-- The transit timer of a moving carrier (R132). -/
def State.transitTimer (s : State) (l : Lane) : State :=
  if (s.carrier l).moving && timerDue (s.carrier l).timer s.now then s.overdue l lostOverdue else s

/-- The arm timer of an ARMING loop (R143). -/
def State.armTimer (s : State) (i : LoopId) : State :=
  if (s.loop i).state == .arming && timerDue (s.loop i).armTimer s.now then s.armExpired i else s

/-- The qualify timer of a QUALIFYING loop (R146). -/
def State.qualifyTimer (s : State) (i : LoopId) : State :=
  if (s.loop i).state == .qualifying && timerDue (s.loop i).qualifyTimer s.now then s.tripLoop i else s

/-- A discarded Wall Bus frame changes no counter and ends nothing (R160). -/
def State.discardBusFrame (s : State) (_bytes : List Byte) : State := s

/-- A DISPENSE body of the right length names its lane whatever its pair part, so a refused one breaks a half (R32, R24). -/
def State.breakByBody (s : State) (isMgmt : Bool) (kind : Nat) (body : List Byte) : State :=
  match body with
  | [lane, _, _, _, _, _] => if !isMgmt ∧ kind = 3 then s.breakNamed lane.toNat else s
  | _ => s

/-- The DISPENSE of a pair part as it stands in a body: 0 SINGLE, 1 FIRST, 2 SECOND (R184). -/
def State.dispenseBy (s : State) (h : Sender) (lane part amount : Nat) : Answer :=
  if part = 0 then s.dispenseSingle h lane amount
  else if part = 1 then s.dispenseFirst h lane amount
  else s.dispenseSecond h lane amount

/-- The answer to an order whose form is refused: BAD ORDER, but NO RIGHT for a MGMT frame that is not station 7's (R24, R175). -/
def State.refuseForm (s : State) (h : Sender) (isMgmt : Bool) (kind : Nat) (body : List Byte) : Answer :=
  if isMgmt ∧ h.station ≠ .supervisor then answer s .noRight
  else answer (s.breakByBody isMgmt kind body) .badOrder

/-- An order of an unknown kind, or whose body does not fit its kind (R24, R175). A DISPENSE body that does fit passes the form
check and is the DISPENSE it spells (R184, R185; log 33). -/
def State.unknownOrder (s : State) (h : Sender) (isMgmt : Bool) (kind : Nat) (body : List Byte) : State :=
  match if !isMgmt ∧ kind = 3 then readDispense body else none with
  | some (lane, part, amount) =>
    s.takeOrder h .dispense (fun s => s.dispenseBy h lane part amount) (spellsDispense lane part amount)
  | none => s.takeOrder h (.unknown isMgmt kind) (fun s => s.refuseForm h isMgmt kind body) (fun b => b == body)

/-! ## The meanings -/

/-- Power-on or the reset pin (R182). -/
def execHardReset (s : State) : Host.Outcome State Fault Refusal := .next s.hardReset

/-- Bytes arrive on the Console Link (R185, R176). -/
def execConsoleFrameReceived (bytes : List Byte) (s : State) : Host.Outcome State Fault Refusal :=
  .next (s.forEach bytes State.receiveByte)

/-- The Console Link Interface has sent the first item of the Report Queue (R176). -/
def execReportQueueItemSent (s : State) : Host.Outcome State Fault Refusal := .next s.sendItem

/-- A Dispense Pair Slot's timer expires (R33). -/
def execPairTimerExpiry (lane : Lane) (s : State) : Host.Outcome State Fault Refusal := .next (s.pairExpired lane)

/-- The Management Pair Slot's timer expires (R37). -/
def execManagementPairTimerExpiry (s : State) : Host.Outcome State Fault Refusal := .next s.managementPairExpired

/-- The report timer of a record in PICKING expires (R55, R66). -/
def execPickReportTimerExpiry (id : Nat) (s : State) : Host.Outcome State Fault Refusal := .next (s.pickTimer id)

/-- The report timer of a record with a retract ordered expires (R62). -/
def execRetractReportTimerExpiry (id : Nat) (s : State) : Host.Outcome State Fault Refusal := .next (s.retractTimer id)

/-- A present timer expires (R62). -/
def execPresentTimerExpiry (id : Nat) (s : State) : Host.Outcome State Fault Refusal := .next (s.presentTimer id)

/-- The Exchange Authorisation's expiry (R85). -/
def execExchangeAuthorisationExpiry (s : State) : Host.Outcome State Fault Refusal := .next s.exchangeTimer

/-- A session's idle timer expires (R103). -/
def execIdleTimerExpiry (lane : Lane) (s : State) : Host.Outcome State Fault Refusal := .next (s.idleTimer lane)

/-- A session's end timer expires (R105). -/
def execEndTimerExpiry (lane : Lane) (s : State) : Host.Outcome State Fault Refusal := .next (s.endTimer lane)

/-- A capture's completion timer expires (R117). -/
def execCompletionTimerExpiry (lane : Lane) (s : State) : Host.Outcome State Fault Refusal := .next (s.completionTimer lane)

/-- The expiry of a Safe Opening Authorisation in WAITING (R121). -/
def execSafeOpeningExpiry (s : State) : Host.Outcome State Fault Refusal := .next s.safeTimer

/-- The blower's rest timer expires (R129). -/
def execRestTimerExpiry (s : State) : Host.Outcome State Fault Refusal := .next s.restTimer

/-- A transit timer expires (R132). -/
def execTransitTimerExpiry (lane : Lane) (s : State) : Host.Outcome State Fault Refusal := .next (s.transitTimer lane)

/-- A loop's arm timer expires (R143). -/
def execArmTimerExpiry (loop : LoopId) (s : State) : Host.Outcome State Fault Refusal := .next (s.armTimer loop)

/-- A loop's qualify timer expires (R146). -/
def execQualifyTimerExpiry (loop : LoopId) (s : State) : Host.Outcome State Fault Refusal := .next (s.qualifyTimer loop)

/-- A 5 ms reading of a loop (R141). -/
def execLoopReading (loop : LoopId) (reading : Nat) (s : State) : Host.Outcome State Fault Refusal :=
  .next (s.readLoop loop reading)

/-- The next exchange is chosen and begun (R161). -/
def execExchangeBegin (s : State) : Host.Outcome State Fault Refusal := .next s.beginExchange

/-- A Wall Bus frame is taken (R187). -/
def execWallBusReplyTaken (input : BusInput) (s : State) : Host.Outcome State Fault Refusal :=
  .next (s.takeReply (replyOf input))

/-- The reply window runs out (R160). -/
def execReplyWindowExpiry (s : State) : Host.Outcome State Fault Refusal := .next s.windowExpired

/-- A Wall Bus frame with no exchange outstanding or after its window: it changes nothing (R160). -/
def execBusFrameDiscarded (bytes : List Byte) (s : State) : Host.Outcome State Fault Refusal :=
  .next (s.discardBusFrame bytes)

/-- An order whose form is refused (R24, R175). -/
def execUnknownOrderKind (h : Sender) (isMgmt : Bool) (kind : Nat) (body : List Byte) (s : State) : Host.Outcome State Fault Refusal :=
  .next (s.unknownOrder h isMgmt kind body)

end Sys2Proof.Machine
end

