-- ==== Sys2Proof/Machine/ManagementOrders.lean ====
section
/-! DEFINITION. The meanings of the management orders, one a row of the table: each is the order's effect (Management.lean)
between the taking of its frame and its response (R175, R176). -/

namespace Sys2Proof.Machine

open Sys2Proof

/-- WRITE ENTRY to the Lane Policy Table (R2). -/
def execWriteEntryLanePolicy (h : Sender) (w : LanePolicyWrite) (s : State) : Host.Outcome State Fault Refusal :=
  .next (s.takeMgmt h .writeEntry fun s => s.writeLanePolicy w)

/-- WRITE ENTRY to the Authority Table (R21). -/
def execWriteEntryAuthority (h : Sender) (w : AuthorityWrite) (s : State) : Host.Outcome State Fault Refusal :=
  .next (s.takeMgmt h .writeEntry fun s => s.writeAuthority w)

/-- WRITE ENTRY to the Denomination Table (R73). -/
def execWriteEntryDenomination (h : Sender) (index value : Nat) (s : State) : Host.Outcome State Fault Refusal :=
  .next (s.takeMgmt h .writeEntry fun s => s.writeDenomination index value)

/-- WRITE ENTRY to the Cassette Table (R74). -/
def execWriteEntryCassette (h : Sender) (cassette : Nat) (role : Option Role) (lowMark fillLimit : Nat) (s : State) : Host.Outcome State Fault Refusal :=
  .next (s.takeMgmt h .writeEntry fun s => s.writeCassette cassette role lowMark fillLimit)

/-- WRITE ENTRY to the Loop Table (R139). -/
def execWriteEntryLoop (h : Sender) (w : LoopWrite) (s : State) : Host.Outcome State Fault Refusal :=
  .next (s.takeMgmt h .writeEntry fun s => s.writeLoop w)

/-- WRITE ENTRY to the Module Table (R158). -/
def execWriteEntryModule (h : Sender) (entry node : Nat) (kind : Option ModuleKind) (lane : Nat) (s : State) : Host.Outcome State Fault Refusal :=
  .next (s.takeMgmt h .writeEntry fun s => s.writeModule entry node kind lane)

/-- WRITE ENTRY to the screening settings (R28). -/
def execWriteEntryScreening (h : Sender) (pairWindow rateCount rateDuration : Nat) (s : State) : Host.Outcome State Fault Refusal :=
  .next (s.takeMgmt h .writeEntry fun s => s.writeScreening pairWindow rateCount rateDuration)

/-- WRITE ENTRY to the planner setting (R42). -/
def execWriteEntryPlanner (h : Sender) (bundle : Nat) (s : State) : Host.Outcome State Fault Refusal :=
  .next (s.takeMgmt h .writeEntry fun s => s.writePlanner bundle)

/-- WRITE ENTRY to the presenter setting (R60). -/
def execWriteEntryPresenter (h : Sender) (timeout : Nat) (s : State) : Host.Outcome State Fault Refusal :=
  .next (s.takeMgmt h .writeEntry fun s => s.writePresenter timeout)

/-- WRITE ENTRY to the deposit setting (R95). -/
def execWriteEntryDeposit (h : Sender) (timeout : Nat) (s : State) : Host.Outcome State Fault Refusal :=
  .next (s.takeMgmt h .writeEntry fun s => s.writeDeposit timeout)

/-- WRITE ENTRY to the depository setting (R112). -/
def execWriteEntryDepository (h : Sender) (capacity : Nat) (s : State) : Host.Outcome State Fault Refusal :=
  .next (s.takeMgmt h .writeEntry fun s => s.writeDepository capacity)

/-- WRITE ENTRY to the tube setting (R128). -/
def execWriteEntryTube (h : Sender) (rest : Nat) (s : State) : Host.Outcome State Fault Refusal :=
  .next (s.takeMgmt h .writeEntry fun s => s.writeTube rest)

/-- WRITE ENTRY to the bus setting (R168). -/
def execWriteEntryBus (h : Sender) (w : BusWrite) (s : State) : Host.Outcome State Fault Refusal :=
  .next (s.takeMgmt h .writeEntry fun s => s.writeBus w)

/-- READ ENTRY (R175). -/
def execReadEntry (h : Sender) (table : Option TableRef) (s : State) : Host.Outcome State Fault Refusal :=
  .next (s.takeMgmt h .readEntry fun s => s.readEntry table)

/-- SELECT PROFILE WRITE (R6). -/
def execSelectProfileWrite (h : Sender) (profile : Option Profile) (s : State) : Host.Outcome State Fault Refusal :=
  .next (s.takeMgmt h .selectProfile fun s => s.selectWrite profile)

/-- SELECT PROFILE OPERATE (R6). -/
def execSelectProfileOperate (h : Sender) (profile : Option Profile) (s : State) : Host.Outcome State Fault Refusal :=
  .next (s.takeMgmt h .selectProfile fun s => s.selectOperate profile)

/-- LOAD CASSETTE (R81). -/
def execLoadCassette (h : Sender) (cassette : Nat) (denom : Option Nat) (count : Nat) (s : State) : Host.Outcome State Fault Refusal :=
  .next (s.takeMgmt h .loadCassette fun s => s.loadCassette cassette denom count)

/-- RECONCILE CASSETTE (R82). -/
def execReconcileCassette (h : Sender) (cassette count : Nat) (s : State) : Host.Outcome State Fault Refusal :=
  .next (s.takeMgmt h .reconcileCassette fun s => s.reconcileCassette cassette count)

/-- EXCHANGE CASSETTE's first half (R35). -/
def execExchangeCassette (h : Sender) (cassette : Nat) (s : State) : Host.Outcome State Fault Refusal :=
  .next (s.takeMgmt h .exchangeCassette fun s => s.exchangeFirst cassette h.tag)

/-- EMPTY DEPOSITORY's first half (R35). -/
def execEmptyDepository (h : Sender) (s : State) : Host.Outcome State Fault Refusal :=
  .next (s.takeMgmt h .emptyDepository fun s => s.storeHalf .emptyDepository h.tag)

/-- CLEAR CONDITION LOCKDOWN's first half (R35). -/
def execClearConditionLockdown (h : Sender) (s : State) : Host.Outcome State Fault Refusal :=
  .next (s.takeMgmt h .clearCondition fun s => s.storeHalf .clearLockdown h.tag)

/-- CLEAR CONDITION DURESS (R154). -/
def execClearConditionDuress (h : Sender) (s : State) : Host.Outcome State Fault Refusal :=
  .next (s.takeMgmt h .clearCondition fun s => answerOf s.clearDuress)

/-- ARM LOOP (R145). -/
def execArmLoop (h : Sender) (loop : Nat) (s : State) : Host.Outcome State Fault Refusal :=
  .next (s.takeMgmt h .armLoop fun s => s.armLoop loop)

/-- DISARM LOOP (R145). -/
def execDisarmLoop (h : Sender) (loop : Nat) (s : State) : Host.Outcome State Fault Refusal :=
  .next (s.takeMgmt h .disarmLoop fun s => s.disarmLoop loop)

/-- ACK LOOP (R149). -/
def execAckLoop (h : Sender) (loop : Nat) (s : State) : Host.Outcome State Fault Refusal :=
  .next (s.takeMgmt h .ackLoop fun s => s.ackLoop loop)

/-- RESTORE NODE (R166). -/
def execRestoreNode (h : Sender) (node : Nat) (s : State) : Host.Outcome State Fault Refusal :=
  .next (s.takeMgmt h .restoreNode fun s => s.restoreNode node)

/-- RESUME RECYCLER (R87). -/
def execResumeRecycler (h : Sender) (s : State) : Host.Outcome State Fault Refusal :=
  .next (s.takeMgmt h .resumeRecycler fun s => s.resumeRecycler)

/-- CLEAR TUBE (R134). -/
def execClearTube (h : Sender) (lane : Nat) (s : State) : Host.Outcome State Fault Refusal :=
  .next (s.takeMgmt h .clearTube fun s => s.clearTube lane)

/-- RESET SHIFT (R23). -/
def execResetShift (h : Sender) (target : ShiftTarget) (s : State) : Host.Outcome State Fault Refusal :=
  .next (s.takeMgmt h .resetShift fun s => s.resetShift target)

/-- READ STATUS (R178). -/
def execReadStatus (h : Sender) (clear : Bool) (s : State) : Host.Outcome State Fault Refusal :=
  .next (s.takeMgmt h .readStatus fun s => s.readStatus clear)

/-- READ JOURNAL (R173). -/
def execReadJournal (h : Sender) (start : Nat) (s : State) : Host.Outcome State Fault Refusal :=
  .next (s.takeMgmt h .readJournal fun s => s.readJournal start)

/-- DRAIN JOURNAL (R174). -/
def execDrainJournal (h : Sender) (seq : Nat) (s : State) : Host.Outcome State Fault Refusal :=
  .next (s.takeMgmt h .drainJournal fun s => s.drainJournal seq)

/-- GO SERVICE (R180). -/
def execGoService (h : Sender) (s : State) : Host.Outcome State Fault Refusal :=
  .next (s.takeMgmt h .goService fun s => s.goService)

/-- SUSPEND (R181). -/
def execSuspend (h : Sender) (s : State) : Host.Outcome State Fault Refusal :=
  .next (s.takeMgmt h .suspend fun s => s.suspend)

/-- RESTART (R182). -/
def execRestart (h : Sender) (s : State) : Host.Outcome State Fault Refusal := .next (s.restart h)

end Sys2Proof.Machine
end

