-- ==== Sys2Proof/Machine/Dispatch.lean ====
section
/-! DEFINITION. `exec`: one command's effect on everything but the queue, one arm per row of spec/opcode_table.json. -/

namespace Sys2Proof.Machine

open Sys2Proof

def exec (i : Instr) (s : State) : Host.Outcome State Fault Refusal :=
  match i with
  | .hardReset => Sys2Proof.Machine.execHardReset s
  | .consoleFrameReceived bytes => Sys2Proof.Machine.execConsoleFrameReceived bytes s
  | .reportQueueItemSent => Sys2Proof.Machine.execReportQueueItemSent s
  | .signOn h credential => Sys2Proof.Machine.execSignOn h credential s
  | .signOff h => Sys2Proof.Machine.execSignOff h s
  | .dispenseSingle h lane amount => Sys2Proof.Machine.execDispenseSingle h lane amount s
  | .dispenseFirst h lane amount => Sys2Proof.Machine.execDispenseFirst h lane amount s
  | .dispenseSecond h lane amount => Sys2Proof.Machine.execDispenseSecond h lane amount s
  | .cancelDispense h lane id => Sys2Proof.Machine.execCancelDispense h lane id s
  | .openDeposit h lane => Sys2Proof.Machine.execOpenDeposit h lane s
  | .closeDeposit h lane => Sys2Proof.Machine.execCloseDeposit h lane s
  | .sendCarrier h lane => Sys2Proof.Machine.execSendCarrier h lane s
  | .recallCarrier h lane => Sys2Proof.Machine.execRecallCarrier h lane s
  | .openLane h lane => Sys2Proof.Machine.execOpenLane h lane s
  | .closeLane h lane => Sys2Proof.Machine.execCloseLane h lane s
  | .releaseLane h lane => Sys2Proof.Machine.execReleaseLane h lane s
  | .confirmExchangeCassette h cassette => Sys2Proof.Machine.execConfirmExchangeCassette h cassette s
  | .confirmEmptyDepository h => Sys2Proof.Machine.execConfirmEmptyDepository h s
  | .confirmClearCondition h condition => Sys2Proof.Machine.execConfirmClearCondition h condition s
  | .writeEntryLanePolicy h w => Sys2Proof.Machine.execWriteEntryLanePolicy h w s
  | .writeEntryAuthority h w => Sys2Proof.Machine.execWriteEntryAuthority h w s
  | .writeEntryDenomination h index value => Sys2Proof.Machine.execWriteEntryDenomination h index value s
  | .writeEntryCassette h cassette role lowMark fillLimit => Sys2Proof.Machine.execWriteEntryCassette h cassette role lowMark fillLimit s
  | .writeEntryLoop h w => Sys2Proof.Machine.execWriteEntryLoop h w s
  | .writeEntryModule h entry node kind lane => Sys2Proof.Machine.execWriteEntryModule h entry node kind lane s
  | .writeEntryScreening h pairWindow rateCount rateDuration => Sys2Proof.Machine.execWriteEntryScreening h pairWindow rateCount rateDuration s
  | .writeEntryPlanner h bundle => Sys2Proof.Machine.execWriteEntryPlanner h bundle s
  | .writeEntryPresenter h timeout => Sys2Proof.Machine.execWriteEntryPresenter h timeout s
  | .writeEntryDeposit h timeout => Sys2Proof.Machine.execWriteEntryDeposit h timeout s
  | .writeEntryDepository h capacity => Sys2Proof.Machine.execWriteEntryDepository h capacity s
  | .writeEntryTube h rest => Sys2Proof.Machine.execWriteEntryTube h rest s
  | .writeEntryBus h w => Sys2Proof.Machine.execWriteEntryBus h w s
  | .readEntry h table => Sys2Proof.Machine.execReadEntry h table s
  | .selectProfileWrite h profile => Sys2Proof.Machine.execSelectProfileWrite h profile s
  | .selectProfileOperate h profile => Sys2Proof.Machine.execSelectProfileOperate h profile s
  | .loadCassette h cassette denom count => Sys2Proof.Machine.execLoadCassette h cassette denom count s
  | .reconcileCassette h cassette count => Sys2Proof.Machine.execReconcileCassette h cassette count s
  | .exchangeCassette h cassette => Sys2Proof.Machine.execExchangeCassette h cassette s
  | .emptyDepository h => Sys2Proof.Machine.execEmptyDepository h s
  | .clearConditionLockdown h => Sys2Proof.Machine.execClearConditionLockdown h s
  | .clearConditionDuress h => Sys2Proof.Machine.execClearConditionDuress h s
  | .armLoop h loop => Sys2Proof.Machine.execArmLoop h loop s
  | .disarmLoop h loop => Sys2Proof.Machine.execDisarmLoop h loop s
  | .ackLoop h loop => Sys2Proof.Machine.execAckLoop h loop s
  | .restoreNode h node => Sys2Proof.Machine.execRestoreNode h node s
  | .resumeRecycler h => Sys2Proof.Machine.execResumeRecycler h s
  | .clearTube h lane => Sys2Proof.Machine.execClearTube h lane s
  | .resetShift h target => Sys2Proof.Machine.execResetShift h target s
  | .readStatus h clear => Sys2Proof.Machine.execReadStatus h clear s
  | .readJournal h start => Sys2Proof.Machine.execReadJournal h start s
  | .drainJournal h seq => Sys2Proof.Machine.execDrainJournal h seq s
  | .goService h => Sys2Proof.Machine.execGoService h s
  | .suspend h => Sys2Proof.Machine.execSuspend h s
  | .restart h => Sys2Proof.Machine.execRestart h s
  | .pairTimerExpiry lane => Sys2Proof.Machine.execPairTimerExpiry lane s
  | .managementPairTimerExpiry => Sys2Proof.Machine.execManagementPairTimerExpiry s
  | .pickReportTimerExpiry id => Sys2Proof.Machine.execPickReportTimerExpiry id s
  | .retractReportTimerExpiry id => Sys2Proof.Machine.execRetractReportTimerExpiry id s
  | .presentTimerExpiry id => Sys2Proof.Machine.execPresentTimerExpiry id s
  | .exchangeAuthorisationExpiry => Sys2Proof.Machine.execExchangeAuthorisationExpiry s
  | .idleTimerExpiry lane => Sys2Proof.Machine.execIdleTimerExpiry lane s
  | .endTimerExpiry lane => Sys2Proof.Machine.execEndTimerExpiry lane s
  | .completionTimerExpiry lane => Sys2Proof.Machine.execCompletionTimerExpiry lane s
  | .safeOpeningExpiry => Sys2Proof.Machine.execSafeOpeningExpiry s
  | .restTimerExpiry => Sys2Proof.Machine.execRestTimerExpiry s
  | .transitTimerExpiry lane => Sys2Proof.Machine.execTransitTimerExpiry lane s
  | .armTimerExpiry loop => Sys2Proof.Machine.execArmTimerExpiry loop s
  | .qualifyTimerExpiry loop => Sys2Proof.Machine.execQualifyTimerExpiry loop s
  | .loopReading loop reading => Sys2Proof.Machine.execLoopReading loop reading s
  | .exchangeBegin => Sys2Proof.Machine.execExchangeBegin s
  | .wallBusReplyTaken input => Sys2Proof.Machine.execWallBusReplyTaken input s
  | .replyWindowExpiry => Sys2Proof.Machine.execReplyWindowExpiry s
  | .busFrameDiscarded bytes => Sys2Proof.Machine.execBusFrameDiscarded bytes s
  | .unknownOrderKind h isMgmt kind body => Sys2Proof.Machine.execUnknownOrderKind h isMgmt kind body s

end Sys2Proof.Machine
end

