-- ==== Sys2Proof/WellFormed.lean ====
section
/-! DEFINITION. Which commands are well formed: the operands that a frame of chapter 12, or an event of the part, can hold. A range
that an order's own rule checks is no part of this: the part answers such an order with a result code. -/

namespace Sys2Proof

/-- A tag has two bytes (chapter 12.2). -/
def tagOk (h : Sender) : Bool := decide (h.tag < 65536)

/-- A DISPENSE body: the lane in one byte, the amount in four (R184). -/
def dispenseBodyOk (lane amount : Nat) : Bool := decide (lane < 256 ∧ amount < 4294967296)

/-- A dispense id, 1 to 255 (R51). -/
def idOk (id : Nat) : Bool := decide (1 ≤ id ∧ id ≤ 255)

/-- A Wall Bus frame on the wire has at most 208 bytes; the fields of one are single bytes (chapter 12.3). -/
def busInputOk : BusInput → Bool
  | .wire bytes => decide (bytes.length ≤ 208)
  | .fields r => decide (r.dest < 256 ∧ r.source < 256 ∧ r.cls < 256 ∧ r.kind < 256)

/-- Kinds and bodies that fit: the kinds of R184, with DISPENSE's six bytes and pair parts; of the bodies chapter 12 does not lay
out nothing is said here. An UNKNOWN_ORDER_KIND is refused for its kind or its body, so it is no DISPENSE of good form. -/
def formOk (isMgmt : Bool) (kind : Nat) (body : List Byte) : Bool :=
  match isMgmt, kind, body with
  | false, 3, [_, part, _, _, _, _] => decide (part.toNat ≤ 2)
  | _, _, _ => false

/-- The well-formed commands. -/
def Instr.wellFormed : Instr → Bool
  | .hardReset => true
  | .consoleFrameReceived _ => true
  | .reportQueueItemSent => true
  | .signOn h credential => tagOk h && decide (credential < 65536)
  | .signOff h => tagOk h
  | .dispenseSingle h lane amount => tagOk h && dispenseBodyOk lane amount
  | .dispenseFirst h lane amount => tagOk h && dispenseBodyOk lane amount
  | .dispenseSecond h lane amount => tagOk h && dispenseBodyOk lane amount
  | .cancelDispense h _ id => tagOk h && decide (id < 256)
  | .openDeposit h _ => tagOk h
  | .closeDeposit h _ => tagOk h
  | .sendCarrier h _ => tagOk h
  | .recallCarrier h _ => tagOk h
  | .openLane h _ => tagOk h
  | .closeLane h _ => tagOk h
  | .releaseLane h _ => tagOk h
  | .confirmExchangeCassette h _ => tagOk h
  | .confirmEmptyDepository h => tagOk h
  | .confirmClearCondition h _ => tagOk h
  | .writeEntryLanePolicy h _ => tagOk h
  | .writeEntryAuthority h w => tagOk h && decide (w.credential < 65536)
  | .writeEntryDenomination h _ _ => tagOk h
  | .writeEntryCassette h _ _ _ _ => tagOk h
  | .writeEntryLoop h _ => tagOk h
  | .writeEntryModule h _ _ _ _ => tagOk h
  | .writeEntryScreening h _ _ _ => tagOk h
  | .writeEntryPlanner h _ => tagOk h
  | .writeEntryPresenter h _ => tagOk h
  | .writeEntryDeposit h _ => tagOk h
  | .writeEntryDepository h _ => tagOk h
  | .writeEntryTube h _ => tagOk h
  | .writeEntryBus h _ => tagOk h
  | .readEntry h _ => tagOk h
  | .selectProfileWrite h _ => tagOk h
  | .selectProfileOperate h _ => tagOk h
  | .loadCassette h _ _ _ => tagOk h
  | .reconcileCassette h _ _ => tagOk h
  | .exchangeCassette h _ => tagOk h
  | .emptyDepository h => tagOk h
  | .clearConditionLockdown h => tagOk h
  | .clearConditionDuress h => tagOk h
  | .armLoop h _ => tagOk h
  | .disarmLoop h _ => tagOk h
  | .ackLoop h _ => tagOk h
  | .restoreNode h _ => tagOk h
  | .resumeRecycler h => tagOk h
  | .clearTube h _ => tagOk h
  | .resetShift h _ => tagOk h
  | .readStatus h _ => tagOk h
  | .readJournal h start => tagOk h && decide (start < 4294967296)
  | .drainJournal h seq => tagOk h && decide (seq < 4294967296)
  | .goService h => tagOk h
  | .suspend h => tagOk h
  | .restart h => tagOk h
  | .pairTimerExpiry _ => true
  | .managementPairTimerExpiry => true
  | .pickReportTimerExpiry id => idOk id
  | .retractReportTimerExpiry id => idOk id
  | .presentTimerExpiry id => idOk id
  | .exchangeAuthorisationExpiry => true
  | .idleTimerExpiry _ => true
  | .endTimerExpiry _ => true
  | .completionTimerExpiry _ => true
  | .safeOpeningExpiry => true
  | .restTimerExpiry => true
  | .transitTimerExpiry _ => true
  | .armTimerExpiry _ => true
  | .qualifyTimerExpiry _ => true
  | .loopReading _ reading => decide (reading ≤ 1023)
  | .exchangeBegin => true
  | .wallBusReplyTaken input => busInputOk input
  | .replyWindowExpiry => true
  | .busFrameDiscarded bytes => decide (bytes.length ≤ 208)
  | .unknownOrderKind h isMgmt kind body => tagOk h && decide (kind < 256 ∧ body.length ≤ 1000) && !formOk isMgmt kind body

/-- The sender of an order's frame; the other commands are events of the part. -/
def Instr.sender : Instr → Option Sender
  | .hardReset => none
  | .consoleFrameReceived _ => none
  | .reportQueueItemSent => none
  | .signOn h _ => some h
  | .signOff h => some h
  | .dispenseSingle h _ _ => some h
  | .dispenseFirst h _ _ => some h
  | .dispenseSecond h _ _ => some h
  | .cancelDispense h _ _ => some h
  | .openDeposit h _ => some h
  | .closeDeposit h _ => some h
  | .sendCarrier h _ => some h
  | .recallCarrier h _ => some h
  | .openLane h _ => some h
  | .closeLane h _ => some h
  | .releaseLane h _ => some h
  | .confirmExchangeCassette h _ => some h
  | .confirmEmptyDepository h => some h
  | .confirmClearCondition h _ => some h
  | .writeEntryLanePolicy h _ => some h
  | .writeEntryAuthority h _ => some h
  | .writeEntryDenomination h _ _ => some h
  | .writeEntryCassette h _ _ _ _ => some h
  | .writeEntryLoop h _ => some h
  | .writeEntryModule h _ _ _ _ => some h
  | .writeEntryScreening h _ _ _ => some h
  | .writeEntryPlanner h _ => some h
  | .writeEntryPresenter h _ => some h
  | .writeEntryDeposit h _ => some h
  | .writeEntryDepository h _ => some h
  | .writeEntryTube h _ => some h
  | .writeEntryBus h _ => some h
  | .readEntry h _ => some h
  | .selectProfileWrite h _ => some h
  | .selectProfileOperate h _ => some h
  | .loadCassette h _ _ _ => some h
  | .reconcileCassette h _ _ => some h
  | .exchangeCassette h _ => some h
  | .emptyDepository h => some h
  | .clearConditionLockdown h => some h
  | .clearConditionDuress h => some h
  | .armLoop h _ => some h
  | .disarmLoop h _ => some h
  | .ackLoop h _ => some h
  | .restoreNode h _ => some h
  | .resumeRecycler h => some h
  | .clearTube h _ => some h
  | .resetShift h _ => some h
  | .readStatus h _ => some h
  | .readJournal h _ => some h
  | .drainJournal h _ => some h
  | .goService h => some h
  | .suspend h => some h
  | .restart h => some h
  | .pairTimerExpiry _ => none
  | .managementPairTimerExpiry => none
  | .pickReportTimerExpiry _ => none
  | .retractReportTimerExpiry _ => none
  | .presentTimerExpiry _ => none
  | .exchangeAuthorisationExpiry => none
  | .idleTimerExpiry _ => none
  | .endTimerExpiry _ => none
  | .completionTimerExpiry _ => none
  | .safeOpeningExpiry => none
  | .restTimerExpiry => none
  | .transitTimerExpiry _ => none
  | .armTimerExpiry _ => none
  | .qualifyTimerExpiry _ => none
  | .loopReading _ _ => none
  | .exchangeBegin => none
  | .wallBusReplyTaken _ => none
  | .replyWindowExpiry => none
  | .busFrameDiscarded _ => none
  | .unknownOrderKind h _ _ _ => some h

end Sys2Proof
end

