-- ==== Sys2Proof/Safety.lean ====
section
/-! DEFINITION. What counts as a safe state of the TW-6, and the words the statements use: the laws every step keeps, tables read
without a fault, what any event may add to a state, and how an order is answered. -/

namespace Sys2Proof.Machine

open Sys2Proof

/-! ## Laws every step keeps -/

/-- The silent-alarm output follows the duress latch (R150), the local-alarm output the lockdown latch (R151). -/
abbrev State.outputsFollow (s : State) : Prop :=
  s.alarm.silentOutput = s.alarm.duress ∧ s.alarm.localOutput = s.alarm.lockdown

/-- At most 64 items with the held places, 4 waiting frames (R176), 48 outgoing frames (R161). -/
abbrev State.queuesBounded (s : State) : Prop :=
  s.link.used ≤ 64 ∧ s.link.rxBuffer.length ≤ 4 ∧ s.bus.outgoing.length ≤ 48

/-- The error counters keep to their ranges (R158), and only an ISOLATED node's order counter passes 255 (R164). -/
abbrev State.countersInRange (s : State) : Prop :=
  ∀ m : ModuleId, (s.bus.modules[m]).orderErrors ≤ 263 ∧ (s.bus.modules[m]).replyErrors ≤ 255
    ∧ ((s.bus.modules[m]).health ≠ .isolated → (s.bus.modules[m]).orderErrors ≤ 255)

/-- A lane with an open transaction is BUSY or HELD; every dispense record and every session is its lane's open transaction;
and at most one record names any lane (R7, R51). -/
abbrev State.transactionsMatch (s : State) : Prop :=
  (∀ l : Lane, (s.laneRec l).txn.isSome → (s.laneRec l).state = .busy ∨ (s.laneRec l).state = .held)
    ∧ (∀ i : DispenseSlot, ∀ r ∈ s.dispense.records[i], (s.laneRec r.lane).txn = some (.dispense r.id))
    ∧ (∀ l : Lane, (s.session l).isSome → (s.laneRec l).txn = some .deposit)
    ∧ (∀ i j : DispenseSlot, ∀ r ∈ s.dispense.records[i], ∀ q ∈ s.dispense.records[j], r.lane = q.lane → i = j)

/-- Every operation in progress holds one reserved slot, and the free slots are enough for them (R172). -/
abbrev State.outcomesReserved (s : State) : Prop :=
  s.journal.reserved = s.dispenses.length + s.sessions.length + s.captures.length
    ∧ s.journal.ring.length + s.journal.reserved ≤ 512

/-- The Tube Queue holds at most one request for each lane (R124). -/
abbrev State.oneRequestPerLane (s : State) : Prop := (s.tube.requests.map Request.lane).Nodup

/-- No two entries of the Console Table hold the same credential (R17). -/
abbrev State.bindingsDiffer (s : State) : Prop :=
  ∀ c d : Console, (s.binding c).isSome → (s.binding c).map Binding.credential = (s.binding d).map Binding.credential → c = d

/-- The equation of R91 for one cassette; a latch OUT or UNRECONCILED lifts it, for P UNRECONCILED alone. -/
def Cassette.balanced (k : Cassette) (c : CassetteId) : Bool :=
  if c = cassetteP then k.unreconciled || decide (k.count = k.base + k.rejectedIn + k.retractedIn)
  else if c = cassetteD then k.out || k.unreconciled || decide (k.count = k.base + k.stacked)
  else k.out || k.unreconciled || decide (k.count + k.picked + k.rejected = k.base + k.stacked)

/-- Every cassette keeps the equation (R91). -/
abbrev State.cashBalanced (s : State) : Prop := ∀ c : CassetteId, (s.cassette c).balanced c = true

/-- No tally is within 10,000 of the end of its 32 bits, beyond which no rule says what it holds (log 10). -/
abbrev State.talliesSmall (s : State) : Prop :=
  ∀ c : CassetteId, (s.cassette c).picked + 10000 ≤ max32 ∧ (s.cassette c).rejected + 10000 ≤ max32
    ∧ (s.cassette c).stacked + 10000 ≤ max32 ∧ (s.cassette c).rejectedIn + 10000 ≤ max32
    ∧ (s.cassette c).retractedIn + 10000 ≤ max32

/-! ## Tables read without a fault -/

/-- Every table entry is OK with good parity. -/
def State.soundTables (s : State) : Bool :=
  s.lanes.dayCopies.toList.all (fun x => x.check == {}) && s.lanes.nightCopies.toList.all (fun x => x.check == {})
    && s.screen.authority.toList.all (fun x => x.check == {}) && s.cash.denominations.toList.all (fun x => x.check == {})
    && s.cash.cassettes.toList.all (fun x => x.check == {}) && s.alarm.loops.toList.all (fun x => x.check == {})
    && s.bus.modules.toList.all (fun x => x.check == {}) && s.screen.setting.check == {} && s.cash.planner.check == {}
    && s.dispense.setting.check == {} && s.deposit.setting.check == {} && s.envelope.setting.check == {}
    && s.tube.setting.check == {} && s.bus.setting.check == {}

/-- A table entry's stored values (R175). -/
def State.entryOf (s : State) : TableRef → Option EntryData
  | .lanePolicy lane p => (numbered 6 lane).bind fun l => p.map fun p => .lanePolicy (s.lanes.copy p l)
  | .authority i => (numbered 32 i).map fun i => .authority (s.authority i)
  | .denomination i => (numbered 8 i).map fun i => .denomination s.cash.denominations[i]
  | .cassette c => (numbered 8 c).map fun c => .cassette (s.cassette c)
  | .loop i => (numbered 16 i).map fun i => .loop (s.loop i)
  | .module m => (numbered 16 m).map fun m => .module (s.module m)
  | .screening => some (.screening s.screen.setting)
  | .planner => some (.single s.cash.planner)
  | .presenter => some (.single s.dispense.setting)
  | .deposit => some (.single s.deposit.setting)
  | .depository => some (.single s.envelope.setting)
  | .tube => some (.single s.tube.setting)
  | .bus => some (.bus s.bus.setting)

/-! ## The attention set as R177 lists it -/

/-- Whether a loop stands TRIPPED with a cause. -/
def Loop.standsTripped (k : Loop) (cause : BandGroup) : Bool := k.state == .tripped && k.trip.any fun x => x.cause == cause

/-- Whether the cause of a code stands in station 7's view (R177; 20: R151, 19 and 18: R148, 17: R171, 15 and 9: R164, 14: R86, 13:
R123, 12: R69, 11: R76, 10 and 2: R112, 8: R78, 7: R171, 5: R143, 1: R150). -/
def State.causeStands (s : State) : Nat → Bool
  | 20 => s.alarm.lockdown
  | 19 => s.alarm.loops.toList.any fun k => k.standsTripped .active
  | 18 => s.alarm.loops.toList.any fun k =>
      k.standsTripped .fault || (k.state == .arming && (k.band == some .shorted || k.band == some .cut))
  | 17 => s.mgmt.sticky.journalOverrun
  | 16 => s.mgmt.sticky.tableFault
  | 15 => s.bus.modules.toList.any fun e => decide (e.node ≠ 0 ∧ e.health = .isolated)
  | 14 => decide (s.cash.recycler = .faulted)
  | 13 => s.tube.carriers.toList.any fun c => decide (c.location = .unknown) && c.bound.isSome
  | 12 => decide (s.dispense.inDoubtLanes ≠ [])
  | 11 => s.cash.cassettes.toList.any fun k => k.unreconciled
  | 10 => decide (s.envelope.count = s.envelope.setting.value)
  | 9 => s.bus.modules.toList.any fun e => decide (e.node ≠ 0 ∧ e.health = .restricted)
  | 8 => decide (240 < (s.cassette cassetteP).count)
  | 7 => decide (512 - s.journal.ring.length ≤ s.journal.reserved + 64)
  | 6 => s.mgmt.sticky.reportLost
  | 5 => s.alarm.loops.toList.any fun k => k.state == .arming && k.armFailed
  | 4 => s.mgmt.sticky.nodeWatch
  | 3 => s.mgmt.sticky.cassetteLow
  | 2 => decide (s.envelope.setting.value ≤ s.envelope.count + 20)
  | 1 => s.alarm.duress
  | _ => false

/-- Whether the cause of a code stands in the console view: not DURESS, and LOOP TRIPPED not by loops whose applied response is
DURESS (R177). -/
def State.consoleCauseStands (s : State) (code : Nat) : Bool :=
  if code = 1 then false
  else if code = 19 then
    s.alarm.loops.toList.any fun k => k.standsTripped .active && !(k.trip.any fun x => x.applied.contains .duress)
  else s.causeStands code

/-- The codes, highest first (R177). -/
def attentionCodes : List Nat := [20, 19, 18, 17, 16, 15, 14, 13, 12, 11, 10, 9, 8, 7, 6, 5, 4, 3, 2, 1]

/-- The dispensable value (R50): notes times value over cassettes 1 to 6 that are SERVING or LOW, saturating. -/
def State.payable (s : State) : Nat :=
  min ((((List.finRange 8).filter fun c =>
      isWork c && ((s.cassette c).shown c == .serving || (s.cassette c).shown c == .low)).map fun c =>
    (s.cassette c).count * s.valueOf c).sum) max32

/-! ## What an event adds, and how an order is answered -/

/-- `s` with what any event may add to it, as `t` has it: Report Queue, journal records, sticky causes. A statement
`t = { s.logged t with … }` says that an event changed nothing else but what it lists. -/
def State.logged (s t : State) : State :=
  { s with link := t.link, journal := t.journal, mgmt := { s.mgmt with sticky := t.mgmt.sticky } }

/-- A report as an item of the Report Queue (R176). -/
def reportItem (dest : Station) (tag : Nat) (r : Report) : Item := { dest := dest, tag := tag, payload := .report r }

/-- A report to station 7 alone. -/
def to7 (r : Report) : List Item := [reportItem .supervisor 0 r]

/-- A report to a station with a copy to station 7; one item where the station is 7 (R176). -/
def copied (dest : Station) (tag : Nat) (own copy : Report) : List Item :=
  match dest with
  | .supervisor => [reportItem .supervisor tag copy]
  | .console c => [reportItem (.console c) tag own, reportItem .supervisor tag copy]

/-- A report to the serving consoles of a lane's copy in force, with a copy to station 7. -/
def State.toServing (s : State) (l : Lane) (own copy : Report) : List Item :=
  ((s.servingOf l).map fun c => reportItem (.console c) 0 own) ++ to7 copy

/-- A report to every console that is signed on. -/
def State.toSignedOn (s : State) (r : Report) : List Item := s.signedOn.map fun c => reportItem (.console c) 0 r

/-- The CASSETTE STATE report of a cassette whose shown state differs between two states (R76). -/
def State.shownChange (s t : State) (c : CassetteId) : List Item :=
  if (t.cassette c).shown c = (s.cassette c).shown c then [] else to7 (t.cassetteReport c)

/-- An order's response as an item (R176). -/
def responseTo (h : Sender) (kind : OrderKind) (code : Code) (body : ResponseBody) : Item :=
  { dest := h.station, tag := h.tag, payload := .response kind code body }

/-- The response is the last item of the Report Queue: it stands behind the reports its order queued (R176). -/
abbrev Answered (t : State) (h : Sender) (kind : OrderKind) (code : Code) (body : ResponseBody) : Prop :=
  t.link.reports.getLast? = some (responseTo h kind code body)

/-- The Console Link Interface after an order that queues some reports and its response. -/
def State.repliedWith (s : State) (h : Sender) (kind : OrderKind) (code : Code) (body : ResponseBody)
    (items : List Item) (form : List Byte → Bool := kind.fits) : Link :=
  { s.link with
    rxBuffer := s.link.rxBuffer.eraseP fun f => f.isOf h kind form
    reports := s.link.reports ++ items ++ [responseTo h kind code body] }

/-- The Console Link Interface after an order that queues its response and nothing else. -/
def State.answeredWith (s : State) (h : Sender) (kind : OrderKind) (code : Code) (body : ResponseBody)
    (form : List Byte → Bool := kind.fits) : Link :=
  s.repliedWith h kind code body [] form

/-- Records appended one after the other. -/
def Journal.appendAll (j : Journal) (now : Time) (es : List Entry) : Journal := es.foldl (fun j e => j.append now e) j

/-- The Report Queue and the ring have room for some reports and records, none of which is an outcome. -/
abbrev State.roomFor (s : State) (items : List Item) (records : List Entry) : Prop :=
  s.link.used + items.length < 64 ∧ s.journal.reserved + records.length ≤ s.journal.free

/-- The PAIR BROKEN record of a half stored for a lane (R32; its fields: log 65). -/
def brokenEntry (p : PairHalf) (l : Lane) : Entry :=
  { kind := .pairBroken, lane := numberOf l, station := numberOf p.station, credential := p.credential
    authIndex := numberOf p.index, value := p.amount, facts := [.tag p.tag] }

/-- The BROKEN PAIR report of a half: its tag, to its station, with a copy to station 7 (R32). -/
def brokenReports (p : PairHalf) : List Item := copied (.console p.station) p.tag .brokenPair .brokenPair

/-- The orders other than DISPENSE that name a lane, each with its order kind (R24). -/
def laneOrders (h : Sender) (lane id : Nat) : List (Instr × OrderKind) :=
  [ (.cancelDispense h lane id, .cancelDispense), (.openDeposit h lane, .openDeposit), (.closeDeposit h lane, .closeDeposit),
    (.sendCarrier h lane, .sendCarrier), (.recallCarrier h lane, .recallCarrier), (.openLane h lane, .openLane),
    (.closeLane h lane, .closeLane), (.releaseLane h lane, .releaseLane) ]

/-- An order was answered; and with room for them it queued exactly these reports, wrote exactly these records and raised no
sticky cause. -/
abbrev Told (s t : State) (h : Sender) (kind : OrderKind) (code : Code) (body : ResponseBody) (items : List Item)
    (records : List Entry) (form : List Byte → Bool := kind.fits) : Prop :=
  Answered t h kind code body
    ∧ (s.roomFor items records →
        t.link = s.repliedWith h kind code body items form ∧ t.journal = s.journal.appendAll s.now records
          ∧ t.mgmt.sticky = s.mgmt.sticky)

/-- With room for them, an event queued exactly these reports, wrote exactly these records and raised no sticky cause. -/
abbrev Noted (s t : State) (items : List Item) (records : List Entry) : Prop :=
  s.roomFor items records →
    t.link = { s.link with reports := s.link.reports ++ items } ∧ t.journal = s.journal.appendAll s.now records
      ∧ t.mgmt.sticky = s.mgmt.sticky

/-- Station 7 sends, and the Report Queue has a place for the response. -/
abbrev State.supervised (s : State) (h : Sender) : Prop := h.station = .supervisor ∧ s.link.used < 64

/-- Console `c` sends, bound by `b`, whose entry still holds its credential and holds the right; the Report Queue has a place
(R25, steps 2 to 4). -/
abbrev State.entitled (s : State) (h : Sender) (c : Console) (b : Binding) (right : Rights → Bool) : Prop :=
  h.station = .console c ∧ s.link.used < 64 ∧ s.binding c = some b ∧ (s.authority b.index).credential = b.credential
    ∧ right (s.authority b.index).rights = true

/-- Steps 1 and 5 to 10 of an order of console `c` that opens a transaction on lane `l` (R25). -/
abbrev State.laneReady (s : State) (c : Console) (l : Lane) : Prop :=
  s.mgmt.partState = .inService ∧ (s.policy l).serving[c] = true ∧ (s.laneRec l).state = .idle
    ∧ (s.laneRec l).txn = none ∧ (s.laneRec l).holds.any = false ∧ s.alarm.lockdown = false ∧ s.journalAdmits = true

/-- Checks 1 to 6 of R27 for the credential at index `i` and the Rate Window of console `c`. -/
abbrev State.withinLimits (s : State) (l : Lane) (c : Console) (i : AuthId) (amount : Nat) : Prop :=
  1 ≤ amount ∧ amount ≤ 999999 ∧ amount ≤ (s.policy l).singleLimit ∧ amount ≤ (s.authority i).perDispense
    ∧ (s.alarm.duress = true → amount ≤ (s.policy l).duressCap)
    ∧ (s.authority i).shiftTotal + amount ≤ (s.authority i).shiftLimit
    ∧ (recent s.now s.screen.setting.rateDuration s.screen.rateWindows[c]).length < s.screen.setting.rateCount

/-- Checks 8 to 12 of R27, and a place on the outgoing queue. -/
abbrev State.roomToPay (s : State) (amount : Nat) (plan : List PlanItem) : Prop :=
  s.cash.recycler ≠ .faulted ∧ s.entryPoor s.recyclerEntry = false ∧ (s.cassette cassetteP).count ≤ 240
    ∧ s.cash.workQueue.length < 8 ∧ (∃ i : DispenseSlot, s.dispense.records[i] = none)
    ∧ mixOf (s.eligibleList []) amount s.cash.planner.value = .plan plan ∧ s.bus.outgoing.length < 48

/-- What an admission leaves (R27, R47, R52): id, charge, rate entry, reserved slot, BUSY lane, record; and what it leaves alone. -/
abbrev Admitted (s t : State) (l : Lane) (c : Console) (i : AuthId) (amount : Nat) (plan : List PlanItem) : Prop :=
  t.dispense.lastId = s.nextId
    ∧ (t.authority i).shiftTotal = (s.authority i).shiftTotal + amount
    ∧ t.screen.rateWindows[c] = recent s.now s.screen.setting.rateDuration s.screen.rateWindows[c] ++ [s.now]
    ∧ t.screen.consoles = s.screen.consoles ∧ t.screen.setting = s.screen.setting
    ∧ (∀ j : AuthId, j ≠ i → t.authority j = s.authority j)
    ∧ t.journal.reserved = s.journal.reserved + 1
    ∧ t.lanes = { s.lanes with
        records := s.lanes.records.set l { s.laneRec l with state := .busy, txn := some (.dispense s.nextId) } }
    ∧ (∃ k : DispenseSlot, s.dispense.records[k] = none ∧ t.dispense.records[k].any fun r =>
        decide (r.id = s.nextId ∧ r.lane = l ∧ r.station = c ∧ r.amount = amount ∧ r.charge = amount ∧ r.plan = plan))
    ∧ t.cash.cassettes = s.cash.cassettes ∧ t.cash.denominations = s.cash.denominations ∧ t.deposit = s.deposit
    ∧ t.envelope = s.envelope ∧ t.tube = s.tube ∧ t.alarm = s.alarm ∧ t.bus.modules = s.bus.modules

/-- The half a CONFIRM names is stored and in time, and the console that confirms may (R36). -/
abbrev State.confirmable (s : State) (h : Sender) (c : Console) (b : Binding) (right : Rights → Bool) (op : MgmtOp)
    (half : MgmtHalf) : Prop :=
  s.entitled h c b right ∧ s.mgmt.partState ≠ .unconfigured ∧ s.screen.managementSlot = some half ∧ half.op = op
    ∧ half.timer.past s.now = false

/-- The record of a completed management pair (R36). -/
def confirmEntry (c : Console) (b : Binding) (half : MgmtHalf) : Entry :=
  { kind := .pairComplete, station := numberOf c, credential := b.credential, authIndex := numberOf b.index
    facts := [.station2 7 0 0, .tag half.tag] }

/-- The report of a completed management pair (R36). -/
def confirmReport (half : MgmtHalf) (code : Code) : List Item := [reportItem .supervisor half.tag (.pairComplete none code)]

/-- The Order Screen with its Management Pair Slot empty. -/
def State.slotEmptied (s : State) : OrderScreen := { s.screen with managementSlot := none }

/-- A movement of lane `l` ended with its carrier unaccounted for (R132, R134): the carrier, the blower's release, the CARRIER
hold, and what is left alone. -/
abbrev MovementLost (s t : State) (l : Lane) (cause : UnknownCause) : Prop :=
  t.tube = { s.tube with
      carriers := s.tube.carriers.set l
        { s.carrier l with location := .unknown, cause := some cause, seated := false, timer := none }
      blower := if s.tube.blower = .moving l then
          if s.tube.setting.value = 0 then .idle else .resting { start := s.now, duration := s.tube.setting.value }
        else s.tube.blower }
    ∧ (t.laneRec l).holds = { (s.laneRec l).holds with carrier := true } ∧ (t.laneRec l).txn = (s.laneRec l).txn
    ∧ (∀ m : Lane, m ≠ l → t.laneRec m = s.laneRec m)
    ∧ t.screen = s.screen ∧ t.dispense = s.dispense ∧ t.cash = s.cash ∧ t.deposit = s.deposit ∧ t.envelope = s.envelope
    ∧ t.alarm = s.alarm ∧ t.bus.modules = s.bus.modules

/-- An ACTIVE session gone to ENDING by an event taken now (R105, R109). -/
def State.endingSession (s : State) (x : Session) (cause : EndCause) : Session :=
  { x with
    state := .ending, endCause := some cause, idleTimer := none, endTimer := some { start := s.now, duration := 30000 }
    flags := { x.flags with duress := x.flags.duress || s.alarm.duress } }

/-- The CARRIER report of a carrier as it stands (R123). -/
def carrierReportOf (l : Lane) (c : Carrier) (e : CarrierEvent) (code : Option Code) : Report :=
  .carrier (numberOf l) e c.location c.seated c.bound.isSome c.bound code

/-- The LANE STATE report of a Lane Record (R11). -/
def laneReportOf (l : Lane) (r : LaneRecord) : Report := .laneState (numberOf l) r.state r.holds r.profile r.switchPending

/-- A Lane Record after SELECT PROFILE OPERATE has named `p`, its copies OK (R5, R6): already on it, adopted, or pending. -/
def State.operated (s : State) (p : Profile) (l : Lane) : LaneRecord :=
  let r := s.laneRec l
  if r.profile = p then { r with switchPending := false }
  else if r.txn = none then
    { r with profile := p, switchPending := false, state := if (s.lanes.copy p l).isOpen then r.state else .closed }
  else { r with switchPending := true }

/-- The LANE STATE report of that change (R11): to the serving consoles of the copy then in force and to station 7 where the state
changed, to station 7 alone where only the switch-pending flag did. -/
def operatedReports (s t : State) (l : Lane) : List Item :=
  let report := laneReportOf l (t.laneRec l)
  if (t.laneRec l).state ≠ (s.laneRec l).state then t.toServing l report report
  else if (t.laneRec l).switchPending ≠ (s.laneRec l).switchPending then to7 report
  else []

/-- The PROFILE SWITCH record of a lane that adopts `p` (R5). -/
def State.operatedRecord (s : State) (p : Profile) (l : Lane) : Option Entry :=
  if (s.laneRec l).profile ≠ p ∧ (s.laneRec l).txn = none then
    some (s.stamped { kind := .profileSwitch, lane := numberOf l, facts := [.profiles (s.laneRec l).profile p] })
  else none

/-- A Lane Record with NODE judged anew in `t`: as it was where NODE stands as before, and settled with the change (R10, R7). -/
def State.nodeJudged (s t : State) (l : Lane) : LaneRecord :=
  let r := s.laneRec l
  if t.nodeStands l = r.holds.node then r
  else
    let r := { r with holds := { r.holds with node := t.nodeStands l } }
    { r with state := settledState r (t.policy l).readsOpen }

/-- The HOLD and RELEASE records of the lanes whose NODE changed, in lane order (R10). -/
def State.nodeRecords (s t : State) : List Entry :=
  (List.finRange 6).filterMap fun l =>
    if (t.laneRec l).holds.node = (s.laneRec l).holds.node then none
    else some (s.stamped
      { kind := if (t.laneRec l).holds.node then .hold else .release, lane := numberOf l, facts := [.reason .node] })

/-- The LANE STATE reports of those changes, in lane order (R11). -/
def State.nodeReports (s t : State) : List Item :=
  (List.finRange 6).flatMap fun l =>
    if (t.laneRec l).holds.node = (s.laneRec l).holds.node then []
    else t.toServing l (laneReportOf l (t.laneRec l)) (laneReportOf l (t.laneRec l))

/-- An event leaves the selects and the stored fields of every policy copy alone: with every table OK all of Lane Control but its
Lane Records, and otherwise a copy's check apart. -/
abbrev PoliciesKept (s t : State) : Prop :=
  t.lanes.writeSelect = s.lanes.writeSelect ∧ t.lanes.operateSelect = s.lanes.operateSelect
    ∧ (∀ (p : Profile) (l : Lane), t.lanes.copy p l = { s.lanes.copy p l with check := (t.lanes.copy p l).check })
    ∧ (s.soundTables = true → t.lanes = { s.lanes with records := t.lanes.records })

/-- A Lane Record without its latched reasons, settled (R15, R7). -/
def State.released (s : State) (l : Lane) : LaneRecord :=
  let r := { s.laneRec l with holds := { node := (s.laneRec l).holds.node } }
  { r with state := settledState r (s.policy l).readsOpen }

/-- A frame on the outgoing queue for an entry's node (R161). -/
def State.orderTo (s : State) (m : ModuleId) (owner : Owner) (o : BusOrder) : Frame :=
  { node := (s.module m).node, content := .order o, owner := owner }

/-- A Wall Bus frame that answers an exchange as it should: check, addresses (R183, R187). -/
abbrev replyAnswers (r : BusReply) (x : Exchange) : Prop := r.checkOk = true ∧ r.dest = 0 ∧ r.source = x.frame.node

/-- An exchange is outstanding, within its window, to an ACTIVE node whose counters are below 96. -/
abbrev State.awaits (s : State) (x : Exchange) (m : ModuleId) : Prop :=
  s.bus.outstanding = some x ∧ s.nodeEntry x.frame.node = some m ∧ (s.module m).health = .active
    ∧ (s.module m).orderErrors < 96 ∧ (s.module m).replyErrors < 96

/-- A module's entry after a GOOD exchange that leaves it ACTIVE with its counters below 96, its parity recomputed with a change
(R160, R164, R175). -/
def Module.bettered (e : Module) : Module :=
  e.changedTo
    { e with orderErrors := e.orderErrors - 1, replyErrors := e.replyErrors - 1, mark96 := false, mark128 := false
             mark256 := false }

/-- An ACTIVE node's poll is answered in time by a good frame with some reports (R160, R187). -/
abbrev State.polled (s : State) (x : Exchange) (m : ModuleId) (r : BusReply) (cond : Nat) (reports : List ModuleReport) :
    Prop :=
  s.awaits x m ∧ x.frame.content = .poll ∧ x.window.past s.now = false ∧ replyAnswers r x ∧ r.cls = 6
    ∧ r.body = .poll cond reports

/-- The Wall Bus Controller after an exchange that ended GOOD so, with nothing placed. -/
def State.afterPoll (s : State) (m : ModuleId) : BusController :=
  { s.bus with outstanding := none, modules := s.bus.modules.set m (s.module m).bettered }

/-- The recycler's condition after a poll reply that carries a condition byte: 1 CLEAR, 2 JAMMED, and otherwise as it was (R86,
R186). -/
def State.conditionAfter (s : State) (cond : Nat) : RecyclerCondition :=
  if cond = 1 then .clear else if cond = 2 then .jammed else s.cash.condition

/-- The body is the answer to a STATUS QUERY (R187). -/
def bringsAnswer : ReplyBody → Bool
  | .answer .. => true
  | .plain | .refusal _ | .poll .. | .unreadable => false

/-- An outstanding exchange ends with the good reply of its node: an ACK of its order's kind that brings nothing (R187). -/
abbrev acknowledges (r : BusReply) (x : Exchange) (o : BusOrder) : Prop :=
  replyAnswers r x ∧ r.cls = 4 ∧ r.kind = o.number ∧ r.body ≠ .unreadable ∧ bringsAnswer r.body = false

/-- A frame whose check fails or whose addresses are wrong (R160, R187). -/
abbrev damages (r : BusReply) (x : Exchange) : Prop := r.checkOk = false ∨ r.dest ≠ 0 ∨ r.source ≠ x.frame.node

/-- The orders whose owner acts on no result of their exchange. -/
def BusOrder.unheeded : BusOrder → Bool
  | .route .. | .acceptEnd _ | .eject _ | .blowerStop | .binCount .. | .lockBays | .unlockBays => true
  | .pick .. | .retract _ | .statusQuery _ | .acceptBegin _ | .capture .. | .blowerMove .. | .denominations _ => false

/-- The orders handed back to their owner when they reach the front for an ISOLATED node (R115, R130, R163). -/
def BusOrder.handedBack : BusOrder → Bool
  | .capture .. | .blowerMove .. => true
  | .pick .. | .retract _ | .statusQuery _ | .acceptBegin _ | .route .. | .acceptEnd _ | .eject _ | .blowerStop | .binCount ..
  | .lockBays | .unlockBays | .denominations _ => false

/-- A module's entry with other counters, its parity recomputed with the change (R160, R175). -/
def Module.recounted (e : Module) (order reply : Nat) : Module :=
  { e with orderErrors := order, replyErrors := reply, check := e.check.recomputed }

/-- A module's entry as a restore leaves it: ACTIVE, counters 0 and marks clear, its parity recomputed (R166, R175). -/
def Module.afresh (e : Module) : Module :=
  { e with
    orderErrors := 0, replyErrors := 0, mark96 := false, mark128 := false, mark256 := false, health := .active
    check := e.check.recomputed }

/-- The health state of two counters as R164's table gives it. -/
def healthGiven (order reply : Nat) : Health :=
  if 256 ≤ order then .isolated
  else if 128 ≤ order ∨ 128 ≤ reply then .restricted
  else if 96 ≤ order ∨ 96 ≤ reply then .watch
  else .active

/-- The NODE HEALTH record of a crossing (R164). -/
def crossingEntry (node order reply threshold : Nat) : Entry :=
  { kind := .nodeHealth, facts := [.node node, .errors order reply threshold] }

/-- An entry in the poll ring: its node is not 0 and it is not ISOLATED (R161). -/
abbrev State.inRing (s : State) (j : ModuleId) : Prop := (s.module j).node ≠ 0 ∧ (s.module j).health ≠ .isolated

/-- The node to poll next: the lowest above the ring position, or the lowest of the ring if none is above it (R161). -/
abbrev State.pollsNext (s : State) (n : Nat) : Prop :=
  (s.bus.ringPos < n ∧ ∀ j : ModuleId, s.inRing j → s.bus.ringPos < (s.module j).node → n ≤ (s.module j).node)
    ∨ ∀ j : ModuleId, s.inRing j → (s.module j).node ≤ s.bus.ringPos ∧ n ≤ (s.module j).node

/-- An exchange begun now with a frame, under the window and timing set (R160, R168). -/
def State.began (s : State) (f : Frame) (isResend : Bool) : Exchange :=
  ⟨f, isResend, ⟨s.now, s.bus.setting.window⟩, ⟨s.bus.setting.quanta, s.bus.setting.phase2, s.bus.setting.jump⟩⟩

/-- No exchange is outstanding, no resend is due, and a frame for a node of the Module Table is the next chosen: the oldest ROUTE,
or with none the oldest frame (R161). -/
abbrev State.choosesNext (s : State) (f : Frame) (m : ModuleId) : Prop :=
  s.bus.outstanding = none ∧ s.bus.resend = none ∧ s.nodeEntry f.node = some m
    ∧ (s.bus.outgoing.find? Frame.isRoute = some f
      ∨ s.bus.outgoing.find? Frame.isRoute = none ∧ s.bus.outgoing.head? = some f)

/-- The one report of a lane station or of the blower cabinet about a lane's carrier names that module's end (R135, R158). -/
abbrev State.reportsEnd (s : State) (m : ModuleId) (l : Lane) (e : TubeEnd) : Prop :=
  (s.module m).kind = .laneStation ∧ (s.module m).lane = numberOf l ∧ e = .lane ∨ (s.module m).kind = .blower ∧ e = .teller

/-- A dispense record after an event taken for it now (R70). -/
def State.dispenseTouched (s : State) (r : DispenseRecord) : DispenseRecord :=
  { r with flags := { r.flags with duress := r.flags.duress || s.alarm.duress } }

/-- What a bundle's counts are worth at the cassettes' denominations (R56, step 5). -/
def State.worthOf (s : State) (counts : Vector Nat 6) : Nat :=
  ((List.finRange 6).map fun c => counts[c] * s.valueOf (c.castLE (by decide))).sum

/-- What a dispense record has presented in cents, `n` more notes of cassette `c` counted (R56, step 5). -/
def State.worthAfter (s : State) (r : DispenseRecord) (c : Fin 6) (n : Nat) : Nat :=
  s.worthOf (r.presented.set c (r.presented[c] + n))

/-- A dispense record after a pick report of `n` notes to the tray and `q` to P from cassette `c` (R56, steps 1, 3 and 5). -/
def State.dispenseCounted (s : State) (r : DispenseRecord) (c : Fin 6) (n q : Nat) : DispenseRecord :=
  { r with
    flags := { r.flags with duress := r.flags.duress || s.alarm.duress, inDoubt := false }
    reportTimer := none, recovery := .notUnderWay
    picked := r.picked.set c (r.picked[c] + n), rejected := r.rejected.set c (r.rejected[c] + q)
    presented := r.presented.set c (r.presented[c] + n)
    presentedValue := s.worthAfter r c n }

/-- A record PRESENTED now, its present timer running (R57, R60). -/
def State.presentedNow (s : State) (r : DispenseRecord) : DispenseRecord :=
  { r with state := .presented, presentTimer := some { start := s.now, duration := 1000 * s.dispense.setting.value } }

/-- The Dispense Table with one record changed. -/
def State.withRecord (s : State) (i : DispenseSlot) (r : DispenseRecord) : Vector (Option DispenseRecord) 8 :=
  s.dispense.records.set i (some r)

/-- A cassette after a pick of `n` notes and `q` rejects (R79), its low mark armed as R78 gives. -/
def Cassette.afterPick (k : Cassette) (n q : Nat) : Cassette :=
  { k with
    count := k.count - (n + q), picked := k.picked + n, rejected := k.rejected + q
    lowArmed := decide (k.lowMark < k.count - (n + q)) || (k.lowArmed && decide (k.count ≤ k.lowMark)) }

/-- The cassettes after that pick from `k`, its rejects credited to P (R79). -/
def State.cassettesPicked (s : State) (k : CassetteId) (n q : Nat) : Vector Cassette 8 :=
  (s.cash.cassettes.set k ((s.cassette k).afterPick n q)).set cassetteP
    { s.cassette cassetteP with
      count := (s.cassette cassetteP).count + q, rejectedIn := (s.cassette cassetteP).rejectedIn + q }

/-- A pick of `n` notes and `q` rejects from cassette `k` (`c` of 1 to 6) is taken for the record `p` at `i`: every figure within
its range, the cassette in place and reconciled with as many notes, room in P (R56, R76, R79). -/
abbrev State.takesPick (s : State) (i : DispenseSlot) (p : DispenseRecord) (tag : Nat) (c : Fin 6) (k : CassetteId)
    (n q : Nat) : Prop :=
  s.soundTables = true ∧ s.pickingWith tag = some i ∧ s.dispense.records[i] = some p ∧ k.val = c.val
    ∧ p.picked[c] + n ≤ 100 ∧ p.rejected[c] + q ≤ 100 ∧ p.presented[c] + n ≤ 100
    ∧ (s.cassette k).out = false ∧ (s.cassette k).unreconciled = false ∧ n + q ≤ (s.cassette k).count
    ∧ (s.cassette k).picked + n ≤ max32 ∧ (s.cassette k).rejected + q ≤ max32
    ∧ (s.cassette cassetteP).count + q ≤ capacity cassetteP ∧ (s.cassette cassetteP).rejectedIn + q ≤ max32

/-- The recycler's poll reply brings that pick's report (R56, R79). -/
abbrev State.pickReported (s : State) (x : Exchange) (m : ModuleId) (r : BusReply) (cond : Nat) (i : DispenseSlot)
    (p : DispenseRecord) (tag status : Nat) (c : Fin 6) (k : CassetteId) (n q : Nat) : Prop :=
  s.polled x m r cond [.pickReport ⟨tag, status, [⟨numberOf c, n, q⟩]⟩] ∧ (s.module m).kind = .recycler
    ∧ s.takesPick i p tag c k n q

/-- The record of a PICK REPORT of one cassette (R56, step 4; R188). -/
def DispenseRecord.pickEntry (p : DispenseRecord) (tag status : Nat) (c : Fin 6) (n q : Nat) : Entry :=
  { p.entry .pick with value := tag, items := [(numberOf c, n * 65536 + q)], detail := status }

/-- The one entry of the Recycler Work Queue that runs is the dispense's PICK, and no other PICK of it waits (R88). -/
abbrev State.runsOnly (s : State) (id : Nat) : Prop :=
  s.cash.recycler = .busy ∧ (s.cash.workQueue.any fun e => e.running) = true
    ∧ ∀ e ∈ s.cash.workQueue, (e.running = true ↔ e.isPickOf id = true)

/-- A STATUS QUERY of the dispense record `p` at `i` is outstanding, to an ACTIVE node, and the record waits for its answer
(R66, R167). -/
abbrev State.queries (s : State) (x : Exchange) (m : ModuleId) (i : DispenseSlot) (p : DispenseRecord) (tag : Nat) : Prop :=
  s.awaits x m ∧ x.frame.content = .order (.statusQuery tag) ∧ x.window.past s.now = false
    ∧ s.findDispense (fun r => r.state == .picking && r.pickTag == some tag && r.recovery == .querying) = some i
    ∧ s.dispense.records[i] = some p

/-- The answer to a STATUS QUERY (R186, R187). -/
abbrev answersQuery (r : BusReply) (x : Exchange) (code : Nat) (p : Option PickReport) : Prop :=
  replyAnswers r x ∧ r.cls = 5 ∧ r.kind = 3 ∧ r.body = .answer code p

/-- A dispense ended IN DOUBT at a pick (R69): the record free, its outcome in the reserved slot, CASH on its lane, which has no
transaction and joins the in-doubt lane set, and every cassette of the pick under way UNRECONCILED. -/
abbrev PickInDoubt (s t : State) (i : DispenseSlot) (p : DispenseRecord) : Prop :=
  t.dispense.records[i] = none ∧ p.lane ∈ t.dispense.inDoubtLanes ∧ (t.laneRec p.lane).txn = none
    ∧ (t.laneRec p.lane).holds.cash = true ∧ (∀ l : Lane, l ≠ p.lane → t.laneRec l = s.laneRec l)
    ∧ t.journal.reserved = s.journal.reserved - 1
    ∧ (∀ c : CassetteId, t.cassette c = if planNames p.currentPlan c = true then
        { s.cassette c with unreconciled := true, check := (s.cassette c).check.recomputed } else s.cassette c)
    ∧ t.screen = s.screen ∧ t.deposit = s.deposit ∧ t.envelope = s.envelope ∧ t.tube = s.tube ∧ t.alarm = s.alarm

/-! ## A soft reset (R182) -/

/-- A record or a session of lane `l` that a soft reset ends, and so closes the lane's transaction (R16, R72, R110). -/
def State.resetCloses (s : State) (l : Lane) : Bool := s.dispenses.any (fun r => r.lane == l) || (s.session l).isSome

/-- A soft reset posts CASH to lane `l` (R72, R110): a dispense that is not QUEUED, or was taken late, or a running session with
notes listed. -/
def State.resetPostsCash (s : State) (l : Lane) : Bool :=
  s.dispenses.any (fun r => r.lane == l && (r.state != .queued || r.flags.takenLate))
    || (s.session l).any fun x => x.running && !x.transit.isEmpty

/-- A note on its way to cassette `c`. -/
def Transit.goesTo (n : Transit) (c : CassetteId) : Bool :=
  match n.dest with
  | .store d => stackCassette d == c
  | .toCustomer => false

/-- A soft reset makes cassette `c` UNRECONCILED: it is in the plan of a pick under way, or notes listed were on their way to it
(R72, R93, R110). -/
def State.resetUnreconciles (s : State) (c : CassetteId) : Bool :=
  s.dispenses.any (fun r => r.state == .picking && planNames r.currentPlan c)
    || s.sessions.any fun x => x.running && x.transit.any fun n => n.goesTo c

/-- A cassette after a soft reset (R93): kept, inbound count and all, but for UNRECONCILED and an Exchange Authorisation that ends. -/
def State.cassetteReset (s : State) (c : CassetteId) : Cassette :=
  let k := s.cassette c
  let ends := s.cash.exchange.any fun a => a.cassette == c
  { k with
    unreconciled := k.unreconciled || s.resetUnreconciles c
    causes := { k.causes with exchange := k.causes.exchange && !ends }
    check := if s.resetUnreconciles c || ends then k.check.recomputed else k.check }

/-- A lane's hold reasons after a soft reset (R16): each latched reason kept, CASH and CARRIER posted, NODE as its station entry
says. -/
def State.holdsReset (s : State) (l : Lane) : Holds :=
  let h := (s.laneRec l).holds
  { loop := h.loop, node := (s.stationEntry l).isNone, carrier := h.carrier || (s.carrier l).moving
    cash := h.cash || s.resetPostsCash l, envelope := h.envelope }

/-- A session after a note report taken for it now (R98 to R102, R105, R109). -/
def State.noted (s : State) (x : Session) : Session :=
  { x with
    lastNote := s.now
    idleTimer := if x.state = .active then some { start := s.now, duration := 1000 * s.deposit.setting.value } else x.idleTimer
    endTimer := if x.state = .ending then some { start := s.now, duration := 30000 } else x.endTimer
    flags := { x.flags with duress := x.flags.duress || s.alarm.duress } }

/-! ## Frames of the Console Link -/

/-- The bytes of an ORDER (type 1) or MGMT (type 2) frame to the controller (chapter 12.2). -/
def consoleFrameBytes (f : ConsoleFrame) : List Byte :=
  sealed 0xC3#8
    (bigEndian 1 0 ++ bigEndian 1 (stationNumber f.station) ++ bigEndian 1 (if f.isMgmt then 2 else 1) ++ bigEndian 2 f.tag
      ++ bigEndian 1 f.kind ++ bigEndian 1 0 ++ bigEndian 1 0 ++ bigEndian 2 f.body.length ++ f.body)

/-- The bytes of a PICK REPORT body (R186). -/
def pickReportBytes (r : PickReport) : List Byte :=
  bigEndian 2 r.tag ++ bigEndian 1 r.status ++ bigEndian 1 r.items.length
    ++ r.items.flatMap fun i => bigEndian 1 i.code ++ bigEndian 1 i.picked ++ bigEndian 1 i.rejected

/-! ## The kind of an order -/

/-- The ORDER or MGMT kind of an order's frame (R184). -/
def orderKind : Instr → Option OrderKind
  | .signOn .. => some .signOn
  | .signOff .. => some .signOff
  | .dispenseSingle .. => some .dispense
  | .dispenseFirst .. => some .dispense
  | .dispenseSecond .. => some .dispense
  | .cancelDispense .. => some .cancelDispense
  | .openDeposit .. => some .openDeposit
  | .closeDeposit .. => some .closeDeposit
  | .sendCarrier .. => some .sendCarrier
  | .recallCarrier .. => some .recallCarrier
  | .openLane .. => some .openLane
  | .closeLane .. => some .closeLane
  | .releaseLane .. => some .releaseLane
  | .confirmExchangeCassette .. => some .confirm
  | .confirmEmptyDepository .. => some .confirm
  | .confirmClearCondition .. => some .confirm
  | .writeEntryLanePolicy .. => some .writeEntry
  | .writeEntryAuthority .. => some .writeEntry
  | .writeEntryDenomination .. => some .writeEntry
  | .writeEntryCassette .. => some .writeEntry
  | .writeEntryLoop .. => some .writeEntry
  | .writeEntryModule .. => some .writeEntry
  | .writeEntryScreening .. => some .writeEntry
  | .writeEntryPlanner .. => some .writeEntry
  | .writeEntryPresenter .. => some .writeEntry
  | .writeEntryDeposit .. => some .writeEntry
  | .writeEntryDepository .. => some .writeEntry
  | .writeEntryTube .. => some .writeEntry
  | .writeEntryBus .. => some .writeEntry
  | .readEntry .. => some .readEntry
  | .selectProfileWrite .. => some .selectProfile
  | .selectProfileOperate .. => some .selectProfile
  | .loadCassette .. => some .loadCassette
  | .reconcileCassette .. => some .reconcileCassette
  | .exchangeCassette .. => some .exchangeCassette
  | .emptyDepository .. => some .emptyDepository
  | .clearConditionLockdown .. => some .clearCondition
  | .clearConditionDuress .. => some .clearCondition
  | .armLoop .. => some .armLoop
  | .disarmLoop .. => some .disarmLoop
  | .ackLoop .. => some .ackLoop
  | .restoreNode .. => some .restoreNode
  | .resumeRecycler .. => some .resumeRecycler
  | .clearTube .. => some .clearTube
  | .resetShift .. => some .resetShift
  | .readStatus .. => some .readStatus
  | .readJournal .. => some .readJournal
  | .drainJournal .. => some .drainJournal
  | .goService .. => some .goService
  | .suspend .. => some .suspend
  | .restart .. => some .restart
  | .unknownOrderKind _ m k _ => some (.unknown m k)
  | .hardReset | .consoleFrameReceived _ | .reportQueueItemSent | .pairTimerExpiry _ | .managementPairTimerExpiry
  | .pickReportTimerExpiry _ | .retractReportTimerExpiry _ | .presentTimerExpiry _ | .exchangeAuthorisationExpiry
  | .idleTimerExpiry _ | .endTimerExpiry _ | .completionTimerExpiry _ | .safeOpeningExpiry | .restTimerExpiry
  | .transitTimerExpiry _ | .armTimerExpiry _ | .qualifyTimerExpiry _ | .loopReading .. | .exchangeBegin
  | .wallBusReplyTaken _ | .replyWindowExpiry | .busFrameDiscarded _ => none

/-- The form of body that the waiting frame of an order has (R184, R185; log 2): the operands of a DISPENSE, the very body of an
order of no known form, and otherwise a length that fits the kind. -/
def orderForm (c : Instr) (kind : OrderKind) : List Byte → Bool :=
  match c with
  | .dispenseSingle _ lane amount => spellsDispense lane 0 amount
  | .dispenseFirst _ lane amount => spellsDispense lane 1 amount
  | .dispenseSecond _ lane amount => spellsDispense lane 2 amount
  | .unknownOrderKind _ _ _ body => fun b => b == body
  | _ => kind.fits

end Sys2Proof.Machine
end

