-- ==== Sys2Proof/Certificates/Slice0/Obligations.lean ====
section
/-! DEFINITION. The statements for the provers. "From station 7" means `State.supervised`; `t = { s.logged t with … }` says that the
event changed what it lists and else only what it queued, wrote and raised, which `Told` and `Noted` then give. An order's waiting frame leaves the receive buffer (log 2). -/

open Sys2Proof Sys2Proof.Machine

/-- For every command, queue and state, a step of the state with the command at the front of its queue is exec of the
command on the state with the queue's rest. (00_scope.md) -/
def Obligations.StepRunsTheFrontCommand : Prop :=
  ∀ (c : Instr) (rest : List Instr) (s : State),
    step { s with pending := c :: rest } = exec c { s with pending := rest }

/-- With no command waiting a step adds 1 to the 32-bit time base, modulo its range, and changes nothing else. That a
step of the model stands for a millisecond is the model's choice (log 1). (R179) -/
def Obligations.IdleStepCountsOneMillisecond : Prop :=
  ∀ (s : State),
    s.pending = [] →
    step s = .next { s with mgmt := { s.mgmt with timeBase := s.mgmt.timeBase + 1 } }

/-- For every command and state, exec answers a next state, no fault and no refusal, and the queue of waiting commands
is as it was. That no command of the table ends in a fault or a refusal is log 45, that a hard reset leaves the
waiting commands as they were is log 39 (DESIGN CHOICE both); the cited rules give what the commands do in their
place. (R24, R175, R176, R179) -/
def Obligations.EveryCommandCompletesAndKeepsTheQueue : Prop :=
  ∀ (c : Instr) (s : State),
    ∃ t, exec c s = .next t ∧ t.pending = s.pending

/-- From every state in which the silent-alarm output equals the duress latch and the local-alarm output the lockdown
latch, every step leaves a state in which they do. (R150, R151) -/
def Obligations.OutputsFollowTheLatches : Prop :=
  ∀ (s t : State),
    s.outputsFollow →
    step s = .next t →
    t.outputsFollow

/-- From every state with at most 64 items and held places in the Report Queue, 4 frames in the receive buffer and 48
in the outgoing queue, every step leaves such a state. (R161, R176) -/
def Obligations.QueuesStayWithinTheirBounds : Prop :=
  ∀ (s t : State),
    s.queuesBounded →
    step s = .next t →
    t.queuesBounded

/-- From every state in which each order counter is at most 263, each reply counter at most 255, and only an ISOLATED
entry's order counter passes 255, every step leaves such a state. (R158, R160, R164) -/
def Obligations.ErrorCountersStayInRange : Prop :=
  ∀ (s t : State),
    s.countersInRange →
    step s = .next t →
    t.countersInRange

/-- From every state in which a lane with a transaction is BUSY or HELD, every dispense record and every session is
the open transaction of its lane, and no two records name one lane, every step leaves such a state. (R7, R8, R51, R94)
-/
def Obligations.TransactionsMatchTheirLanes : Prop :=
  ∀ (s t : State),
    s.transactionsMatch →
    step s = .next t →
    t.transactionsMatch

/-- From every state in which transactions match and the reserved count is the number of dispense records, sessions
and captures in progress, with the undrained records and reserved slots within 512, every step leaves the reserved
count and the ring so. (R171, R172) -/
def Obligations.OutcomeSlotsStayReserved : Prop :=
  ∀ (s t : State),
    s.transactionsMatch →
    s.outcomesReserved →
    step s = .next t →
    t.outcomesReserved

/-- From every state with at most one Tube Queue request for each lane, every step leaves such a state; and from every
state in which no two consoles hold one credential, every step leaves such a state. (R17, R18, R124) -/
def Obligations.RequestsAndBindingsStayUnique : Prop :=
  (∀ (s t : State),
    s.oneRequestPerLane →
    step s = .next t →
    t.oneRequestPerLane)
  ∧ (∀ (s t : State),
    s.bindingsDiffer →
    step s = .next t →
    t.bindingsDiffer)

/-- From every state in which each cassette keeps the equation of R91 unless a latch lifts it, and no tally is near
the end of its 32 bits, every step leaves the equation so. (R91, R79, R80, R81, R82, R84) -/
def Obligations.CassetteMovementsKeepTheEquation : Prop :=
  ∀ (s t : State),
    s.cashBalanced →
    s.talliesSmall →
    step s = .next t →
    t.cashBalanced

/-- State.reset meets the premises of every invariant stated here. (R16, R39, R71, R92, R110, R122, R138, R156, R169,
R170, R182) -/
def Obligations.ResetMeetsTheInvariants : Prop :=
  
    State.reset.outputsFollow ∧ State.reset.queuesBounded ∧ State.reset.countersInRange ∧ State.reset.transactionsMatch ∧
      State.reset.outcomesReserved ∧ State.reset.oneRequestPerLane ∧ State.reset.bindingsDiffer ∧ State.reset.cashBalanced
      ∧ State.reset.talliesSmall ∧ State.reset.soundTables = true

/-- After a hard reset, taken in any state, every Dispense Table record is free, the last issued id and pick tag are
0, the in-doubt lane set is empty and the present timeout is 45 s. (R71) -/
def Obligations.HardResetLeavesDispenseControlEmpty : Prop :=
  ∀ (s : State),
    ∃ t, exec (.hardReset) s = .next t
      ∧ (∀ i : DispenseSlot, t.dispense.records[i] = none)
      ∧ t.dispense.lastId = 0
      ∧ t.dispense.lastTag = 0
      ∧ t.dispense.inDoubtLanes = []
      ∧ t.dispense.setting.value = 45

/-- After a hard reset, taken in any state, Cash Position holds each value R92 lists: denominations, cassettes 1 to 6,
D and P with their shown state EMPTY, recycler, condition, work queue and authorisation. (R92) -/
def Obligations.HardResetLeavesCashPosition : Prop :=
  ∀ (s : State),
    ∃ t, exec (.hardReset) s = .next t
      ∧ (∀ i : DenomId, (t.cash.denominations[i]).value = 0 ∧ (t.cash.denominations[i]).check.faulted = false)
      ∧ (∀ c : CassetteId,
            isWork c = true → (t.cassette c).role = .dispenseOnly ∧ (t.cassette c).denom = none ∧ (t.cassette c).lowMark =
              0 ∧ (t.cassette c).fillLimit = 2500 ∧ (t.cassette c).lowArmed = false ∧ (t.cassette c).picked = 0 ∧
              (t.cassette c).rejected = 0 ∧ (t.cassette c).stacked = 0)
      ∧ (∀ c : CassetteId,
            (t.cassette c).count = 0 ∧ (t.cassette c).inbound = 0 ∧ (t.cassette c).out = false ∧
              (t.cassette c).unreconciled = false ∧ (t.cassette c).causes.loops = [] ∧ (t.cassette c).causes.fault = false
              ∧ (t.cassette c).causes.exchange = false ∧ (t.cassette c).reinserted = false ∧ (t.cassette c).base = 0 ∧
              (t.cassette c).check.faulted = false ∧ (t.cassette c).shown c = .empty)
      ∧ (t.cassette cassetteD).stacked = 0
      ∧ (t.cassette cassetteP).rejectedIn = 0
      ∧ (t.cassette cassetteP).retractedIn = 0
      ∧ t.cash.recycler = .ready
      ∧ t.cash.condition = .unknown
      ∧ t.cash.workQueue = []
      ∧ t.cash.exchange = none

/-- After a hard reset, taken in any state, the tables, records, latches, queues and settings of the other blocks hold
what their chapters give. (The move start time of a carrier and a loop's reading have no value in the spec and are not
stated, log 9.) That the commands waiting stay is the model's choice (log 39). (R4, R16, R39, R42, R110, R122, R138,
R156, R169, R170, R182) -/
def Obligations.HardResetLeavesTheOtherBlocks : Prop :=
  ∀ (s : State),
    ∃ t, exec (.hardReset) s = .next t
      ∧ (∀ (p : Profile) (l : Lane),
            t.lanes.copy p l = {
                isOpen := false
                singleLimit := 1
                dualThreshold := 999999
                duressCap := 0
                envelopeDrop := false
                transitLimit := 8000
                serving := Vector.replicate 4 false
                check := {} })
      ∧ t.lanes.writeSelect = .day
      ∧ t.lanes.operateSelect = .day
      ∧ (∀ l : Lane,
            t.laneRec l =
              { state := .closed, txn := none, holds := { node := true }, profile := .day, switchPending := false })
      ∧ (∀ c : Console, t.binding c = none)
      ∧ (∀ i : AuthId,
            t.authority i =
              { credential := 0, rights := {}, perDispense := 1, shiftLimit := 0, shiftTotal := 0, check := {} })
      ∧ (∀ l : Lane, t.screen.pairSlots[l] = none)
      ∧ t.screen.managementSlot = none
      ∧ (∀ c : Console, t.screen.rateWindows[c] = [])
      ∧ t.screen.setting = { pairWindow := 20, rateCount := 3, rateDuration := 60, check := {} }
      ∧ t.cash.planner = { value := 60 }
      ∧ (∀ l : Lane, t.session l = none)
      ∧ t.deposit.setting = { value := 30 }
      ∧ (∀ l : Lane, t.capture l = none)
      ∧ t.envelope.counter = 1
      ∧ t.envelope.count = 0
      ∧ t.envelope.setting = { value := 400 }
      ∧ t.envelope.safe = none
      ∧ t.depositoryWarn = false
      ∧ t.depositoryFull = false
      ∧ (∀ l : Lane,
            (t.carrier l).location = .unknown ∧ (t.carrier l).cause = some .start ∧ (t.carrier l).seated = false ∧
              (t.carrier l).bound = none ∧ (t.carrier l).timer = none)
      ∧ t.tube.requests = []
      ∧ t.tube.blower = .idle
      ∧ t.tube.setting = { value := 300 }
      ∧ (∀ i : LoopId,
            (t.loop i).kind = .none ∧ (t.loop i).lane = 0 ∧ (t.loop i).qualify = 200 ∧ (t.loop i).armMode = .always ∧
              (t.loop i).response = .notify ∧ (t.loop i).check = {} ∧ (t.loop i).state = .disarmed ∧ (t.loop i).band =
              none ∧ (t.loop i).qualifyTimer = none ∧ (t.loop i).armTimer = none)
      ∧ t.alarm.duress = false
      ∧ t.alarm.lockdown = false
      ∧ t.alarm.silentOutput = false
      ∧ t.alarm.localOutput = false
      ∧ (∀ m : ModuleId,
            t.module m = {
                node := 0
                kind := .laneStation
                lane := 1
                orderErrors := 0
                replyErrors := 0
                health := .active
                mark96 := false
                mark128 := false
                mark256 := false
                check := {} })
      ∧ t.bus.outgoing = []
      ∧ t.bus.outstanding = none
      ∧ t.bus.ringPos = 0
      ∧ t.bus.restores = []
      ∧ t.bus.setting = { window := 10, quanta := 16, phase2 := 5, jump := 2, check := {} }
      ∧ t.journal = { ring := [], nextSeq := 1, reserved := 0, overrun := 0 }
      ∧ t.mgmt = { partState := .unconfigured, timeBase := 0, goPending := false, sticky := {} }
      ∧ t.link.reports = []
      ∧ t.link.rxBuffer = []
      ∧ t.link.rxPartial = []
      ∧ t.pending = s.pending

/-- Between frames, the bytes of an ORDER or MGMT frame laid out as chapter 12.2 gives, with its frame check, put
exactly that frame at the end of the receive buffer and change nothing else; while four frames wait, the frame is lost
and REPORT LOST is raised; and bytes that hold no start marker change nothing. (R183, R184, R185, R176) -/
def Obligations.ConsoleFrameIsReadBack : Prop :=
  (∀ (s : State) (f : ConsoleFrame),
    f.tag < 65536 →
    f.kind < 256 →
    f.body.length ≤ 1000 →
    s.link.rxPartial = [] →
    s.link.rxBuffer.length < 4 →
    exec (.consoleFrameReceived (consoleFrameBytes f)) s = .next
      ({ s with link := { s.link with rxBuffer := s.link.rxBuffer ++ [f] } }))
  ∧ (∀ (s : State) (f : ConsoleFrame),
    f.tag < 65536 →
    f.kind < 256 →
    f.body.length ≤ 1000 →
    s.link.rxPartial = [] →
    4 ≤ s.link.rxBuffer.length →
    exec (.consoleFrameReceived (consoleFrameBytes f)) s = .next
      ({ s with mgmt := { s.mgmt with sticky := { s.mgmt.sticky with reportLost := true } } }))
  ∧ (∀ (s : State) (bytes : List Byte),
    s.link.rxPartial = [] →
    (0xC3#8 : Byte) ∉ bytes →
    exec (.consoleFrameReceived bytes) s = .next (s))

/-- For every tag of two bytes, status byte and up to six items of single bytes, reading the body's bytes gives
exactly those fields. (R186, R187) -/
def Obligations.PickReportIsReadBack : Prop :=
  ∀ (r : PickReport),
    r.tag < 65536 →
    r.status < 256 →
    r.items.length ≤ 6 →
    (∀ i ∈ r.items, i.code < 256 ∧ i.picked < 256 ∧ i.rejected < 256) →
    readPickReport (pickReportBytes r) = some r

/-- When the first item has been sent it leaves the queue; what the line then holds is its frame with the attention
code of its station's view (the model's output, log 8). With no item waiting nothing changes. (R176, R177) -/
def Obligations.SentItemLeavesTheQueue : Prop :=
  (∀ (s : State) (i : Item) (rest : List Item),
    s.link.reports = i :: rest →
    exec (.reportQueueItemSent) s = .next
      ({ s with link := { s.link with reports := rest, consoleTx := i.bytes (s.attentionCode i.dest) } }))
  ∧ (∀ (s : State),
    s.link.reports = [] →
    exec (.reportQueueItemSent) s = .next (s))

/-- A discarded frame, a frame taken with no exchange outstanding, and one taken after the reply window has passed
leave the state as it was. (R160) -/
def Obligations.FramesOutsideAnExchangeChangeNothing : Prop :=
  (∀ (s : State) (bytes : List Byte),
    exec (.busFrameDiscarded bytes) s = .next (s))
  ∧ (∀ (s : State) (x : BusInput),
    s.bus.outstanding = none →
    exec (.wallBusReplyTaken x) s = .next (s))
  ∧ (∀ (s : State) (x : BusInput) (e : Exchange),
    s.bus.outstanding = some e →
    e.window.past s.now = true →
    exec (.wallBusReplyTaken x) s = .next (s))

/-- While the Report Queue holds 64 items, counting held places, every order's command leaves the state as it was: its
frame waits. (R176) -/
def Obligations.OrdersWaitWhileTheReportQueueIsFull : Prop :=
  ∀ (c : Instr) (k : OrderKind) (s : State),
    orderKind c = some k →
    64 ≤ s.link.used →
    exec c s = .next s

/-- For every management order, known or not, from a console, with a place in the Report Queue: the response NO RIGHT
is queued, its frame leaves the receive buffer, and nothing else changes. From a console, or from station 7, an order
refused for its form is answered BAD ORDER and nothing else changes, unless it is a DISPENSE body of six bytes (whose
lane's stored half may be broken, R32). (R24, R175) -/
def Obligations.OrdersOfWrongSenderOrFormAreRefused : Prop :=
  (∀ (c : Instr) (k : OrderKind) (h : Sender) (s : State),
    orderKind c = some k →
    k.isMgmt = true →
    c.sender = some h →
    h.station ≠ .supervisor →
    s.link.used < 64 →
    exec c s = .next { s with link := s.answeredWith h k .noRight .empty (orderForm c k) })
  ∧ (∀ (s : State) (h : Sender) (isMgmt : Bool) (kind : Nat) (body : List Byte),
    isMgmt = false ∨ h.station = .supervisor →
    isMgmt = true ∨ kind ≠ 3 ∨ body.length ≠ 6 →
    s.link.used < 64 →
    exec (.unknownOrderKind h isMgmt kind body) s = .next
      ({ s with link := s.answeredWith h (.unknown isMgmt kind) .badOrder .empty (fun b => b == body) }))

/-- Whenever the computation over a state's eligible list finds a plan, the plan's notes are worth exactly the amount,
are no more than the bundle limit, and come from distinct cassettes 1 to 6 that show SERVING or LOW, each at least one
note and no more than it counts. (R41, R43, R44, R45) -/
def Obligations.MixPlanIsExact : Prop :=
  ∀ (s : State) (except : List CassetteId) (amount bundle : Nat) (plan : List PlanItem),
    mixOf (s.eligibleList except) amount bundle = .plan plan →
    (plan.map fun i => i.count * s.valueOf i.cassette).sum = amount ∧ (plan.map PlanItem.count).sum ≤ bundle ∧
      (plan.map PlanItem.cassette).Nodup ∧ ∀ i ∈ plan, isWork i.cassette = true ∧
      ((s.cassette i.cassette).shown i.cassette).pays = true ∧ 1 ≤ i.count ∧ i.count ≤ (s.cassette i.cassette).count ∧
      i.cassette ∉ except

/-- At an admission with a free record and fewer than 48 frames on the outgoing queue (with 48 the PICK finds no place
and the dispense may end in the same event, R161): the id given is the first of the ids after the last issued one, 255
followed by 1, that no occupied record holds; it is 1 to 255, becomes the last issued id, and stands in a record that
was free. (R52) -/
def Obligations.AdmissionIssuesTheNextFreeId : Prop :=
  ∀ (s : State) (l : Lane) (p : Payer) (amount : Nat) (plan : List PlanItem),
    (∃ i : DispenseSlot, s.dispense.records[i] = none) →
    s.bus.outgoing.length < 48 →
    ∃ k : Nat, k ≤ 8 ∧
      (∀ j < k, ∃ i : DispenseSlot, ∃ r, s.dispense.records[i] = some r ∧ r.id = (s.dispense.lastId + j) % 255 + 1) ∧
      (∀ i : DispenseSlot, ∀ r, s.dispense.records[i] = some r → r.id ≠ (s.dispense.lastId + k) % 255 + 1) ∧ 1 ≤
      (s.dispense.lastId + k) % 255 + 1 ∧ (s.dispense.lastId + k) % 255 + 1 ≤ 255 ∧ (s.admitDispense l p amount plan).body
      = .dispenseId ((s.dispense.lastId + k) % 255 + 1) ∧ (s.admitDispense l p amount plan).state.dispense.lastId =
      (s.dispense.lastId + k) % 255 + 1 ∧ ∃ i : DispenseSlot, s.dispense.records[i] = none ∧
      ((s.admitDispense l p amount plan).state.dispense.records[i]).any fun r => decide
      (r.id = (s.dispense.lastId + k) % 255 + 1)

/-- The console view of the attention set, its code, the attention line and the console's wall condition are the same
whatever the duress latch holds; and the bodies of the DISPENSE and DEPOSIT reports a console gets are the same
whatever the flags. (Other answers may depend on the latch: R27 refuses an amount above the duress cap.) That a
console's DEPOSIT report carries none of the other flags either, VALUE UNKNOWN, DEFAULT STACK and END UNCONFIRMED, is
the model's choice (DESIGN CHOICE, log 58); the views are computed from the state (log 41). (R53, R109, R152, R153,
R177) -/
def Obligations.DuressIsHiddenFromConsoles : Prop :=
  (∀ (s : State) (b : Bool),
    { s with alarm := { s.alarm with duress := b } }.attentionConsole = s.attentionConsole ∧
      { s with alarm := { s.alarm with duress := b } }.attentionLine = s.attentionLine ∧
      { s with alarm := { s.alarm with duress := b } }.consoleCondition = s.consoleCondition)
  ∧ (∀ (r : DispenseRecord) (f : DispenseFlags) (e : DispenseEvent) (code : Option Code),
    { r with flags := f }.report e code false = r.report e code false)
  ∧ (∀ (x : Session) (f : SessionFlags) (l : Lane) (e : DepositEvent) (code : Option Code),
    { x with flags := f }.report l e code false = x.report l e code false)

/-- From a console that is signed off, with a credential the table holds and no console has, SIGN ON binds the
credential and the index matched, writes one SIGN ON record and is answered DONE, and nothing else changes. From a
signed-on console with no bundle in the tray and no half stored, SIGN OFF clears the binding, turns the reports of
that console's dispenses and sessions to station 7, writes one SIGN OFF record and is answered DONE. Where the console
has a first half stored for a lane, SIGN OFF does the same and also empties that slot, with a PAIR BROKEN record
before its SIGN OFF record and a BROKEN PAIR report of the stored tag to the console with a copy to station 7. The
record carries the half's station, credential, index and amount (DESIGN CHOICE, log 65); a report to a console stands
before its copy (DESIGN CHOICE, log 31). (R17, R18, R19, R24, R32) -/
def Obligations.SignOnAndSignOffBindAndFree : Prop :=
  (∀ (s : State) (h : Sender) (c : Console) (credential : Nat) (i : AuthId),
    h.station = .console c →
    s.link.used < 64 →
    s.soundTables = true →
    s.mgmt.partState ≠ .unconfigured →
    1 ≤ credential ∧ credential ≤ 65535 →
    s.binding c = none →
    s.lookUp credential = some i →
    (∀ d : Console, (s.binding d).map Binding.credential ≠ some credential) →
    ∃ t, exec (.signOn h credential) s = .next t
      ∧ t = { s.logged t with screen := { s.screen with consoles := s.screen.consoles.set c (some ⟨credential, i⟩) } }
      ∧ Told s t h .signOn .done .empty []
          [s.stamped { kind := .signOn, station := numberOf c, credential := credential, authIndex := numberOf i }])
  ∧ (∀ (s : State) (h : Sender) (c : Console) (b : Binding),
    h.station = .console c →
    s.link.used < 64 →
    s.binding c = some b →
    s.dispenses.any (fun r => r.station == c && r.state == .presented) = false →
    (∀ l : Lane, (s.screen.pairSlots[l]).any (fun p => p.station == c) = false) →
    ∃ t, exec (.signOff h) s = .next t
      ∧ t = { s.logged t with
            screen := { s.screen with consoles := s.screen.consoles.set c none }
            dispense := { s.dispense with
                records := s.dispense.records.map fun r => r.map fun r => if r.station = c then
                  { r with reportStation := .supervisor } else r }
            deposit := { s.deposit with
                slots := s.deposit.slots.map fun x => x.map fun x => if x.station = c then
                  { x with reportStation := .supervisor } else x } }
      ∧ Told s t h .signOff .done .empty [] [s.stamped
              { kind := .signOff, station := numberOf c, credential := b.credential, authIndex := numberOf b.index }])
  ∧ (∀ (s : State) (h : Sender) (c : Console) (b : Binding) (l : Lane) (p : PairHalf),
    h.station = .console c →
    s.link.used < 64 →
    s.binding c = some b →
    s.dispenses.any (fun r => r.station == c && r.state == .presented) = false →
    s.screen.pairSlots[l] = some p →
    p.station = c →
    (∀ k : Lane, k ≠ l → (s.screen.pairSlots[k]).any (fun q => q.station == c) = false) →
    ∃ t, exec (.signOff h) s = .next t
      ∧ t = { s.logged t with
            screen :=
              { s.screen with consoles := s.screen.consoles.set c none, pairSlots := s.screen.pairSlots.set l none }
            dispense := { s.dispense with
                records := s.dispense.records.map fun r => r.map fun r => if r.station = c then
                  { r with reportStation := .supervisor } else r }
            deposit := { s.deposit with
                slots := s.deposit.slots.map fun x => x.map fun x => if x.station = c then
                  { x with reportStation := .supervisor } else x } }
      ∧ Told s t h .signOff .done .empty (brokenReports p) [s.stamped (brokenEntry p l),
            s.stamped
              { kind := .signOff, station := numberOf c, credential := b.credential, authIndex := numberOf b.index }])

/-- With every screening step and own check passed and fewer than 48 frames on the outgoing queue, DISPENSE SINGLE is
answered ACCEPTED with the dispense id; its record takes a free place, the shift total is charged, the Rate Window
gains the time, one outcome slot is reserved and the lane is BUSY with the dispense; the cassettes, deposits,
envelopes, tubes, loops, modules, consoles and stored halves are as they were. (R25, R26, R27, R38, R47, R52, R172) -/
def Obligations.SingleDispenseIsAdmitted : Prop :=
  ∀ (s : State) (h : Sender) (c : Console) (b : Binding) (lane amount : Nat) (l : Lane) (plan : List PlanItem),
    s.soundTables = true →
    s.entitled h c b Rights.dispense →
    numbered 6 lane = some l →
    s.laneReady c l →
    s.screen.pairSlots[l] = none →
    s.withinLimits l c b.index amount →
    amount < (s.policy l).dualThreshold ∨ (s.policy l).dualThreshold = 999999 →
    s.roomToPay amount plan →
    ∃ t, exec (.dispenseSingle h lane amount) s = .next t
      ∧ Answered t h .dispense .accepted (.dispenseId s.nextId)
      ∧ Admitted s t l c b.index amount plan
      ∧ t.screen.pairSlots = s.screen.pairSlots
      ∧ t.screen.managementSlot = s.screen.managementSlot

/-- On an IDLE lane with no half stored, DISPENSE FIRST of an amount at or above the dual threshold is stored with its
station, credential, index, tag, arrival time and pair window, one PAIR FIRST record is written, the answer is PAIR
WAIT, and nothing else changes. With a half of another console and credential stored for the amount, in time, every
check passed for the stored half and fewer than 48 frames on the outgoing queue, DISPENSE SECOND is answered ACCEPTED
with the id; the admission is the stored console's, on its entry and Rate Window, and the slot is empty. That the PAIR
FIRST record carries the half's lane, station, credential and index, and its amount as the value, is the model's
choice (DESIGN CHOICE, log 75): R30 names the kind alone. (R27, R29, R30, R31, R47, R52) -/
def Obligations.PairedDispenseIsStoredThenAdmitted : Prop :=
  (∀ (s : State) (h : Sender) (c : Console) (b : Binding) (lane amount : Nat) (l : Lane),
    s.soundTables = true →
    s.entitled h c b Rights.dispense →
    numbered 6 lane = some l →
    s.laneReady c l →
    s.screen.pairSlots[l] = none →
    1 ≤ amount ∧ amount ≤ 999999 →
    (s.policy l).dualThreshold ≤ amount ∧ (s.policy l).dualThreshold < 999999 →
    ∃ t, exec (.dispenseFirst h lane amount) s = .next t
      ∧ t = { s.logged t with
            screen := { s.screen with
                pairSlots := s.screen.pairSlots.set l
                  (some ⟨c, b.credential, b.index, amount, h.tag, s.now, s.screen.setting.pairWindow⟩) } }
      ∧ Told s t h .dispense .pairWait .empty [] [s.stamped {
                kind := .pairFirst
                lane := numberOf l
                station := numberOf c
                credential := b.credential
                authIndex := numberOf b.index
                value := amount
                facts := [.tag h.tag] }] (spellsDispense lane 1 amount))
  ∧ (∀ (s : State) (h : Sender) (c : Console) (b : Binding) (lane amount : Nat) (l : Lane) (p : PairHalf) (plan : List PlanItem),
    s.soundTables = true →
    s.entitled h c b Rights.second →
    numbered 6 lane = some l →
    s.laneReady c l →
    s.screen.pairSlots[l] = some p →
    c ≠ p.station →
    b.credential ≠ p.credential →
    amount = p.amount →
    p.timer.past s.now = false →
    (s.authority p.index).credential = p.credential →
    (s.authority p.index).rights.dispense = true →
    s.withinLimits l p.station p.index amount →
    s.roomToPay amount plan →
    ∃ t, exec (.dispenseSecond h lane amount) s = .next t
      ∧ Answered t h .dispense .accepted (.dispenseId s.nextId)
      ∧ Admitted s t l p.station p.index amount plan
      ∧ t.screen.pairSlots = s.screen.pairSlots.set l none
      ∧ t.screen.managementSlot = s.screen.managementSlot)

/-- From station 7, CANCEL DISPENSE of a dispense that is QUEUED is answered DONE: its record is free, the shift total
of its entry falls by its charge (stopping at 0), its reserved slot is used, its lane has no transaction, and its PICK
is off the work queue. An entry that was FAULTED or cleared meanwhile and holds the credential again counts as one
that still holds it (DESIGN CHOICE, log 66). (R49, R65, R68) -/
def Obligations.QueuedDispenseIsCancelled : Prop :=
  ∀ (s : State) (h : Sender) (lane id : Nat) (l : Lane) (i : DispenseSlot) (r : DispenseRecord),
    s.soundTables = true →
    s.supervised h →
    s.mgmt.partState ≠ .unconfigured →
    numbered 6 lane = some l →
    s.screen.pairSlots[l] = none →
    s.findDispense (fun r => r.id == id && r.lane == l) = some i →
    s.dispense.records[i] = some r →
    r.state = .queued →
    (s.authority r.index).credential = r.credential →
    s.bus.outgoing.length < 48 →
    ∃ t, exec (.cancelDispense h lane id) s = .next t
      ∧ Answered t h .cancelDispense .done .empty
      ∧ t.dispense.records[i] = none
      ∧ (t.authority r.index).shiftTotal = (s.authority r.index).shiftTotal - r.charge
      ∧ (t.laneRec l).txn = none
      ∧ t.cash.workQueue.any (fun e => e.isPickOf id) = false
      ∧ t.journal.reserved = s.journal.reserved - 1
      ∧ t.cash.cassettes = s.cash.cassettes
      ∧ t.deposit = s.deposit
      ∧ t.envelope = s.envelope
      ∧ t.tube = s.tube
      ∧ t.alarm = s.alarm
      ∧ t.screen.consoles = s.screen.consoles
      ∧ t.bus.modules = s.bus.modules

/-- With every check passed and fewer than 48 frames on the outgoing queue, OPEN DEPOSIT is answered ACCEPTED with the
slot number; the lane's slot holds a QUEUED session of the console, one outcome slot is reserved and the lane is BUSY
with the deposit. From station 7, with a place on the outgoing queue, CLOSE DEPOSIT of an ACTIVE session is answered
ACCEPTED: the session is ENDING with cause CLOSE, its end timer of 30 s runs and its idle timer does not, ACCEPT END
is placed, the DEPOSIT report goes to its report station with a copy to station 7, and nothing else changes. A
console's report carries no flags (DESIGN CHOICE, log 58). The new session's last-note time is 0, for which the spec
gives no value (DESIGN CHOICE, log 9). A report to a console stands before its copy to station 7 (DESIGN CHOICE, log
31). (R25, R26, R94, R96, R104, R105, R109, R172) -/
def Obligations.DepositIsOpenedAndClosed : Prop :=
  (∀ (s : State) (h : Sender) (c : Console) (b : Binding) (lane : Nat) (l : Lane),
    s.soundTables = true →
    s.entitled h c b Rights.deposit →
    numbered 6 lane = some l →
    s.laneReady c l →
    s.screen.pairSlots[l] = none →
    s.cash.recycler ≠ .faulted →
    s.entryPoor s.recyclerEntry = false →
    s.cash.workQueue.length < 8 →
    s.bus.outgoing.length < 48 →
    ∃ t, exec (.openDeposit h lane) s = .next t
      ∧ Answered t h .openDeposit .accepted (.slot (numberOf l))
      ∧ t.deposit = { s.deposit with
            slots := s.deposit.slots.set l (some {
                    station := c
                    reportStation := .console c
                    credential := b.credential
                    index := b.index
                    tag := h.tag
                    state := .queued
                    flags := { duress := s.alarm.duress } }) }
      ∧ t.lanes =
          { s.lanes with records := s.lanes.records.set l { s.laneRec l with state := .busy, txn := some .deposit } }
      ∧ t.journal.reserved = s.journal.reserved + 1
      ∧ t.screen = s.screen
      ∧ t.cash.cassettes = s.cash.cassettes
      ∧ t.envelope = s.envelope
      ∧ t.tube = s.tube
      ∧ t.alarm = s.alarm
      ∧ t.bus.modules = s.bus.modules)
  ∧ (∀ (s : State) (h : Sender) (lane : Nat) (l : Lane) (x : Session) (m : ModuleId),
    s.supervised h →
    s.mgmt.partState ≠ .unconfigured →
    numbered 6 lane = some l →
    s.screen.pairSlots[l] = none →
    s.session l = some x →
    x.state = .active →
    s.recyclerEntry = some m →
    s.bus.outgoing.length < 48 →
    s.cash.recycler = .busy →
    ∃ t, exec (.closeDeposit h lane) s = .next t
      ∧ t = { s.logged t with
            deposit := { s.deposit with slots := s.deposit.slots.set l (some (s.endingSession x .close)) }
            bus := { s.bus with outgoing := s.bus.outgoing ++ [s.orderTo m .deposit (.acceptEnd l)] } }
      ∧ Told s t h .closeDeposit .accepted .empty (copied x.reportStation x.tag
              ((s.endingSession x .close).report l (.ending .close) none false)
              ((s.endingSession x .close).report l (.ending .close) none true)) [])

/-- With the carrier seated at the end it is to leave, no request for the lane and the blower not IDLE, SEND CARRIER
and RECALL CARRIER are answered ACCEPTED, the request joins the Tube Queue and a CARRIER report goes to the serving
consoles with a copy to station 7. A SEND CARRIER on a lane whose open dispense is TAKEN binds it to the carrier, and
it is IN TRANSIT. With the blower IDLE, no other request and a place on the outgoing queue, the request of either
order (for a SEND CARRIER that binds no dispense) is granted in the same event: the carrier is OUTBOUND or INBOUND
with its transit timer, the blower MOVING, and BLOWER MOVE is placed. A poll reply's SEND PRESSED of a lane station
(its lane by its Module Table entry, log 23) queues a TO TELLER request of the customer likewise. The CARRIER report
goes to the serving set as stored (log 15), in console order and then to station 7 (log 31). The tag 0 of its reports
is the model's choice (DESIGN CHOICE, log 79).  (R24, R67, R123, R124, R125, R126, R127, R129, R130) -/
def Obligations.CarrierOrdersQueueARequest : Prop :=
  (∀ (s : State) (h : Sender) (c : Console) (b : Binding) (lane : Nat) (l : Lane),
    s.soundTables = true →
    s.entitled h c b Rights.tube →
    s.mgmt.partState ≠ .unconfigured →
    numbered 6 lane = some l →
    (s.policy l).serving[c] = true →
    (s.laneRec l).state ≠ .closed →
    ((s.laneRec l).state = .held → (s.laneRec l).txn.isSome = true) →
    s.alarm.lockdown = false →
    s.screen.pairSlots[l] = none →
    s.requestOf l = none →
    (s.carrier l).location = .teller ∧ (s.carrier l).seated = true →
    s.blowerUsable = true →
    s.entryReachable (s.stationEntry l) = true →
    s.toBind l = none →
    s.tube.blower ≠ .idle →
    ∃ t, exec (.sendCarrier h lane) s = .next t
      ∧ t = { s.logged t with
            tube := { s.tube with requests := s.tube.requests ++ [⟨l, .toLane, .station (.console c), s.now⟩] } }
      ∧ Told s t h .sendCarrier .accepted .empty
          (s.toServing l (carrierReportOf l (s.carrier l) .queued none) (carrierReportOf l (s.carrier l) .queued none)) [])
  ∧ (∀ (s : State) (h : Sender) (c : Console) (b : Binding) (lane : Nat) (l : Lane) (id : Nat),
    s.soundTables = true →
    s.entitled h c b Rights.tube →
    s.mgmt.partState ≠ .unconfigured →
    numbered 6 lane = some l →
    (s.policy l).serving[c] = true →
    (s.laneRec l).state ≠ .closed →
    s.alarm.lockdown = false →
    s.screen.pairSlots[l] = none →
    s.requestOf l = none →
    (s.carrier l).location = .teller ∧ (s.carrier l).seated = true →
    s.blowerUsable = true →
    s.entryReachable (s.stationEntry l) = true →
    s.toBind l = some id →
    s.tube.blower ≠ .idle →
    ∃ t, exec (.sendCarrier h lane) s = .next t
      ∧ Answered t h .sendCarrier .accepted .empty
      ∧ t.tube = { s.tube with
            requests := s.tube.requests ++ [⟨l, .toLane, .station (.console c), s.now⟩]
            carriers := s.tube.carriers.set l { s.carrier l with bound := some id } }
      ∧ (s.dispenseOf id).any (fun i => (t.dispense.records[i]).any fun r => decide (r.id = id ∧ r.state = .inTransit)) =
          true
      ∧ t.lanes = s.lanes
      ∧ t.screen = s.screen
      ∧ t.cash = s.cash
      ∧ t.deposit = s.deposit
      ∧ t.envelope = s.envelope
      ∧ t.alarm = s.alarm
      ∧ t.bus = s.bus)
  ∧ (∀ (s : State) (h : Sender) (lane : Nat) (l : Lane),
    s.supervised h →
    s.mgmt.partState ≠ .unconfigured →
    numbered 6 lane = some l →
    s.screen.pairSlots[l] = none →
    s.requestOf l = none →
    (s.carrier l).location = .lane ∧ (s.carrier l).seated = true →
    s.blowerUsable = true →
    s.tube.blower ≠ .idle →
    ∃ t, exec (.recallCarrier h lane) s = .next t
      ∧ t = { s.logged t with
            tube := { s.tube with requests := s.tube.requests ++ [⟨l, .toTeller, .station .supervisor, s.now⟩] } }
      ∧ Told s t h .recallCarrier .accepted .empty
          (s.toServing l (carrierReportOf l (s.carrier l) .queued none) (carrierReportOf l (s.carrier l) .queued none)) [])
  ∧ (∀ (s : State) (h : Sender) (c : Console) (b : Binding) (lane : Nat) (l : Lane) (m : ModuleId),
    s.soundTables = true →
    s.entitled h c b Rights.tube →
    s.mgmt.partState ≠ .unconfigured →
    numbered 6 lane = some l →
    (s.policy l).serving[c] = true →
    (s.laneRec l).state ≠ .closed →
    ((s.laneRec l).state = .held → (s.laneRec l).txn.isSome = true) →
    s.alarm.lockdown = false →
    s.screen.pairSlots[l] = none →
    s.tube.requests = [] →
    (s.carrier l).location = .teller ∧ (s.carrier l).seated = true →
    s.entryReachable (s.stationEntry l) = true →
    s.toBind l = none →
    s.tube.blower = .idle →
    s.blowerEntry = some m →
    (s.module m).health.good = true →
    s.bus.outgoing.length < 48 →
    ∃ t, exec (.sendCarrier h lane) s = .next t
      ∧ Answered t h .sendCarrier .accepted .empty
      ∧ t = { s.logged t with
            tube := { s.tube with
                carriers := s.tube.carriers.set l { s.carrier l with
                    location := .outbound
                    seated := false
                    moveStart := s.now
                    timer := if (s.policy l).transitLimit = 0 then none else some ⟨s.now, (s.policy l).transitLimit⟩ }
                blower := .moving l }
            bus := { s.bus with outgoing := s.bus.outgoing ++ [s.orderTo m .tube (.blowerMove l .toLane)] } })
  ∧ (∀ (s : State) (h : Sender) (lane : Nat) (l : Lane) (m : ModuleId),
    s.soundTables = true →
    s.supervised h →
    s.mgmt.partState ≠ .unconfigured →
    numbered 6 lane = some l →
    s.screen.pairSlots[l] = none →
    s.tube.requests = [] →
    (s.carrier l).location = .lane ∧ (s.carrier l).seated = true →
    s.tube.blower = .idle →
    s.blowerEntry = some m →
    (s.module m).health.good = true →
    s.bus.outgoing.length < 48 →
    ∃ t, exec (.recallCarrier h lane) s = .next t
      ∧ Answered t h .recallCarrier .accepted .empty
      ∧ t = { s.logged t with
            tube := { s.tube with
                carriers := s.tube.carriers.set l { s.carrier l with
                    location := .inbound
                    seated := false
                    moveStart := s.now
                    timer := if (s.policy l).transitLimit = 0 then none else some ⟨s.now, (s.policy l).transitLimit⟩ }
                blower := .moving l }
            bus := { s.bus with outgoing := s.bus.outgoing ++ [s.orderTo m .tube (.blowerMove l .toTeller)] } })
  ∧ (∀ (s : State) (x : Exchange) (m : ModuleId) (r : BusReply) (cond : Nat) (l k : Lane),
    s.polled x m r cond [.sendPressed k] →
    (s.module m).kind = .laneStation →
    (s.module m).lane = numberOf l →
    s.requestOf l = none →
    (s.carrier l).location = .lane ∧ (s.carrier l).seated = true →
    s.blowerUsable = true →
    s.tube.blower ≠ .idle →
    ∃ t, exec (.wallBusReplyTaken (.fields r)) s = .next t
      ∧ t = { s.logged t with
            tube := { s.tube with requests := s.tube.requests ++ [⟨l, .toTeller, .customer, s.now⟩] }
            bus := s.afterPoll m }
      ∧ Noted s t
          (s.toServing l (carrierReportOf l (s.carrier l) .queued none) (carrierReportOf l (s.carrier l) .queued none)) [])

/-- On a lane with no half stored: OPEN LANE of a CLOSED lane whose copy in force is open and which has a station
makes it HELD if it holds a reason and IDLE otherwise; CLOSE LANE of a lane without a transaction makes it CLOSED;
RELEASE LANE removes every latched reason, settles the lane, and with CASH takes it from the in-doubt set. Each is
answered DONE behind one LANE STATE report to the serving consoles with a copy to station 7, writes one record, and
changes nothing else. Any order but a DISPENSE SECOND that names a lane with a half stored, from whatever station,
with whatever operands and whatever its own result, empties the slot (a DISPENSE FIRST may then store its own half),
writes a PAIR BROKEN record before its other records where the journal has room, and queues a BROKEN PAIR report of
the stored tag to the stored station with a copy to station 7 before its other reports where the queue has room; one
that is refused NOT READY changes nothing else. That LANE OPEN, LANE CLOSE and RELEASE fill the lane is the model's
choice (DESIGN CHOICE, log 90). The tag 0 of its LANE STATE reports is the model's choice (DESIGN CHOICE, log 79). A
PAIR BROKEN record carries the stored half's station, credential, index and amount (DESIGN CHOICE, log 65). The LANE
STATE reports go to the serving consoles in console order, then to station 7 (log 31). (R7, R11, R12, R13, R14, R15,
R32, R69) -/
def Obligations.LaneOrdersChangeTheLane : Prop :=
  (∀ (s : State) (h : Sender) (lane : Nat) (l : Lane),
    s.soundTables = true →
    s.supervised h →
    s.mgmt.partState = .inService →
    numbered 6 lane = some l →
    s.screen.pairSlots[l] = none →
    (s.laneRec l).state = .closed →
    (s.laneRec l).txn = none →
    (s.policy l).isOpen = true →
    (s.stationEntry l).isSome = true →
    ∃ t, exec (.openLane h lane) s = .next t
      ∧ t = { s.logged t with
            lanes := { s.lanes with
                records := s.lanes.records.set l
                  { s.laneRec l with state := if (s.laneRec l).holds.any then .held else .idle } } }
      ∧ Told s t h .openLane .done .empty (s.toServing l
              (laneReportOf l { s.laneRec l with state := if (s.laneRec l).holds.any then .held else .idle })
              (laneReportOf l { s.laneRec l with state := if (s.laneRec l).holds.any then .held else .idle }))
          [s.stamped { kind := .laneOpen, station := 7, lane := numberOf l }])
  ∧ (∀ (s : State) (h : Sender) (lane : Nat) (l : Lane),
    s.soundTables = true →
    s.supervised h →
    s.mgmt.partState ≠ .unconfigured →
    numbered 6 lane = some l →
    s.screen.pairSlots[l] = none →
    (s.laneRec l).state ≠ .closed →
    (s.laneRec l).txn = none →
    ∃ t, exec (.closeLane h lane) s = .next t
      ∧ t = { s.logged t with
            lanes := { s.lanes with records := s.lanes.records.set l { s.laneRec l with state := .closed } } }
      ∧ Told s t h .closeLane .done .empty (s.toServing l (laneReportOf l { s.laneRec l with state := .closed })
              (laneReportOf l { s.laneRec l with state := .closed }))
          [s.stamped { kind := .laneClose, station := 7, lane := numberOf l }])
  ∧ (∀ (s : State) (h : Sender) (lane : Nat) (l : Lane),
    s.soundTables = true →
    s.supervised h →
    s.mgmt.partState ≠ .unconfigured →
    numbered 6 lane = some l →
    s.screen.pairSlots[l] = none →
    (s.laneRec l).holds.latched = true →
    ((s.laneRec l).holds.loop = true → s.laneLoopsClear l = true) →
    ((s.laneRec l).holds.carrier = true → (s.carrier l).location ≠ .unknown) →
    ∃ t, exec (.releaseLane h lane) s = .next t
      ∧ t = { s.logged t with
            lanes := { s.lanes with records := s.lanes.records.set l (s.released l) }
            dispense := if (s.laneRec l).holds.cash then
              { s.dispense with inDoubtLanes := s.dispense.inDoubtLanes.filter (· ≠ l) } else s.dispense }
      ∧ Told s t h .releaseLane .done .empty
          (s.toServing l (laneReportOf l (s.released l)) (laneReportOf l (s.released l))) [s.stamped {
                kind := .release
                station := 7
                lane := numberOf l
                facts := [.reasons { (s.laneRec l).holds with node := false }] }])
  ∧ (∀ (s : State) (h : Sender) (c : Console) (lane id : Nat) (l : Lane) (p : PairHalf) (order : Instr × OrderKind),
    h.station = .console c →
    s.link.used < 64 →
    s.mgmt.partState = .unconfigured →
    numbered 6 lane = some l →
    s.screen.pairSlots[l] = some p →
    order ∈ laneOrders h lane id →
    ∃ t, exec (order.1) s = .next t
      ∧ t = { s.logged t with screen := { s.screen with pairSlots := s.screen.pairSlots.set l none } }
      ∧ Told s t h order.2 .notReady .empty (brokenReports p) [s.stamped (brokenEntry p l)])
  ∧ (∀ (s : State) (h : Sender) (lane amount id : Nat) (l : Lane) (p : PairHalf) (cmd : Instr),
    s.link.used < 64 →
    numbered 6 lane = some l →
    s.screen.pairSlots[l] = some p →
    cmd ∈ .dispenseSingle h lane amount :: (laneOrders h lane id).map Prod.fst →
    ∃ t, exec (cmd) s = .next t
      ∧ t.screen.pairSlots[l] = none
      ∧ (s.journal.reserved < s.journal.free → s.journal.ring ++ [⟨s.journal.nextSeq, s.now, s.stamped (brokenEntry p l)⟩]
              <+: t.journal.ring)
      ∧ (s.link.used + 2 < 64 → s.link.reports ++ brokenReports p <+: t.link.reports))
  ∧ (∀ (s : State) (h : Sender) (lane amount : Nat) (l : Lane) (p : PairHalf),
    s.link.used < 64 →
    numbered 6 lane = some l →
    s.screen.pairSlots[l] = some p →
    ∃ t, exec (.dispenseFirst h lane amount) s = .next t
      ∧ (∀ q ∈ t.screen.pairSlots[l], q.arrival = s.now ∧ q.tag = h.tag ∧ q.amount = amount)
      ∧ (s.journal.reserved < s.journal.free → s.journal.ring ++ [⟨s.journal.nextSeq, s.now, s.stamped (brokenEntry p l)⟩]
              <+: t.journal.ring)
      ∧ (s.link.used + 2 < 64 → s.link.reports ++ brokenReports p <+: t.link.reports))

/-- With the half stored, in time, and the right held: CONFIRM of EXCHANGE CASSETTE opens the Exchange Authorisation
for 300 s and the cassette's causes gain EXCHANGE; CONFIRM of EMPTY DEPOSITORY puts the Safe Opening Authorisation in
WAITING for 300 s; CONFIRM of CLEAR CONDITION LOCKDOWN clears the lockdown latch and the local-alarm output and sends
UNLOCK BAYS. Each empties the slot, writes PAIR COMPLETE and the operation's own record, both with the confirming
console, credential and index (R17, R20), reports PAIR COMPLETE with DONE to station 7, is answered DONE, and changes
nothing else. The tag 0 of its reports is the model's choice (DESIGN CHOICE, log 79). A SAFE OPEN record carries the
depository count as its note count (DESIGN CHOICE, log 62). The WALL CONDITION reports go to station 7, then to the
signed-on consoles in console order, before PAIR COMPLETE (log 31). PAIR COMPLETE has station 7 (DESIGN CHOICE, log
11) and the half's tag as facts, EXCHANGE OPEN names its cassette and CONDITION CLEAR the condition (DESIGN CHOICE,
log 75). (R17, R20, R34, R36, R77, R83, R90, R120, R155) -/
def Obligations.ConfirmedOperationsAreCarriedOut : Prop :=
  (∀ (s : State) (h : Sender) (c : Console) (b : Binding) (half : MgmtHalf) (cassette : Nat) (k : CassetteId),
    s.soundTables = true →
    numbered 8 cassette = some k →
    s.confirmable h c b Rights.cashAdmin (.exchangeCassette k) half →
    s.alarm.lockdown = false →
    s.cash.exchange = none →
    (s.cassette k).out = false →
    s.workInFlight k = false →
    ∃ t, exec (.confirmExchangeCassette h cassette) s = .next t
      ∧ t = { s.logged t with
            screen := s.slotEmptied
            cash := { s.cash with
                exchange := some ⟨k, ⟨s.now, 300000⟩⟩
                cassettes := s.cash.cassettes.set k
                  { s.cassette k with causes := { (s.cassette k).causes with exchange := true } } } }
      ∧ Told s t h .confirm .done .empty (s.shownChange t k ++ confirmReport half .done) [s.stamped
              (confirmEntry c b half),
            s.stamped {
                kind := .exchangeOpen
                station := numberOf c
                credential := b.credential
                authIndex := numberOf b.index
                facts := [.cassette k] }])
  ∧ (∀ (s : State) (h : Sender) (c : Console) (b : Binding) (half : MgmtHalf),
    s.soundTables = true →
    s.confirmable h c b Rights.cashAdmin .emptyDepository half →
    s.alarm.lockdown = false →
    s.envelope.safe = none →
    s.inProgress = 0 →
    ∃ t, exec (.confirmEmptyDepository h) s = .next t
      ∧ t = { s.logged t with
            screen := s.slotEmptied
            envelope := { s.envelope with safe := some (.waiting ⟨s.now, 300000⟩) } }
      ∧ Told s t h .confirm .done .empty (confirmReport half .done) [s.stamped (confirmEntry c b half),
            s.stamped {
                kind := .safeOpen
                station := numberOf c
                credential := b.credential
                authIndex := numberOf b.index
                noteCount := s.envelope.count }])
  ∧ (∀ (s : State) (h : Sender) (c : Console) (b : Binding) (half : MgmtHalf) (m : ModuleId),
    s.soundTables = true →
    s.confirmable h c b Rights.clear .clearLockdown half →
    s.alarm.lockdown = true →
    (∀ i : LoopId, (s.loop i).applied .lockdown = false) →
    s.cash.workQueue = [] →
    s.tube.requests = [] →
    s.recyclerEntry = some m →
    s.bus.outgoing.length < 48 →
    ∃ t, exec (.confirmClearCondition h .lockdown) s = .next t
      ∧ t = { s.logged t with
            screen := s.slotEmptied
            alarm := { s.alarm with lockdown := false, localOutput := false }
            bus := { s.bus with outgoing := s.bus.outgoing ++ [s.orderTo m .cash .unlockBays] } }
      ∧ Told s t h .confirm .done .empty (to7 (.wallCondition t.condition (some (s.alarm.duress, false))) ++ s.toSignedOn
              (.wallCondition .normal none) ++ confirmReport half .done) [s.stamped (confirmEntry c b half),
            s.stamped {
                kind := .conditionClear
                station := numberOf c
                credential := b.credential
                authIndex := numberOf b.index
                facts := [.condition .lockdown] }])

/-- From station 7, WRITE ENTRY to the planner, presenter, deposit, tube, screening, bus and depository settings
stores each value clamped to its range (the bus setting in the order of R168, the depository capacity raised to what
is in use), with its check state OK, writes one TABLE WRITE record with the values given and stored, is answered DONE,
and changes nothing else. The tag 0 of its reports is the model's choice (DESIGN CHOICE, log 79). A depository write
that changes WARN or FULL, or both, queues one DEPOSITORY report (DEDUCED, log 38). That a setting's TABLE WRITE
record carries the values given and stored where its rule does not say so is the model's choice (DESIGN CHOICE, log
83). (R28, R42, R60, R95, R112, R128, R160, R168, R175) -/
def Obligations.SettingsAreStoredWithinTheirRanges : Prop :=
  (∀ (s : State) (h : Sender) (n : Nat),
    s.supervised h →
    ∃ t, exec (.writeEntryPlanner h n) s = .next t
      ∧ t = { s.logged t with cash := { s.cash with planner := { value := clamp 1 100 n } } }
      ∧ Told s t h .writeEntry .done .empty []
          [s.stamped { kind := .tableWrite, facts := [.table .planner, .stored [n, clamp 1 100 n]] }])
  ∧ (∀ (s : State) (h : Sender) (n : Nat),
    s.supervised h →
    ∃ t, exec (.writeEntryPresenter h n) s = .next t
      ∧ t = { s.logged t with dispense := { s.dispense with setting := { value := clamp 10 120 n } } }
      ∧ Told s t h .writeEntry .done .empty []
          [s.stamped { kind := .tableWrite, facts := [.table .presenter, .stored [n, clamp 10 120 n]] }])
  ∧ (∀ (s : State) (h : Sender) (n : Nat),
    s.supervised h →
    ∃ t, exec (.writeEntryDeposit h n) s = .next t
      ∧ t = { s.logged t with deposit := { s.deposit with setting := { value := clamp 10 120 n } } }
      ∧ Told s t h .writeEntry .done .empty []
          [s.stamped { kind := .tableWrite, facts := [.table .deposit, .stored [n, clamp 10 120 n]] }])
  ∧ (∀ (s : State) (h : Sender) (n : Nat),
    s.supervised h →
    ∃ t, exec (.writeEntryTube h n) s = .next t
      ∧ t = { s.logged t with tube := { s.tube with setting := { value := min n 2000 } } }
      ∧ Told s t h .writeEntry .done .empty []
          [s.stamped { kind := .tableWrite, facts := [.table .tube, .stored [n, min n 2000]] }])
  ∧ (∀ (s : State) (h : Sender) (p w d : Nat),
    s.supervised h →
    ∃ t, exec (.writeEntryScreening h p w d) s = .next t
      ∧ t = { s.logged t with
            screen := { s.screen with
                setting := { pairWindow := clamp 5 60 p, rateCount := clamp 1 8 w, rateDuration := clamp 10 600 d } } }
      ∧ Told s t h .writeEntry .done .empty [] [s.stamped {
                kind := .tableWrite
                facts := [.table .screening, .stored [p, clamp 5 60 p, w, clamp 1 8 w, d, clamp 10 600 d]] }])
  ∧ (∀ (s : State) (h : Sender) (w : BusWrite),
    s.supervised h →
    ∃ t, exec (.writeEntryBus h w) s = .next t
      ∧ t = { s.logged t with
            bus := { s.bus with
                setting := {
                    window := clamp 2 50 w.window
                    quanta := clamp 8 25 w.quanta
                    phase2 := min (max w.phase2 2) ((clamp 8 25 w.quanta - 1) / 2)
                    jump := min (clamp 1 4 w.jump) (min (max w.phase2 2) ((clamp 8 25 w.quanta - 1) / 2)) } } }
      ∧ Told s t h .writeEntry .done .empty [] [s.stamped {
                kind := .tableWrite
                facts := [.table .bus,
                    .stored [w.window, clamp 2 50 w.window, w.quanta, clamp 8 25 w.quanta, w.phase2,
                        min (max w.phase2 2) ((clamp 8 25 w.quanta - 1) / 2), w.jump,
                        min (clamp 1 4 w.jump) (min (max w.phase2 2) ((clamp 8 25 w.quanta - 1) / 2))]] }])
  ∧ (∀ (s : State) (h : Sender) (n : Nat),
    s.supervised h →
    ∃ t, exec (.writeEntryDepository h n) s = .next t
      ∧ t = { s.logged t with
            envelope :=
              { s.envelope with setting := { value := max (clamp 100 1000 n) (s.envelope.count + s.inProgress) } } }
      ∧ Told s t h .writeEntry .done .empty (if s.depositoryWarn = t.depositoryWarn ∧ s.depositoryFull = t.depositoryFull
              then [] else to7 (.depository s.envelope.count t.envelope.setting.value s.inProgress)) [s.stamped
              {
                kind := .tableWrite
                facts := [.table .depository, .stored [n, max (clamp 100 1000 n) (s.envelope.count + s.inProgress)]] }])

/-- From station 7, with operands in their ranges, the copy of the lane named by Profile Write Select holds every
field given, the transit limit clamped, with check state OK. If it is the copy in force the lane is settled by it, and
a LANE STATE report follows a change. One TABLE WRITE record, DONE, and nothing else changes. The tag 0 of its reports
is the model's choice (DESIGN CHOICE, log 79). The LANE STATE reports go to the serving consoles in console order,
then to station 7 (log 31). That the TABLE WRITE record fills the lane field too is the model's choice (DESIGN CHOICE,
log 83). (R1, R2, R7, R11) -/
def Obligations.LanePolicyWriteStoresTheCopy : Prop :=
  ∀ (s : State) (h : Sender) (w : LanePolicyWrite) (l : Lane),
    s.soundTables = true →
    s.supervised h →
    numbered 6 w.lane = some l →
    1 ≤ w.singleLimit ∧ w.singleLimit ≤ 999999 →
    1 ≤ w.dualThreshold ∧ w.dualThreshold ≤ 999999 →
    w.duressCap ≤ 999999 →
    (∀ n ∈ w.serving, 1 ≤ n ∧ n ≤ 4) →
    ∃ t, exec (.writeEntryLanePolicy h w) s = .next t
      ∧ t.lanes.copy s.lanes.writeSelect l = {
            isOpen := w.isOpen
            singleLimit := w.singleLimit
            dualThreshold := w.dualThreshold
            duressCap := w.duressCap
            envelopeDrop := w.envelopeDrop
            transitLimit := if w.transitLimit = 0 then 0 else clamp 1000 30000 w.transitLimit
            serving := Vector.ofFn fun c : Fin 4 => w.serving.contains (numberOf c) }
      ∧ (∀ (p : Profile) (k : Lane), p ≠ s.lanes.writeSelect ∨ k ≠ l → t.lanes.copy p k = s.lanes.copy p k)
      ∧ t.lanes.writeSelect = s.lanes.writeSelect
      ∧ t.lanes.operateSelect = s.lanes.operateSelect
      ∧ t.lanes.records = s.lanes.records.set l { s.laneRec l with
            state := if (s.laneRec l).profile = s.lanes.writeSelect then settledState (s.laneRec l) w.isOpen else
              (s.laneRec l).state }
      ∧ t = { s.logged t with lanes := t.lanes }
      ∧ Told s t h .writeEntry .done .empty (if (t.laneRec l).state = (s.laneRec l).state then [] else t.toServing l
              (laneReportOf l (t.laneRec l)) (laneReportOf l (t.laneRec l))) [s.stamped {
                kind := .tableWrite
                lane := numberOf l
                facts := [.table (.lanePolicy (numberOf l) (some s.lanes.writeSelect))] }]

/-- From station 7, with operands in their ranges and no console signed on: the entry holds the fields given with
check state OK; if the entry is OK and already held the credential its shift total is kept, and otherwise the total
becomes 0 with a SHIFT RESET record of the old total; a TABLE WRITE record is written, the answer is DONE, and nothing
else changes. A console bound to the entry by another credential is signed off: its binding is cleared, its dispenses
and sessions report to station 7 from then on, and each half it has stored leaves its slot, with a PAIR BROKEN record
where the journal has room for 12 records and a BROKEN PAIR report of the stored tag to the console with a copy to
station 7 where the queue has 22 places. From station 7, with every table OK: RESET SHIFT of an index sets that
entry's shift total to 0 with a SHIFT RESET record of the old total; RESET SHIFT of ALL does so for every entry that
holds a credential, in ascending order, each with its own record. Answered DONE, and nothing else changes. A PAIR
BROKEN record carries the stored half's station, credential, index and amount (DESIGN CHOICE, log 65), SHIFT RESET the
old total as its value (log 76), TABLE WRITE its entry (log 83); the records stand in the order in which the model
acts (log 31). (R21, R23, R32) -/
def Obligations.AuthorityEntriesAreWrittenAndShiftsReset : Prop :=
  (∀ (s : State) (h : Sender) (w : AuthorityWrite) (i : AuthId) (rights : Rights),
    s.supervised h →
    numbered 32 w.index = some i →
    w.rights = some rights →
    1 ≤ w.perDispense ∧ w.perDispense ≤ 999999 →
    w.shiftLimit ≤ 99999999 →
    (∀ c : Console, s.binding c = none) →
    ∃ t, exec (.writeEntryAuthority h w) s = .next t
      ∧ t = { s.logged t with
            screen := { s.screen with
                authority := s.screen.authority.set i {
                    credential := w.credential
                    rights := rights
                    perDispense := w.perDispense
                    shiftLimit := w.shiftLimit
                    shiftTotal := if (s.authority i).check.faulted = false ∧ (s.authority i).credential = w.credential
                      then (s.authority i).shiftTotal else 0
                    check := {} } } }
      ∧ Told s t h .writeEntry .done .empty [] ((if (s.authority i).check.faulted = false ∧ (s.authority i).credential =
                  w.credential then [] else
                  [s.stamped { kind := .shiftReset, authIndex := numberOf i, value := (s.authority i).shiftTotal }]) ++
              [s.stamped { kind := .tableWrite, facts := [.table (.authority (numberOf i))] }]))
  ∧ (∀ (s : State) (h : Sender) (w : AuthorityWrite) (i : AuthId) (rights : Rights) (c : Console) (b : Binding),
    s.supervised h →
    numbered 32 w.index = some i →
    w.rights = some rights →
    1 ≤ w.perDispense ∧ w.perDispense ≤ 999999 →
    w.shiftLimit ≤ 99999999 →
    s.binding c = some b →
    b.index = i →
    b.credential ≠ w.credential →
    ∃ t, exec (.writeEntryAuthority h w) s = .next t
      ∧ Answered t h .writeEntry .done .empty
      ∧ t.binding c = none
      ∧ (t.authority i).credential = w.credential
      ∧ (t.authority i).rights = rights
      ∧ (∀ l : Lane, ∀ p ∈ s.screen.pairSlots[l],
            p.station = c → t.screen.pairSlots[l] = none ∧
              (s.journal.reserved + 12 ≤ s.journal.free → ∃ x ∈ t.journal.ring, x.entry = s.stamped (brokenEntry p l)) ∧
              (s.link.used + 22 ≤ 64 → ∀ y ∈ brokenReports p, y ∈ t.link.reports))
      ∧ (∀ k : DispenseSlot, ∀ r ∈ s.dispense.records[k],
            r.station = c → t.dispense.records[k] = some { r with reportStation := .supervisor })
      ∧ (∀ l : Lane, ∀ x ∈ s.session l, x.station = c → t.session l = some { x with reportStation := .supervisor }))
  ∧ (∀ (s : State) (h : Sender) (n : Nat) (i : AuthId),
    s.soundTables = true →
    s.supervised h →
    numbered 32 n = some i →
    ∃ t, exec (.resetShift h (.index n)) s = .next t
      ∧ t = { s.logged t with
            screen := { s.screen with authority := s.screen.authority.set i { s.authority i with shiftTotal := 0 } } }
      ∧ Told s t h .resetShift .done .empty []
          [s.stamped { kind := .shiftReset, authIndex := numberOf i, value := (s.authority i).shiftTotal }])
  ∧ (∀ (s : State) (h : Sender),
    s.soundTables = true →
    s.supervised h →
    ∃ t, exec (.resetShift h .all) s = .next t
      ∧ (∀ i : AuthId,
            t.authority i = if (s.authority i).credential = 0 then s.authority i else
              { s.authority i with shiftTotal := 0 })
      ∧ t = { s.logged t with screen := { s.screen with authority := t.screen.authority } }
      ∧ Told s t h .resetShift .done .empty [] (((List.finRange 32).filter fun i => decide
                  ((s.authority i).credential ≠ 0)).map fun i => s.stamped
              { kind := .shiftReset, authIndex := numberOf i, value := (s.authority i).shiftTotal }))

/-- From station 7: a denomination value of 0 to 10,000, with the part not IN SERVICE and no dispense or session in
progress, is stored with check state OK; a cassette's role, low mark and clamped fill limit are stored with check
state OK, its cause FAULT leaves, and low armed follows the count, with the work queue empty. Each writes one TABLE
WRITE record, is answered DONE (a change of shown state reported first), and changes nothing else. The tag 0 of its
reports is the model's choice (DESIGN CHOICE, log 79). That the TABLE WRITE record names the table and the entry is
the model's choice (DESIGN CHOICE, log 83). (R73, R74, R75, R78) -/
def Obligations.CashTableWritesStoreTheirEntries : Prop :=
  (∀ (s : State) (h : Sender) (index value : Nat) (i : DenomId),
    s.supervised h →
    numbered 8 index = some i →
    value ≤ 10000 →
    s.mgmt.partState ≠ .inService →
    s.dispenses = [] →
    s.sessions = [] →
    ∃ t, exec (.writeEntryDenomination h index value) s = .next t
      ∧ t = { s.logged t with
            cash := { s.cash with denominations := s.cash.denominations.set i { value := value, check := {} } } }
      ∧ Told s t h .writeEntry .done .empty []
          [s.stamped { kind := .tableWrite, facts := [.table (.denomination (numberOf i))] }])
  ∧ (∀ (s : State) (h : Sender) (cassette lowMark fillLimit : Nat) (role : Role) (i : Fin 6) (c : CassetteId),
    s.supervised h →
    numbered 6 cassette = some i →
    c.val = i.val →
    lowMark ≤ 500 →
    s.cash.workQueue = [] →
    ∃ t, exec (.writeEntryCassette h cassette (some role) lowMark fillLimit) s = .next t
      ∧ t = { s.logged t with
            cash := { s.cash with
                cassettes := s.cash.cassettes.set c { s.cassette c with
                    role := role
                    lowMark := lowMark
                    fillLimit := clamp 1 2500 fillLimit
                    causes := { (s.cassette c).causes with fault := false }
                    check := {}
                    lowArmed := decide (lowMark < (s.cassette c).count) } } }
      ∧ Told s t h .writeEntry .done .empty (s.shownChange t c)
          [s.stamped { kind := .tableWrite, facts := [.table (.cassette (numberOf c))] }])

/-- From station 7, for a loop that is not TRIPPED, with no Safe Opening Authorisation and the work queue empty: the
configuration holds the values given, the qualify time clamped to 20..2,000 ms; a configured loop of arm mode ALWAYS
enters ARMING with its 10 s timer, and any other is DISARMED (of kind NONE with no band). One TABLE WRITE record,
DONE, and nothing else changes. That the TABLE WRITE record names the table and the loop is the model's choice (DESIGN
CHOICE, log 83). (R139, R143) -/
def Obligations.LoopWriteRestartsTheLoop : Prop :=
  ∀ (s : State) (h : Sender) (w : LoopWrite) (i : LoopId) (kind : LoopKind) (arm : ArmMode) (response : Response),
    s.supervised h →
    numbered 16 w.loop = some i →
    w.kind = some kind →
    w.armMode = some arm →
    w.response = some response →
    w.lane ≤ 6 →
    ¬(response = .laneHold ∧ w.lane = 0) →
    (s.loop i).tripped = false →
    s.envelope.safe = none →
    s.cash.workQueue = [] →
    ∃ t, exec (.writeEntryLoop h w) s = .next t
      ∧ t = { s.logged t with
            alarm := { s.alarm with
                loops := s.alarm.loops.set i { s.loop i with
                    kind := kind
                    lane := w.lane
                    qualify := clamp 20 2000 w.qualify
                    armMode := arm
                    response := response
                    check := {}
                    state := if (kind ≠ .none ∧ arm = .always) then .arming else .disarmed
                    armTimer := if (kind ≠ .none ∧ arm = .always) then some ⟨s.now, 10000⟩ else none
                    armFailed := false
                    qualifyTimer := none
                    candidate := none
                    band := if kind = .none then none else (s.loop i).band } } }
      ∧ Told s t h .writeEntry .done .empty [] [s.stamped { kind := .tableWrite, facts := [.table (.loop (numberOf i))] }]

/-- From station 7, with the part not IN SERVICE, the node and kind free, the old node quiet, no restore, request or
work entry waiting: the entry holds the node, kind and lane with counters 0, ACTIVE, marks clear and check state OK;
each lane's NODE stands exactly as its station entry then says; a lane whose NODE changes is settled, and every other
Lane Record, the policy copies (a check apart) and the selects are as they were. With every table OK the records are
one TABLE WRITE with the node and the lane, then a HOLD or RELEASE of each NODE that changed, and the reports are its
LANE STATE, in lane order. The other entries, queues and blocks are unchanged, and the answer is DONE. That the
RELEASE of NODE fills the lane is the model's choice (DESIGN CHOICE, log 90). The tag 0 of its reports is the model's
choice (DESIGN CHOICE, log 79). LANE STATE reports go to consoles in order, then to station 7 (log 31). The facts of
the TABLE WRITE record are the model's choice (DESIGN CHOICE, log 83). That node 0 is not held to check 4, and that a
frame due to be resent counts against the quiet node, are DEDUCED (log 30). (R10, R158) -/
def Obligations.ModuleWriteConfiguresTheEntry : Prop :=
  ∀ (s : State) (h : Sender) (entry node lane : Nat) (kind : ModuleKind) (m : ModuleId),
    s.supervised h →
    numbered 16 entry = some m →
    node ≤ 30 →
    (kind = .laneStation → 1 ≤ lane ∧ lane ≤ 6) →
    s.mgmt.partState ≠ .inService →
    (node ≠ 0 → ∀ i : ModuleId, i ≠ m → (s.module i).node ≠ node) →
    (node ≠ 0 → kind ≠ .laneStation → ∀ i : ModuleId, i ≠ m → (s.module i).node = 0 ∨ (s.module i).kind ≠ kind) →
    s.moduleQuiet m = true →
    s.bus.restores = [] →
    s.tube.requests = [] →
    s.cash.workQueue = [] →
    ∃ t, exec (.writeEntryModule h entry node (some kind) lane) s = .next t
      ∧ Answered t h .writeEntry .done .empty
      ∧ t.bus = { s.bus with
            modules := s.bus.modules.set m {
                node := node
                kind := kind
                lane := lane
                orderErrors := 0
                replyErrors := 0
                health := .active
                mark96 := false
                mark128 := false
                mark256 := false
                check := {} } }
      ∧ (∀ l : Lane, (t.laneRec l).holds = { (s.laneRec l).holds with node := t.nodeStands l })
      ∧ (∀ l : Lane, (t.laneRec l).txn = (s.laneRec l).txn ∧ (t.laneRec l).profile = (s.laneRec l).profile)
      ∧ (∀ l : Lane, t.laneRec l = s.nodeJudged t l)
      ∧ PoliciesKept s t
      ∧ (s.soundTables = true → Told s t h .writeEntry .done .empty (s.nodeReports t) (s.stamped
                  { kind := .tableWrite, facts := [.table (.module (numberOf m)), .stored [node, lane]] } :: s.nodeRecords
                  t))
      ∧ t = { s.logged t with bus := t.bus, lanes := t.lanes }

/-- From station 7, with every table OK, READ ENTRY of each of the thirteen tables is answered DONE with the entry's
stored values and check state, or BAD ORDER where the table has no such entry, and nothing else changes. BAD ORDER for
an entry number outside its table is DEDUCED (log 27). (R175) -/
def Obligations.ReadEntryReturnsTheStoredValues : Prop :=
  (∀ (s : State) (h : Sender) (ref : TableRef) (d : EntryData),
    s.soundTables = true →
    s.supervised h →
    s.entryOf ref = some d →
    exec (.readEntry h (some ref)) s = .next ({ s with link := s.answeredWith h .readEntry .done (.entry d) }))
  ∧ (∀ (s : State) (h : Sender) (ref : TableRef),
    s.supervised h →
    s.entryOf ref = none →
    exec (.readEntry h (some ref)) s = .next ({ s with link := s.answeredWith h .readEntry .badOrder .empty }))
  ∧ (∀ (s : State) (h : Sender),
    s.supervised h →
    exec (.readEntry h none) s = .next ({ s with link := s.answeredWith h .readEntry .badOrder .empty }))

/-- From station 7, SELECT PROFILE WRITE sets Profile Write Select and nothing else. SELECT PROFILE OPERATE sets
Profile Operate Select; a lane already on that profile has no switch pending; a lane without a transaction adopts it;
a lane with a transaction keeps its profile with the switch pending; every transaction and hold stays, and only Lane
Control changes. With every table OK, a lane that adopts writes one PROFILE SWITCH record of the old and new profile,
and becomes CLOSED where the new copy's open reads no and otherwise keeps its state; a change of its state is one LANE
STATE report to the serving consoles of the new copy and to station 7, and a change of switch pending alone one to
station 7; lanes are taken in order 1 to 6. The tag 0 of its reports is the model's choice (DESIGN CHOICE, log 79).
The LANE STATE reports go to the serving consoles in console order, then to station 7 (DESIGN CHOICE, log 31). (R3,
R5, R6, R11) -/
def Obligations.SelectProfileChoosesTheCopies : Prop :=
  (∀ (s : State) (h : Sender) (p : Profile),
    s.supervised h →
    exec (.selectProfileWrite h (some p)) s = .next
      ({ s with link := s.answeredWith h .selectProfile .done .empty, lanes := { s.lanes with writeSelect := p } }))
  ∧ (∀ (s : State) (h : Sender) (p : Profile),
    s.supervised h →
    ∃ t, exec (.selectProfileOperate h (some p)) s = .next t
      ∧ Answered t h .selectProfile .done .empty
      ∧ t.lanes.operateSelect = p
      ∧ t.lanes.writeSelect = s.lanes.writeSelect
      ∧ (∀ l : Lane, (t.laneRec l).txn = (s.laneRec l).txn ∧ (t.laneRec l).holds = (s.laneRec l).holds)
      ∧ (∀ l : Lane,
            (s.laneRec l).profile = p ∨ (s.laneRec l).txn = none → (t.laneRec l).profile = p ∧ (t.laneRec l).switchPending
              = false)
      ∧ (∀ l : Lane,
            (s.laneRec l).profile ≠ p → (s.laneRec l).txn ≠ none → (t.laneRec l).profile = (s.laneRec l).profile ∧
              (t.laneRec l).switchPending = true)
      ∧ t = { s.logged t with lanes := t.lanes })
  ∧ (∀ (s : State) (h : Sender) (p : Profile),
    s.soundTables = true →
    s.supervised h →
    ∃ t, exec (.selectProfileOperate h (some p)) s = .next t
      ∧ t = { s.logged t with lanes := { s.lanes with operateSelect := p, records := Vector.ofFn (s.operated p) } }
      ∧ Told s t h .selectProfile .done .empty ((List.finRange 6).flatMap (operatedReports s t))
          ((List.finRange 6).filterMap (s.operatedRecord p)))

/-- From station 7, for a cassette with no work in flight and an empty work queue: LOAD of one that is reinserted,
empty or UNRECONCILED and in place sets its denomination, count and base (clamped to its capacity), clears its
tallies, OUT, UNRECONCILED, reinserted and cause FAULT; RECONCILE of one that is UNRECONCILED, in place and not
reinserted does so for its count. D and P have BIN COUNT sent (to no one where the Module Table holds no recycler, log
12). One LOAD or RECONCILE record carries the old count, base and tallies; the answer is DONE; nothing else changes. A
poll reply's CASSETTE OUT of a cassette in place latches it OUT: with an authorisation for it, one record and nothing
else; with none for it, lockdown is set and CASH is posted to every lane. A repeated CASSETTE OUT is one record and
nothing else (no entry waiting for a READY recycler). CASSETTE IN (the work queue empty) takes OUT away, latches
UNRECONCILED and marks a cassette that was OUT reinserted, and ends an authorisation for it, EXCHANGE leaving its
causes, with an EXCHANGE END record and report. The tag 0 of its reports is the model's choice (DESIGN CHOICE, log
79). A CASSETTE IN record names its cassette (log 75) and a CASSETTE OUT record lists its tallies as items (log 76),
DESIGN CHOICE both. That CASSETTE OUT carries its count as the note count is the model's choice (DESIGN CHOICE, log
76). A condition byte other than those of R186 leaves the last condition (DEDUCED, log 28). CASSETTE IN recomputes the
parity of its entry also where no latch changes (DESIGN CHOICE, log 4), and ends an authorisation for a cassette that
was never OUT (DEDUCED, log 36). The EXCHANGE END record names the cassette (log 75) and stands before CASSETTE IN
(log 31), and its report has cassette and reason (log 78), DESIGN CHOICE all. (R81, R82, R84, R90, R91) -/
def Obligations.CassettesAreAccountedAndExchanged : Prop :=
  (∀ (s : State) (h : Sender) (cassette count : Nat) (denom : Option Nat) (c : CassetteId) (d : Option DenomId),
    s.soundTables = true →
    s.supervised h →
    numbered 8 cassette = some c →
    loadDenom c denom = some d →
    (s.cassette c).reinserted = true ∨ (s.cassette c).out = false ∧
      ((s.cassette c).count = 0 ∨ (s.cassette c).unreconciled = true) →
    s.workInFlight c = false →
    s.cash.workQueue = [] →
    s.bus.outgoing.length < 48 →
    ∃ t, exec (.loadCassette h cassette denom count) s = .next t
      ∧ t = { s.logged t with
            cash := { s.cash with
                cassettes := s.cash.cassettes.set c { s.cassette c with
                    count := min count (capacity c)
                    base := min count (capacity c)
                    picked := 0
                    rejected := 0
                    stacked := 0
                    rejectedIn := 0
                    retractedIn := 0
                    unreconciled := false
                    out := false
                    reinserted := false
                    causes := { (s.cassette c).causes with fault := false }
                    check := {}
                    denom := if isWork c then d else (s.cassette c).denom
                    lowArmed := (s.cassette c).lowArmed || decide
                      (isWork c ∧ (s.cassette c).lowMark < min count (capacity c)) } }
            bus := { s.bus with
                outgoing := s.bus.outgoing ++ (if isWork c then [] else
                      (s.recyclerEntry.map fun m => s.orderTo m .cash (.binCount c (min count (capacity c)))).toList) } }
      ∧ Told s t h .loadCassette .done .empty (s.shownChange t c) [s.stamped {
                kind := .load
                value := min count (capacity c)
                noteCount := (s.cassette c).count
                items := (s.cassette c).accountItems c
                detail := (d.map numberOf).getD 0
                facts := [.cassette c] }])
  ∧ (∀ (s : State) (h : Sender) (cassette count : Nat) (c : CassetteId),
    s.soundTables = true →
    s.supervised h →
    numbered 8 cassette = some c →
    (s.cassette c).unreconciled = true →
    (s.cassette c).out = false →
    (s.cassette c).reinserted = false →
    s.workInFlight c = false →
    s.cash.workQueue = [] →
    s.bus.outgoing.length < 48 →
    ∃ t, exec (.reconcileCassette h cassette count) s = .next t
      ∧ t = { s.logged t with
            cash := { s.cash with
                cassettes := s.cash.cassettes.set c { s.cassette c with
                    count := min count (capacity c)
                    base := min count (capacity c)
                    picked := 0
                    rejected := 0
                    stacked := 0
                    rejectedIn := 0
                    retractedIn := 0
                    unreconciled := false
                    causes := { (s.cassette c).causes with fault := false }
                    check := {}
                    lowArmed := (s.cassette c).lowArmed || decide
                      (isWork c ∧ (s.cassette c).lowMark < min count (capacity c)) } }
            bus := { s.bus with
                outgoing := s.bus.outgoing ++ (if isWork c then [] else
                      (s.recyclerEntry.map fun m => s.orderTo m .cash (.binCount c (min count (capacity c)))).toList) } }
      ∧ Told s t h .reconcileCassette .done .empty (s.shownChange t c) [s.stamped {
                kind := .reconcile
                value := count
                noteCount := (s.cassette c).count
                items := (s.cassette c).accountItems c
                facts := [.cassette c] }])
  ∧ (∀ (s : State) (x : Exchange) (m : ModuleId) (r : BusReply) (cond : Nat) (c : CassetteId) (a : ExchangeAuth),
    s.polled x m r cond [.cassetteOut c] →
    (s.module m).kind = .recycler →
    s.cash.exchange = some a →
    a.cassette = c →
    (s.cassette c).out = false →
    s.cash.workQueue = [] →
    ∃ t, exec (.wallBusReplyTaken (.fields r)) s = .next t
      ∧ t = { s.logged t with
            cash := { s.cash with
                condition := s.conditionAfter cond
                cassettes := s.cash.cassettes.set c
                  { s.cassette c with out := true, check := (s.cassette c).check.recomputed } }
            bus := s.afterPoll m }
      ∧ Noted s t (s.shownChange t c) [s.stamped {
                kind := .cassetteOut
                noteCount := (s.cassette c).count
                items := (s.cassette c).tallyItems c
                facts := [.cassette c] }])
  ∧ (∀ (s : State) (x : Exchange) (m : ModuleId) (r : BusReply) (cond : Nat) (c : CassetteId),
    s.polled x m r cond [.cassetteOut c] →
    (s.module m).kind = .recycler →
    (s.cassette c).out = true →
    s.cash.workQueue = [] ∨ s.cash.recycler ≠ .ready →
    ∃ t, exec (.wallBusReplyTaken (.fields r)) s = .next t
      ∧ t = { s.logged t with cash := { s.cash with condition := s.conditionAfter cond }, bus := s.afterPoll m }
      ∧ Noted s t [] [s.stamped {
                kind := .cassetteOut
                noteCount := (s.cassette c).count
                items := (s.cassette c).tallyItems c
                facts := [.cassette c] }])
  ∧ (∀ (s : State) (x : Exchange) (m : ModuleId) (r : BusReply) (cond : Nat) (c : CassetteId),
    s.polled x m r cond [.cassetteOut c] →
    (s.module m).kind = .recycler →
    (∀ a ∈ s.cash.exchange, a.cassette ≠ c) →
    (s.cassette c).out = false →
    s.alarm.lockdown = false →
    ∃ t, exec (.wallBusReplyTaken (.fields r)) s = .next t
      ∧ (t.cassette c).out = true
      ∧ (t.cassette c).count = (s.cassette c).count
      ∧ t.alarm.lockdown = true
      ∧ t.alarm.localOutput = true
      ∧ (∀ l : Lane, (t.laneRec l).holds.cash = true))
  ∧ (∀ (s : State) (x : Exchange) (m : ModuleId) (r : BusReply) (cond : Nat) (c : CassetteId) (a : ExchangeAuth),
    s.polled x m r cond [.cassetteIn c] →
    (s.module m).kind = .recycler →
    s.cash.exchange = some a →
    a.cassette = c →
    s.cash.workQueue = [] →
    ∃ t, exec (.wallBusReplyTaken (.fields r)) s = .next t
      ∧ t = { s.logged t with
            cash := { s.cash with
                condition := s.conditionAfter cond
                exchange := none
                cassettes := s.cash.cassettes.set c { s.cassette c with
                    out := false
                    unreconciled := true
                    reinserted := (s.cassette c).reinserted || (s.cassette c).out
                    causes := { (s.cassette c).causes with exchange := false }
                    check := (s.cassette c).check.recomputed } }
            bus := s.afterPoll m }
      ∧ Noted s t (s.shownChange t c ++ to7 (.exchangeEnd c .cassetteIn)) [s.stamped
              { kind := .exchangeEnd, facts := [.cassette c, .cause .cassetteIn] },
            s.stamped { kind := .cassetteIn, facts := [.cassette c] }])
  ∧ (∀ (s : State) (x : Exchange) (m : ModuleId) (r : BusReply) (cond : Nat) (c : CassetteId),
    s.polled x m r cond [.cassetteIn c] →
    (s.module m).kind = .recycler →
    (∀ a ∈ s.cash.exchange, a.cassette ≠ c) →
    s.cash.workQueue = [] →
    ∃ t, exec (.wallBusReplyTaken (.fields r)) s = .next t
      ∧ t = { s.logged t with
            cash := { s.cash with
                condition := s.conditionAfter cond
                cassettes := s.cash.cassettes.set c { s.cassette c with
                    out := false
                    unreconciled := true
                    reinserted := (s.cassette c).reinserted || (s.cassette c).out
                    check := (s.cassette c).check.recomputed } }
            bus := s.afterPoll m }
      ∧ Noted s t (s.shownChange t c) [s.stamped { kind := .cassetteIn, facts := [.cassette c] }])

/-- From station 7, EXCHANGE CASSETTE, EMPTY DEPOSITORY and CLEAR CONDITION LOCKDOWN are stored with their tag,
arrival time and pair window, whatever the operation's own conditions; an older half is broken with its record and
report; one PAIR FIRST record is written, the answer is PAIR WAIT, and nothing else changes. That the PAIR FIRST and
PAIR BROKEN records carry station 7 is the model's choice (DESIGN CHOICE, log 75). (R34, R35) -/
def Obligations.ManagementHalvesAreStored : Prop :=
  (∀ (s : State) (h : Sender) (cassette : Nat) (c : CassetteId),
    s.soundTables = true →
    s.supervised h →
    numbered 8 cassette = some c →
    ∃ t, exec (.exchangeCassette h cassette) s = .next t
      ∧ t = { s.logged t with
            screen :=
              { s.screen with managementSlot := some ⟨.exchangeCassette c, h.tag, s.now, s.screen.setting.pairWindow⟩ } }
      ∧ Told s t h .exchangeCassette .pairWait .empty
          (s.screen.managementSlot.map fun o => reportItem .supervisor o.tag .brokenPair).toList ((s.screen.managementSlot.map
                  fun o => s.stamped { kind := .pairBroken, station := 7, facts := [.tag o.tag] }).toList ++
              [s.stamped { kind := .pairFirst, station := 7, facts := [.tag h.tag] }]))
  ∧ (∀ (s : State) (h : Sender),
    s.soundTables = true →
    s.supervised h →
    ∃ t, exec (.emptyDepository h) s = .next t
      ∧ t = { s.logged t with
            screen :=
              { s.screen with managementSlot := some ⟨.emptyDepository, h.tag, s.now, s.screen.setting.pairWindow⟩ } }
      ∧ Told s t h .emptyDepository .pairWait .empty
          (s.screen.managementSlot.map fun o => reportItem .supervisor o.tag .brokenPair).toList ((s.screen.managementSlot.map
                  fun o => s.stamped { kind := .pairBroken, station := 7, facts := [.tag o.tag] }).toList ++
              [s.stamped { kind := .pairFirst, station := 7, facts := [.tag h.tag] }]))
  ∧ (∀ (s : State) (h : Sender),
    s.soundTables = true →
    s.supervised h →
    ∃ t, exec (.clearConditionLockdown h) s = .next t
      ∧ t = { s.logged t with
            screen :=
              { s.screen with managementSlot := some ⟨.clearLockdown, h.tag, s.now, s.screen.setting.pairWindow⟩ } }
      ∧ Told s t h .clearCondition .pairWait .empty
          (s.screen.managementSlot.map fun o => reportItem .supervisor o.tag .brokenPair).toList ((s.screen.managementSlot.map
                  fun o => s.stamped { kind := .pairBroken, station := 7, facts := [.tag o.tag] }).toList ++
              [s.stamped { kind := .pairFirst, station := 7, facts := [.tag h.tag] }]))

/-- From station 7, with the duress latch set and no TRIPPED loop of kind HOLDUP or with DURESS applied: the latch and
the silent-alarm output are clear, one CONDITION CLEAR record without the DURESS flag is written, a WALL CONDITION
report goes to station 7 alone, the answer is DONE, and nothing else changes. That the WALL CONDITION report carries
tag 0 is the model's choice (DESIGN CHOICE, log 79). The record names the condition cleared (DESIGN CHOICE, log 75).
(R150, R152, R153, R154) -/
def Obligations.ClearConditionClearsTheDuressLatch : Prop :=
  ∀ (s : State) (h : Sender),
    s.supervised h →
    s.alarm.duress = true →
    (∀ i : LoopId, ¬((s.loop i).tripped = true ∧ ((s.loop i).kind = .holdup ∨ (s.loop i).applied .duress = true))) →
    ∃ t, exec (.clearConditionDuress h) s = .next t
      ∧ t = { s.logged t with alarm := { s.alarm with duress := false, silentOutput := false } }
      ∧ Told s t h .clearCondition .done .empty (to7 (.wallCondition t.condition (some (false, s.alarm.lockdown))))
          [{ kind := .conditionClear, facts := [.condition .duress] }]

/-- From station 7: ARM LOOP of a DISARMED ON ORDER loop enters ARMING with its 10 s timer; DISARM LOOP of an ON ORDER
loop in ARMING, WATCHING or QUALIFYING makes it DISARMED with a LOOP DISARMED record and a LOOP report; ACK LOOP of a
TRIPPED loop whose band is SECURE, with the work queue empty, makes it WATCHING with no trip and takes its number from
the suspension causes of cassettes 1 to 6. Each is answered DONE. The tag 0 of its reports is the model's choice
(DESIGN CHOICE, log 79). That LOOP DISARMED carries its loop's lane, and what its LOOP report carries, is the model's
choice (DESIGN CHOICE, logs 75 and 78). (R143, R145, R149, R77) -/
def Obligations.LoopOrdersMoveTheLoop : Prop :=
  (∀ (s : State) (h : Sender) (loop : Nat) (i : LoopId),
    s.soundTables = true →
    s.supervised h →
    numbered 16 loop = some i →
    (s.loop i).kind ≠ .none →
    (s.loop i).armMode = .onOrder →
    (s.loop i).state = .disarmed →
    ∃ t, exec (.armLoop h loop) s = .next t
      ∧ t = { s.logged t with
            alarm := { s.alarm with
                loops := s.alarm.loops.set i { s.loop i with
                    state := .arming
                    armTimer := some ⟨s.now, 10000⟩
                    armFailed := false
                    qualifyTimer := none
                    candidate := none } } }
      ∧ Told s t h .armLoop .done .empty [] [])
  ∧ (∀ (s : State) (h : Sender) (loop : Nat) (i : LoopId),
    s.soundTables = true →
    s.supervised h →
    numbered 16 loop = some i →
    (s.loop i).kind ≠ .none →
    (s.loop i).armMode = .onOrder →
    (s.loop i).state = .arming ∨ (s.loop i).state = .watching ∨ (s.loop i).state = .qualifying →
    ∃ t, exec (.disarmLoop h loop) s = .next t
      ∧ t = { s.logged t with
            alarm := { s.alarm with
                loops := s.alarm.loops.set i { s.loop i with
                    state := .disarmed
                    armTimer := none
                    armFailed := false
                    qualifyTimer := none
                    candidate := none } } }
      ∧ Told s t h .disarmLoop .done .empty (to7 (.loop i .disarmed (s.loop i).band (s.loop i).tripFact))
          [s.stamped { kind := .loopDisarmed, lane := (s.loop i).lane, facts := [.loop i] }])
  ∧ (∀ (s : State) (h : Sender) (loop : Nat) (i : LoopId),
    s.supervised h →
    numbered 16 loop = some i →
    (s.loop i).state = .tripped →
    (s.loop i).band = some .secure →
    s.cash.workQueue = [] →
    ∃ t, exec (.ackLoop h loop) s = .next t
      ∧ Answered t h .ackLoop .done .empty
      ∧ t.alarm = { s.alarm with loops := s.alarm.loops.set i { s.loop i with state := .watching, trip := none } }
      ∧ (∀ c : CassetteId,
            t.cassette c = if isWork c = true ∧ i ∈ (s.cassette c).causes.loops then { s.cassette c with
                causes := { (s.cassette c).causes with loops := (s.cassette c).causes.loops.filter (· ≠ i) }
                check := { (s.cassette c).check with parityGood := true } } else s.cassette c)
      ∧ t = { s.logged t with alarm := t.alarm, cash := { s.cash with cassettes := t.cash.cassettes } })

/-- From station 7: RESTORE NODE of an ISOLATED node with no restore in progress is answered ACCEPTED, a restore
begins and its first PROBE is placed; RESUME RECYCLER of a FAULTED recycler whose node is not ISOLATED and whose last
condition is CLEAR, with the work queue empty, makes it READY with one record and one report, and is answered DONE. A
GOOD probe lengthens the run and counts, a lost one starts the run anew, and the next PROBE is placed; at a run of 8
an entry that is OK is ACTIVE again with its counters 0 and its marks clear, its lane without NODE and settled, with a
RELEASE record and a LANE STATE report before those of the restore, every other Lane Record, the policy copies (a
check apart) and the selects as they were, and the restore ends RESTORED; at 32 probes without such a run it ends
FAILED; either end is one record and one report of its probes. Nothing else changes. That the record and report of a
restore name its node, and the RELEASE of NODE its lane, is the model's choice (DESIGN CHOICE, log 90). That the NODE
RESTORE report carries tag 0 is the model's choice (DESIGN CHOICE, log 79); LANE STATE reports go to consoles in
order, then to station 7 (log 31). At a run of 8 a restore whose entry was found FAULTED meanwhile ends FAILED (DESIGN
CHOICE, log 64). The RECYCLER STATE report carries the new state (DESIGN CHOICE, log 78). (R10, R86, R87, R159, R165,
R166) -/
def Obligations.RestoreAndResumeBringModulesBack : Prop :=
  (∀ (s : State) (h : Sender) (node : Nat) (m : ModuleId),
    s.supervised h →
    1 ≤ node ∧ node ≤ 30 →
    s.nodeEntry node = some m →
    (s.module m).health = .isolated →
    (s.module m).check.faulted = false →
    (∀ r ∈ s.bus.restores, r.node ≠ node) →
    s.bus.outgoing.length < 48 →
    ∃ t, exec (.restoreNode h node) s = .next t
      ∧ t = { s.logged t with
            bus := { s.bus with
                restores := s.bus.restores ++ [{ node := node, run := 0, probes := 0, goods := 0 }]
                outgoing := s.bus.outgoing ++ [{ node := node, content := .probe, owner := .bus }] } }
      ∧ Told s t h .restoreNode .accepted .empty [] [])
  ∧ (∀ (s : State) (h : Sender),
    s.supervised h →
    s.cash.recycler = .faulted →
    s.healthOf s.recyclerEntry ≠ some .isolated →
    s.cash.condition = .clear →
    s.cash.workQueue = [] →
    ∃ t, exec (.resumeRecycler h) s = .next t
      ∧ t = { s.logged t with cash := { s.cash with recycler := .ready } }
      ∧ Told s t h .resumeRecycler .done .empty (to7 (.recyclerState .ready)) [s.stamped { kind := .recyclerResume }])
  ∧ (∀ (s : State) (x : Exchange) (e : Restore) (r : BusReply),
    s.bus.outstanding = some x →
    x.frame.content = .probe →
    (s.bus.restores.find? fun y => y.node = x.frame.node) = some e →
    x.window.past s.now = false →
    replyAnswers r x →
    r.cls = 4 →
    r.body ≠ .unreadable →
    e.run < 7 →
    e.probes < 31 →
    s.bus.outgoing.length < 48 →
    exec (.wallBusReplyTaken (.fields r)) s = .next ({ s with
            bus := { s.bus with
                outstanding := none
                outgoing := s.bus.outgoing ++ [⟨x.frame.node, .probe, .bus, true⟩]
                restores := s.bus.restores.map fun y => if y.node = x.frame.node then
                  ⟨y.node, e.run + 1, e.probes + 1, e.goods + 1⟩ else y } }))
  ∧ (∀ (s : State) (x : Exchange) (e : Restore),
    s.bus.outstanding = some x →
    x.frame.content = .probe →
    (s.bus.restores.find? fun y => y.node = x.frame.node) = some e →
    timerDue (some x.window) s.now = true →
    e.probes < 31 →
    s.bus.outgoing.length < 48 →
    exec (.replyWindowExpiry) s = .next ({ s with
            bus := { s.bus with
                outstanding := none
                outgoing := s.bus.outgoing ++ [⟨x.frame.node, .probe, .bus, true⟩]
                restores := s.bus.restores.map fun y => if y.node = x.frame.node then ⟨y.node, 0, e.probes + 1, e.goods⟩
                  else y } }))
  ∧ (∀ (s : State) (x : Exchange) (e : Restore) (r : BusReply) (m : ModuleId),
    s.bus.outstanding = some x →
    x.frame.content = .probe →
    (s.bus.restores.find? fun y => y.node = x.frame.node) = some e →
    x.window.past s.now = false →
    replyAnswers r x →
    r.cls = 4 →
    r.body ≠ .unreadable →
    7 ≤ e.run →
    s.nodeEntry x.frame.node = some m →
    (s.module m).check.faulted = false →
    (s.module m).health = .isolated →
    s.cash.workQueue = [] →
    s.tube.requests = [] →
    ∃ t, exec (.wallBusReplyTaken (.fields r)) s = .next t
      ∧ t = { s.logged t with
            lanes := t.lanes
            bus := { s.bus with
                outstanding := none
                restores := s.bus.restores.filter fun y => y.node != x.frame.node
                modules := s.bus.modules.set m (s.module m).afresh } }
      ∧ (∀ l : Lane, s.stationEntry l = some m → (t.laneRec l).holds = { (s.laneRec l).holds with node := false })
      ∧ (∀ l : Lane, (s.module m).kind ≠ .laneStation ∨ (s.module m).lane ≠ numberOf l → t.laneRec l = s.laneRec l)
      ∧ (∀ l : Lane, (t.laneRec l).txn = (s.laneRec l).txn ∧ (t.laneRec l).profile = (s.laneRec l).profile)
      ∧ (∀ l : Lane,
            t.laneRec l = if (s.module m).kind = .laneStation ∧ (s.module m).lane = numberOf l then s.nodeJudged t l else
              s.laneRec l)
      ∧ PoliciesKept s t
      ∧ (s.soundTables = true → Noted s t
              (s.nodeReports t ++ to7 (.nodeRestore x.frame.node .restored (e.probes + 1) (e.goods + 1)))
              (s.nodeRecords t ++ [s.stamped {
                        kind := .nodeRestore
                        facts := [.node x.frame.node, .restore .restored (e.probes + 1) (e.goods + 1)] }]))
      ∧ (s.journal.reserved + 6 ≤ s.journal.free → s.stamped
              { kind := .nodeRestore, facts := [.node x.frame.node, .restore .restored (e.probes + 1) (e.goods + 1)] } ∈
              t.journal.ring.map JournalRecord.entry)
      ∧ (s.link.used + 8 < 64 → reportItem .supervisor 0
              (.nodeRestore x.frame.node .restored (e.probes + 1) (e.goods + 1)) ∈ t.link.reports))
  ∧ (∀ (s : State) (x : Exchange) (e : Restore) (r : BusReply) (m : ModuleId),
    s.bus.outstanding = some x →
    x.frame.content = .probe →
    (s.bus.restores.find? fun y => y.node = x.frame.node) = some e →
    x.window.past s.now = false →
    replyAnswers r x →
    r.cls = 4 →
    r.body ≠ .unreadable →
    7 ≤ e.run →
    s.nodeEntry x.frame.node = some m →
    (s.module m).check.faulted = true →
    ∃ t, exec (.wallBusReplyTaken (.fields r)) s = .next t
      ∧ t = { s.logged t with
            bus := { s.bus with outstanding := none, restores := s.bus.restores.filter fun y => y.node != x.frame.node } }
      ∧ Noted s t (to7 (.nodeRestore x.frame.node .failed (e.probes + 1) (e.goods + 1))) [s.stamped
              { kind := .nodeRestore, facts := [.node x.frame.node, .restore .failed (e.probes + 1) (e.goods + 1)] }])
  ∧ (∀ (s : State) (x : Exchange) (e : Restore),
    s.bus.outstanding = some x →
    x.frame.content = .probe →
    (s.bus.restores.find? fun y => y.node = x.frame.node) = some e →
    timerDue (some x.window) s.now = true →
    31 ≤ e.probes →
    ∃ t, exec (.replyWindowExpiry) s = .next t
      ∧ t = { s.logged t with
            bus := { s.bus with outstanding := none, restores := s.bus.restores.filter fun y => y.node != x.frame.node } }
      ∧ Noted s t (to7 (.nodeRestore x.frame.node .failed (e.probes + 1) e.goods))
          [s.stamped { kind := .nodeRestore, facts := [.node x.frame.node, .restore .failed (e.probes + 1) e.goods] }])

/-- With no request waiting: CLEAR TUBE of a moving carrier with no transit timer, and the expiry of a moving
carrier's timer, leave it UNKNOWN with their cause and not seated, release the blower into its rest time, send BLOWER
STOP to a blower that can be reached, and post CARRIER to the lane; its binding, its transaction, the other lanes and
the other blocks are as they were. A poll reply's ARRIVED of a moving carrier places it, seated, at the reporting end,
stops its timer and releases the blower, with one record; SEATED and LIFTED at the end where the carrier is set and
clear seated; each change is one CARRIER report, and nothing else changes. LIFTED at the lane of a carrier that bears
cash writes DELIVERED for its dispense and unbinds it. The tag 0 of its reports is the model's choice (DESIGN CHOICE,
log 79). ARRIVED marks the movement's BLOWER MOVE frames so that their result acts on nothing (DESIGN CHOICE, log 14).
The reports go to the stored serving set (log 15) in console order, then to station 7 (log 31), one for each event
(log 20). (R67, R123, R128, R129, R131, R132, R134, R135, R164) -/
def Obligations.MovementsEndLostOrAtATerminal : Prop :=
  (∀ (s : State) (h : Sender) (lane : Nat) (l : Lane),
    s.soundTables = true →
    s.supervised h →
    numbered 6 lane = some l →
    (s.carrier l).moving = true →
    (s.carrier l).timer = none →
    s.tube.requests = [] →
    s.bus.outgoing.length < 48 →
    ∃ t, exec (.clearTube h lane) s = .next t
      ∧ Answered t h .clearTube .done .empty
      ∧ MovementLost s t l .cleared
      ∧ (s.blowerUsable = true → (t.bus.outgoing.getLast?.map Frame.content) = some (.order .blowerStop)))
  ∧ (∀ (s : State) (l : Lane),
    s.soundTables = true →
    (s.carrier l).moving = true →
    timerDue (s.carrier l).timer s.now = true →
    s.tube.requests = [] →
    s.bus.outgoing.length < 48 →
    ∃ t, exec (.transitTimerExpiry l) s = .next t
      ∧ MovementLost s t l .overdue
      ∧ (s.blowerUsable = true → (t.bus.outgoing.getLast?.map Frame.content) = some (.order .blowerStop)))
  ∧ (∀ (s : State) (x : Exchange) (m : ModuleId) (r : BusReply) (cond : Nat) (l : Lane) (e : TubeEnd),
    s.soundTables = true →
    s.polled x m r cond [.arrived l] →
    s.reportsEnd m l e →
    (s.carrier l).moving = true →
    (e = .teller → (s.carrier l).bound = none) →
    s.tube.requests = [] →
    ∃ t, exec (.wallBusReplyTaken (.fields r)) s = .next t
      ∧ t = { s.logged t with
            tube := { s.tube with
                carriers := s.tube.carriers.set l { s.carrier l with timer := none, location := e.place, seated := true }
                blower := if s.tube.blower = .moving l then if s.tube.setting.value = 0 then .idle else .resting
                  ⟨s.now, s.tube.setting.value⟩ else s.tube.blower }
            bus := ({ s with bus := s.afterPoll m }.retire (.blowerMove l (s.carrier l).direction)).bus }
      ∧ Noted s t
          (s.toServing l (carrierReportOf l (t.carrier l) .arrived none) (carrierReportOf l (t.carrier l) .arrived none))
          [s.stamped {
                kind := .carrierArrived
                lane := numberOf l
                facts := [.tubeEnd e]
                flags := { wrongEnd := decide ((s.carrier l).origin = some e) } }])
  ∧ (∀ (s : State) (x : Exchange) (m : ModuleId) (r : BusReply) (cond : Nat) (l : Lane) (e : TubeEnd),
    s.polled x m r cond [.carrierSeated l] →
    s.reportsEnd m l e →
    (s.carrier l).location = e.place →
    s.tube.requests = [] →
    ∃ t, exec (.wallBusReplyTaken (.fields r)) s = .next t
      ∧ t = { s.logged t with
            tube := { s.tube with carriers := s.tube.carriers.set l { s.carrier l with seated := true } }
            bus := s.afterPoll m }
      ∧ Noted s t (if (s.carrier l).seated = true then [] else s.toServing l
              (carrierReportOf l (t.carrier l) .seated none) (carrierReportOf l (t.carrier l) .seated none)) [])
  ∧ (∀ (s : State) (x : Exchange) (m : ModuleId) (r : BusReply) (cond : Nat) (l : Lane) (e : TubeEnd),
    s.polled x m r cond [.carrierLifted l] →
    s.reportsEnd m l e →
    (s.carrier l).location = e.place →
    (e = .lane → (s.carrier l).bound = none) →
    s.tube.requests = [] →
    ∃ t, exec (.wallBusReplyTaken (.fields r)) s = .next t
      ∧ t = { s.logged t with
            tube := { s.tube with carriers := s.tube.carriers.set l { s.carrier l with seated := false } }
            bus := s.afterPoll m }
      ∧ Noted s t (if (s.carrier l).seated = true then s.toServing l (carrierReportOf l (t.carrier l) .lifted none)
              (carrierReportOf l (t.carrier l) .lifted none) else []) [])
  ∧ (∀ (s : State) (x : Exchange) (m : ModuleId) (r : BusReply) (cond : Nat) (l : Lane) (id : Nat) (i : DispenseSlot) (p : DispenseRecord),
    s.polled x m r cond [.carrierLifted l] →
    s.reportsEnd m l .lane →
    (s.carrier l).location = .lane →
    (s.carrier l).bound = some id →
    s.dispenseOf id = some i →
    s.dispense.records[i] = some p →
    p.state = .inTransit →
    p.lane = l →
    p.decided = none →
    s.tube.requests = [] →
    ∃ t, exec (.wallBusReplyTaken (.fields r)) s = .next t
      ∧ t.dispense.records[i] = none
      ∧ (t.carrier l).bound = none
      ∧ (t.carrier l).seated = false
      ∧ (t.laneRec l).txn = none
      ∧ t.journal.reserved = s.journal.reserved - 1
      ∧ (t.journal.ring[s.journal.ring.length]?).map (fun x => (x.entry.kind, x.entry.lane, x.entry.value)) = some
          (.delivered, numberOf l, p.amount)
      ∧ (∀ k : Lane, k ≠ l → t.laneRec k = s.laneRec k ∧ t.carrier k = s.carrier k)
      ∧ t.cash = s.cash
      ∧ t.screen = s.screen
      ∧ t.deposit = s.deposit
      ∧ t.envelope = s.envelope
      ∧ t.alarm = s.alarm
      ∧ t.bus = s.afterPoll m)

/-- From station 7: READ STATUS, with every table OK, returns each figure of R178 as it stands, the two views of the
attention set by the conditions of R177, and, if it is told to, clears the sticky causes; READ JOURNAL returns up to 8
undrained records from the sequence given, or from the fence, with the journal's figures, and changes no record; DRAIN
JOURNAL of a sequence the ring holds removes the records up to and including it and returns the new fence and free
count; of one that no record holds it empties the ring where the sequence lies ahead of the fence (their difference
modulo 4,294,967,295 below 2,147,483,648), and otherwise, or where the ring is empty, drains nothing. Nothing else
changes. That the fence and the newest read 0 with an empty ring is the model's choice (DESIGN CHOICE, log 80). The
level causes are computed from the state (log 41). (R173, R174, R177, R178) -/
def Obligations.StatusAndJournalAreRead : Prop :=
  (∀ (s : State) (h : Sender) (clear : Bool),
    s.soundTables = true →
    s.supervised h →
    exec (.readStatus h clear) s = .next ({ s with
            link := s.answeredWith h .readStatus .done (.status {
                    partState := s.mgmt.partState
                    timeBase := s.mgmt.timeBase
                    attention := attentionCodes.filter s.causeStands
                    attentionCode := (attentionCodes.find? s.causeStands).getD 0
                    consoleCode := (attentionCodes.find? s.consoleCauseStands).getD 0
                    condition := if s.alarm.lockdown then .lockdown else if s.alarm.duress then .duress else .normal
                    duress := s.alarm.duress
                    lockdown := s.alarm.lockdown
                    silentOutput := s.alarm.silentOutput
                    localOutput := s.alarm.localOutput
                    loops := s.alarm.loops
                    topLoop := ((List.finRange 16).find? fun i => (s.loop i).state == .tripped).bind fun i =>
                      (s.loop i).trip.map fun x => (i, (s.loop i).kind, x)
                    lanes := s.lanes.records
                    writeSelect := s.lanes.writeSelect
                    operateSelect := s.lanes.operateSelect
                    cassettes := (List.finRange 8).map fun c =>
                      ⟨(s.cassette c).shown c, (s.cassette c).count, (s.cassette c).inbound⟩
                    dispensable := s.payable
                    wallNotes := min (s.cash.cassettes.toList.map Cassette.count).sum max32
                    recycler := s.cash.recycler
                    recyclerCondition := s.cash.condition
                    workQueue := s.cash.workQueue
                    dispenses := s.dispense.records.toList.filterMap id
                    sessions := s.deposit.slots
                    captures := s.envelope.slots
                    envelopeCounter := s.envelope.counter
                    depositoryCount := s.envelope.count
                    depositoryCapacity := s.envelope.setting.value
                    carriers := s.tube.carriers
                    tubeQueue := s.tube.requests
                    blower := s.tube.blower
                    modules := s.bus.modules.toList.map fun e => ⟨e.node, e.health, e.orderErrors, e.replyErrors⟩
                    fence := (s.journal.ring.head?.map JournalRecord.seq).getD 0
                    newest := (s.journal.ring.getLast?.map JournalRecord.seq).getD 0
                    free := 512 - s.journal.ring.length
                    reserved := s.journal.reserved
                    overrun := s.journal.overrun })
            mgmt := { s.mgmt with sticky := if clear then {} else s.mgmt.sticky } }))
  ∧ (∀ (s : State) (h : Sender) (start : Nat) (before rest : List JournalRecord) (r : JournalRecord),
    s.supervised h →
    s.journal.ring = before ++ r :: rest →
    (∀ x ∈ before, x.seq ≠ start) →
    r.seq = start →
    exec (.readJournal h start) s = .next ({ s with
            link := s.answeredWith h .readJournal .done (.journal ((r :: rest).take 8) s.journal.fence s.journal.newest
                  s.journal.free s.journal.reserved s.journal.overrun) }))
  ∧ (∀ (s : State) (h : Sender) (start : Nat),
    s.supervised h →
    (∀ x ∈ s.journal.ring, x.seq ≠ start) →
    exec (.readJournal h start) s = .next ({ s with
            link := s.answeredWith h .readJournal .done (.journal (s.journal.ring.take 8) s.journal.fence s.journal.newest
                  s.journal.free s.journal.reserved s.journal.overrun) }))
  ∧ (∀ (s : State) (h : Sender) (seq : Nat) (before rest : List JournalRecord) (r : JournalRecord),
    s.supervised h →
    s.journal.ring = before ++ r :: rest →
    (∀ x ∈ before, x.seq ≠ seq) →
    r.seq = seq →
    exec (.drainJournal h seq) s = .next ({ s with
            journal := { s.journal with ring := rest }
            link := s.answeredWith h .drainJournal .done
              (.drained ((rest.head?.map JournalRecord.seq).getD 0) (512 - rest.length)) }))
  ∧ (∀ (s : State) (h : Sender) (seq : Nat) (r : JournalRecord) (rest : List JournalRecord),
    s.supervised h →
    s.journal.ring = r :: rest →
    (∀ x ∈ s.journal.ring, x.seq ≠ seq) →
    r.seq ≤ 4294967295 →
    ((seq : Int) - r.seq) % 4294967295 < 2147483648 →
    exec (.drainJournal h seq) s = .next
      ({ s with journal := { s.journal with ring := [] }, link := s.answeredWith h .drainJournal .done (.drained 0 512) }))
  ∧ (∀ (s : State) (h : Sender) (seq : Nat) (r : JournalRecord) (rest : List JournalRecord),
    s.supervised h →
    s.journal.ring = r :: rest →
    (∀ x ∈ s.journal.ring, x.seq ≠ seq) →
    r.seq ≤ 4294967295 →
    2147483648 ≤ ((seq : Int) - r.seq) % 4294967295 →
    exec (.drainJournal h seq) s = .next
      ({ s with link := s.answeredWith h .drainJournal .done (.drained r.seq (512 - s.journal.ring.length)) }))
  ∧ (∀ (s : State) (h : Sender) (seq : Nat),
    s.supervised h →
    s.journal.ring = [] →
    exec (.drainJournal h seq) s = .next ({ s with link := s.answeredWith h .drainJournal .done (.drained 0 512) }))

/-- From station 7: GO SERVICE with every check passed is answered ACCEPTED, stands pending, and places DENOMINATIONS
with the eight values; nothing else changes. SUSPEND of a part that is not SUSPENDED makes it so and ends a pending GO
SERVICE, with one PART STATE record and the PART STATE report to station 7 and every signed-on console, answered DONE;
a SUSPENDED part stays so, with no record or report. While GO SERVICE is pending and no work entry waits, the GOOD end
of its DENOMINATIONS puts the part IN SERVICE, with one PART STATE record and the PART STATE reports; a REFUSAL, a
resend that ends SILENT or DAMAGED, and the isolation of the recycler's node while the order waits (with no dispense
or session) leave the part's state as it is, with one GO SERVICE FAILED record and report to station 7 of the cause.
Each ends the pending. RESTART ends it too: the part is SUSPENDED and the response DONE. The tag 0 of its reports is
the model's choice (DESIGN CHOICE, log 79). SUSPEND marks a waiting DENOMINATIONS frame so that its result acts on
nothing (log 14); the PART STATE reports go to station 7, then to the consoles in their order (log 31). A PART STATE
report carries the new state (DESIGN CHOICE, log 78). (R161, R162, R180, R181, R182) -/
def Obligations.GoServiceAndSuspend : Prop :=
  (∀ (s : State) (h : Sender) (m : ModuleId),
    s.soundTables = true →
    s.supervised h →
    s.mgmt.partState ≠ .inService →
    s.mgmt.goPending = false →
    (∃ i : DenomId, 0 < (s.cash.denominations[i]).value) →
    s.recyclerEntry = some m →
    (s.module m).health ≠ .isolated →
    s.entryReachable s.blowerEntry = true →
    workCassettes.any s.servesCash = true →
    (∀ l : Lane, (s.policy l).isOpen = true → (s.stationEntry l).isSome = true) →
    s.bus.outgoing.length < 48 →
    exec (.goService h) s = .next ({ s with
            link := s.answeredWith h .goService .accepted .empty
            mgmt := { s.mgmt with goPending := true }
            bus := { s.bus with
                outgoing := s.bus.outgoing ++
                  [s.orderTo m .management (.denominations (s.cash.denominations.toList.map Denomination.value))] } }))
  ∧ (∀ (s : State) (h : Sender),
    s.supervised h →
    s.mgmt.partState ≠ .suspended →
    ∃ t, exec (.suspend h) s = .next t
      ∧ t = { s.logged t with
            mgmt := { s.mgmt with sticky := t.mgmt.sticky, partState := .suspended, goPending := false }
            bus := (s.retireIf Content.isDenominations).bus }
      ∧ Told s t h .suspend .done .empty (to7 (.partState .suspended) ++ s.toSignedOn (.partState .suspended))
          [s.stamped { kind := .partState }])
  ∧ (∀ (s : State) (h : Sender),
    s.supervised h →
    s.mgmt.partState = .suspended →
    exec (.suspend h) s = .next ({ s with
            link := s.answeredWith h .suspend .done .empty
            mgmt := { s.mgmt with goPending := false }
            bus := (s.retireIf Content.isDenominations).bus }))
  ∧ (∀ (s : State) (x : Exchange) (m : ModuleId) (vs : List Nat) (r : BusReply),
    s.awaits x m →
    x.frame.content = .order (.denominations vs) →
    x.frame.live = true →
    s.mgmt.goPending = true →
    x.window.past s.now = false →
    acknowledges r x (.denominations vs) →
    s.cash.workQueue = [] →
    ∃ t, exec (.wallBusReplyTaken (.fields r)) s = .next t
      ∧ t = { s.logged t with
            mgmt := { s.mgmt with sticky := t.mgmt.sticky, partState := .inService, goPending := false }
            bus := s.afterPoll m }
      ∧ Noted s t (to7 (.partState .inService) ++ s.toSignedOn (.partState .inService)) [s.stamped { kind := .partState }])
  ∧ (∀ (s : State) (x : Exchange) (m : ModuleId) (vs : List Nat) (r : BusReply) (reason : Nat),
    s.awaits x m →
    x.frame.content = .order (.denominations vs) →
    x.frame.live = true →
    s.mgmt.goPending = true →
    x.window.past s.now = false →
    replyAnswers r x →
    r.cls = 7 →
    r.kind = BusOrder.number (.denominations vs) →
    r.body = .refusal reason →
    ∃ t, exec (.wallBusReplyTaken (.fields r)) s = .next t
      ∧ t = { s.logged t with
            mgmt := { s.mgmt with sticky := t.mgmt.sticky, goPending := false }
            bus := { s.bus with outstanding := none } }
      ∧ Noted s t (to7 (.goServiceFailed .refused))
          [s.stamped { kind := .goServiceFailed, detail := reason, facts := [.cause .refused] }])
  ∧ (∀ (s : State) (x : Exchange) (m : ModuleId) (vs : List Nat),
    s.awaits x m →
    x.frame.content = .order (.denominations vs) →
    x.frame.live = true →
    s.mgmt.goPending = true →
    timerDue (some x.window) s.now = true →
    x.isResend = true →
    (s.module m).orderErrors + 8 < 96 →
    ∃ t, exec (.replyWindowExpiry) s = .next t
      ∧ t = { s.logged t with
            mgmt := { s.mgmt with sticky := t.mgmt.sticky, goPending := false }
            bus := { s.bus with
                outstanding := none
                modules := s.bus.modules.set m
                  ((s.module m).recounted ((s.module m).orderErrors + 8) (s.module m).replyErrors) } }
      ∧ Noted s t (to7 (.goServiceFailed .silent))
          [s.stamped { kind := .goServiceFailed, detail := 0, facts := [.cause .silent] }])
  ∧ (∀ (s : State) (x : Exchange) (m : ModuleId) (vs : List Nat) (r : BusReply),
    s.awaits x m →
    x.frame.content = .order (.denominations vs) →
    x.frame.live = true →
    s.mgmt.goPending = true →
    x.window.past s.now = false →
    damages r x →
    x.isResend = true →
    (s.module m).replyErrors + 1 < 96 →
    ∃ t, exec (.wallBusReplyTaken (.fields r)) s = .next t
      ∧ t = { s.logged t with
            mgmt := { s.mgmt with sticky := t.mgmt.sticky, goPending := false }
            bus := { s.bus with
                outstanding := none
                modules := s.bus.modules.set m
                  ((s.module m).recounted (s.module m).orderErrors ((s.module m).replyErrors + 1)) } }
      ∧ Noted s t (to7 (.goServiceFailed .damaged))
          [s.stamped { kind := .goServiceFailed, detail := 0, facts := [.cause .damaged] }])
  ∧ (∀ (s : State) (x : Exchange) (m : ModuleId),
    s.bus.outstanding = some x →
    x.frame.content = .poll →
    s.nodeEntry x.frame.node = some m →
    (s.module m).health ≠ .isolated →
    timerDue (some x.window) s.now = true →
    (s.module m).orderErrors < 256 →
    256 ≤ (s.module m).orderErrors + 8 →
    (s.module m).kind = .recycler →
    s.mgmt.goPending = true →
    s.bus.outgoing.any (fun f => f.node == x.frame.node && f.content.isDenominations && f.live) = true →
    s.dispenses = [] →
    s.sessions = [] →
    s.cash.workQueue = [] →
    ∃ t, exec (.replyWindowExpiry) s = .next t
      ∧ t.mgmt.partState = s.mgmt.partState
      ∧ t.mgmt.goPending = false
      ∧ (t.module m).health = .isolated
      ∧ (∀ f ∈ t.bus.outgoing, f.node ≠ x.frame.node)
      ∧ (s.journal.reserved + 6 ≤ s.journal.free → (t.journal.ring.getLast?).map JournalRecord.entry = some
              (s.stamped { kind := .goServiceFailed, facts := [.cause .nodeIsolated] }))
      ∧ (s.link.used + 8 < 64 → to7 (.goServiceFailed .nodeIsolated) <:+ t.link.reports))
  ∧ (∀ (s : State) (h : Sender),
    s.supervised h →
    ∃ t, exec (.restart h) s = .next t
      ∧ t.mgmt.partState = .suspended
      ∧ t.mgmt.goPending = false
      ∧ (responseTo h .restart .done .empty) ∈ t.link.reports)

/-- From station 7: RESTART leaves the part SUSPENDED, no GO SERVICE pending; no dispense, session, capture, request,
work entry, authorisation, stored half or sign-on remains, each outcome having used its reserved slot; no exchange is
outstanding, no restore in progress, every module is ACTIVE with counters and marks at 0; latches, selects and the
commands waiting are kept; the receive buffer is empty; the response DONE is queued, then the PART STATE report to
station 7, lost only at a full queue. RESET follows those the ring held, or is dropped and counted without a free
slot; the sticky causes are cleared: NODE WATCH and CASSETTE LOW do not stand, nor REPORT LOST with a place left,
JOURNAL OVERRUN with nothing dropped, TABLE FAULT with sound tables. A TRIPPED or unconfigured loop stays as it is;
any other keeps band and configuration, its timers stop, candidate and arm-failed mark go, and it is ARMING with a 10
s timer (ALWAYS) or DISARMED (ON ORDER). A moving carrier is UNKNOWN with cause RESET, not seated, its timer stopped,
CARRIER on its lane; any other keeps its place; every binding is cleared. A MOVING blower has BLOWER STOP placed and
rests (IDLE at once if the rest time is 0); any other stays as it is. Each lane ends settled, a CLOSED one CLOSED,
with no transaction of a record or session left. LOOP and ENVELOPE stay on a lane as they were, CARRIER stays and
joins where the carrier was moving, CASH stays and joins for a dispense that was not QUEUED (or was taken late) and a
session with notes listed, NODE stands where the lane has no station entry. A lane whose transaction ends adopts a
pending profile, no other does. UNRECONCILED joins the cassettes of each pick under way and of notes listed; an
exchange authorised ends; no other cassette figure changes. Parity is recomputed where a module's field changes or the
reset acts on a cassette (log 4); inbound counts stay (DEDUCED, log 84); PART STATE: tag 0 (log 79), new state (log
78), DESIGN CHOICE all. (R16, R40, R72, R93, R110, R122, R138, R157, R169, R182) -/
def Obligations.RestartResolvesEverything : Prop :=
  (∀ (s : State) (h : Sender),
    s.supervised h →
    ∃ t, exec (.restart h) s = .next t
      ∧ ([responseTo h .restart .done .empty, reportItem .supervisor 0 (.partState .suspended)] <:+ t.link.reports ∨
              ([responseTo h .restart .done .empty] <:+ t.link.reports ∧ 64 ≤ t.link.used ∧ t.mgmt.sticky.reportLost =
                  true))
      ∧ t.link.rxBuffer = []
      ∧ t.link.rxPartial = []
      ∧ t.mgmt.partState = .suspended
      ∧ t.mgmt.goPending = false
      ∧ t.mgmt.timeBase = s.mgmt.timeBase
      ∧ (∀ i : DispenseSlot, t.dispense.records[i] = none)
      ∧ (∀ l : Lane, t.session l = none)
      ∧ (∀ l : Lane, t.capture l = none)
      ∧ t.journal.reserved = s.journal.reserved - (s.dispenses.length + s.sessions.length + s.captures.length)
      ∧ t.tube.requests = []
      ∧ t.cash.workQueue = []
      ∧ t.cash.recycler = (if s.cash.recycler = .busy then .ready else s.cash.recycler)
      ∧ t.cash.exchange = none
      ∧ t.envelope.safe = none
      ∧ t.envelope.counter = s.envelope.counter
      ∧ t.envelope.count = s.envelope.count
      ∧ (∀ c : Console, t.binding c = none)
      ∧ (∀ l : Lane, t.screen.pairSlots[l] = none)
      ∧ t.screen.managementSlot = none
      ∧ t.screen.rateWindows = s.screen.rateWindows
      ∧ t.bus.outstanding = none
      ∧ t.bus.resend = none
      ∧ t.bus.restores = []
      ∧ t.bus.ringPos = s.bus.ringPos
      ∧ t.bus.setting = s.bus.setting
      ∧ (∀ m : ModuleId,
            t.module m = (s.module m).changedTo { s.module m with
                orderErrors := 0
                replyErrors := 0
                health := .active
                mark96 := false
                mark128 := false
                mark256 := false })
      ∧ t.alarm.duress = s.alarm.duress
      ∧ t.alarm.lockdown = s.alarm.lockdown
      ∧ t.alarm.silentOutput = s.alarm.silentOutput
      ∧ t.alarm.localOutput = s.alarm.localOutput
      ∧ t.lanes.writeSelect = s.lanes.writeSelect
      ∧ t.lanes.operateSelect = s.lanes.operateSelect
      ∧ t.pending = s.pending)
  ∧ (∀ (s : State) (h : Sender),
    s.supervised h →
    ∃ t, exec (.restart h) s = .next t
      ∧ (s.journal.reserved < s.journal.free → s.journal.ring ++
              [⟨s.journal.nextSeq, s.now, s.stamped { kind := .reset }⟩] <+: t.journal.ring)
      ∧ (s.journal.free ≤ s.journal.reserved → s.journal.ring <+: t.journal.ring ∧ min (s.journal.overrun + 1) 65535 ≤
              t.journal.overrun)
      ∧ t.mgmt.sticky.nodeWatch = false ∧ t.mgmt.sticky.cassetteLow = false
      ∧ (t.link.used < 64 → t.mgmt.sticky.reportLost = false)
      ∧ (t.journal.overrun = s.journal.overrun → t.journal.overrun < 65535 → t.mgmt.sticky.journalOverrun = false)
      ∧ (s.soundTables = true → t.mgmt.sticky.tableFault = false))
  ∧ (∀ (s : State) (h : Sender),
    s.supervised h →
    ∃ t, exec (.restart h) s = .next t
      ∧ (∀ i : LoopId,
            t.loop i = if (s.loop i).kind = .none ∨ (s.loop i).state = .tripped then s.loop i else { s.loop i with
                state := if (s.loop i).armMode = .always then .arming else .disarmed
                armTimer := if (s.loop i).armMode = .always then some ⟨s.now, 10000⟩ else none
                armFailed := false
                qualifyTimer := none
                candidate := none })
      ∧ (∀ l : Lane,
            t.carrier l = if (s.carrier l).moving then { s.carrier l with
                bound := none
                location := .unknown
                cause := some .reset
                seated := false
                timer := none } else { s.carrier l with bound := none })
      ∧ (∀ l : Lane, (s.carrier l).moving = true → (t.laneRec l).holds.carrier = true)
      ∧ ((∀ l : Lane, s.tube.blower ≠ .moving l) → t.tube.blower = s.tube.blower)
      ∧ (∀ l : Lane,
            s.tube.blower = .moving l → (s.soundTables = true → t.tube.blower =
                  (if s.tube.setting.value = 0 then .idle else .resting ⟨s.now, s.tube.setting.value⟩)) ∧
              (∀ m ∈ s.blowerEntry, s.orderTo m .tube .blowerStop ∈ t.bus.outgoing)))
  ∧ (∀ (s : State) (h : Sender),
    s.supervised h →
    ∃ t, exec (.restart h) s = .next t
      ∧ (∀ l : Lane, (t.laneRec l).state = settledState (t.laneRec l) (t.policy l).readsOpen)
      ∧ (∀ l : Lane, (s.laneRec l).state = .closed → (t.laneRec l).state = .closed)
      ∧ (∀ l : Lane, (s.laneRec l).txn = none → (t.laneRec l).txn = none)
      ∧ (∀ l : Lane, (s.laneRec l).holds.loop = true → (t.laneRec l).holds.loop = true)
      ∧ (∀ l : Lane, (s.laneRec l).holds.carrier = true → (t.laneRec l).holds.carrier = true)
      ∧ (∀ l : Lane, (s.laneRec l).holds.cash = true → (t.laneRec l).holds.cash = true)
      ∧ (∀ l : Lane, (s.laneRec l).holds.envelope = true → (t.laneRec l).holds.envelope = true)
      ∧ (∀ l : Lane, (t.laneRec l).holds = s.holdsReset l)
      ∧ (∀ l : Lane, (t.laneRec l).txn = if s.resetCloses l then none else (s.laneRec l).txn)
      ∧ (∀ l : Lane, (t.laneRec l).switchPending = ((s.laneRec l).switchPending && !s.resetCloses l))
      ∧ (∀ l : Lane,
            (t.laneRec l).profile = if (s.laneRec l).switchPending = true ∧ s.resetCloses l = true then
              s.lanes.operateSelect else (s.laneRec l).profile)
      ∧ PoliciesKept s t
      ∧ (∀ c : CassetteId, t.cassette c = s.cassetteReset c)
      ∧ (∀ i : DispenseSlot, ∀ r ∈ s.dispense.records[i],
            (t.laneRec r.lane).txn = none ∧ (r.state ≠ .queued → (t.laneRec r.lane).holds.cash = true))
      ∧ (∀ l : Lane, ∀ x ∈ s.session l,
            (t.laneRec l).txn = none ∧ (x.running = true → x.transit ≠ [] → (t.laneRec l).holds.cash = true)))

/-- The expiry command of a timer that is not running, or whose age is below its duration, leaves the state as it was:
the model takes such a command as one that does not yet come (log 3). (R179) -/
def Obligations.ExpiriesNotDueChangeNothing : Prop :=
  (∀ (s : State) (l : Lane),
    (s.screen.pairSlots[l]).all (fun p => !timerDue (some p.timer) s.now) = true →
    exec (.pairTimerExpiry l) s = .next (s))
  ∧ (∀ (s : State),
    s.screen.managementSlot.all (fun p => !timerDue (some p.timer) s.now) = true →
    exec (.managementPairTimerExpiry) s = .next (s))
  ∧ (∀ (s : State) (id : Nat),
    s.dueDispense id .picking DispenseRecord.reportTimer = none →
    exec (.pickReportTimerExpiry id) s = .next (s))
  ∧ (∀ (s : State) (id : Nat),
    s.dueDispense id .presented DispenseRecord.reportTimer = none →
    exec (.retractReportTimerExpiry id) s = .next (s))
  ∧ (∀ (s : State) (id : Nat),
    s.dueDispense id .presented DispenseRecord.presentTimer = none →
    exec (.presentTimerExpiry id) s = .next (s))
  ∧ (∀ (s : State),
    timerDue (s.cash.exchange.map ExchangeAuth.expiry) s.now = false →
    exec (.exchangeAuthorisationExpiry) s = .next (s))
  ∧ (∀ (s : State) (l : Lane),
    (s.session l).all (fun x => x.state != .active || !timerDue x.idleTimer s.now) = true →
    exec (.idleTimerExpiry l) s = .next (s))
  ∧ (∀ (s : State) (l : Lane),
    (s.session l).all (fun x => x.state != .ending || !timerDue x.endTimer s.now) = true →
    exec (.endTimerExpiry l) s = .next (s))
  ∧ (∀ (s : State) (l : Lane),
    (s.capture l).all (fun c => !timerDue (some c.timer) s.now) = true →
    exec (.completionTimerExpiry l) s = .next (s))
  ∧ (∀ (s : State),
    (match s.envelope.safe with | some (.waiting tm) => timerDue (some tm) s.now | _ => false) = false →
    exec (.safeOpeningExpiry) s = .next (s))
  ∧ (∀ (s : State),
    (match s.tube.blower with | .resting tm => timerDue (some tm) s.now | _ => false) = false →
    exec (.restTimerExpiry) s = .next (s))
  ∧ (∀ (s : State) (l : Lane),
    (s.carrier l).moving = false ∨ timerDue (s.carrier l).timer s.now = false →
    exec (.transitTimerExpiry l) s = .next (s))
  ∧ (∀ (s : State) (i : LoopId),
    (s.loop i).state ≠ .arming ∨ timerDue (s.loop i).armTimer s.now = false →
    exec (.armTimerExpiry i) s = .next (s))
  ∧ (∀ (s : State) (i : LoopId),
    (s.loop i).state ≠ .qualifying ∨ timerDue (s.loop i).qualifyTimer s.now = false →
    exec (.qualifyTimerExpiry i) s = .next (s))
  ∧ (∀ (s : State),
    timerDue (s.bus.outstanding.map Exchange.window) s.now = false →
    exec (.replyWindowExpiry) s = .next (s))

/-- When the pair timer of a lane's half, or of the management half, is due, its slot empties, one PAIR EXPIRED record
is written, a PAIR EXPIRED report with the stored tag goes to the stored station with a copy to station 7 (to station
7 for the management half), and nothing else changes. A report to a console stands before its copy to station 7
(DESIGN CHOICE, log 31). Which of lane, station, credential, index and value a PAIR EXPIRED record carries (those of
the half, station 7 for the management half) is the model's choice (DESIGN CHOICE, log 75). (R30, R33, R35, R37) -/
def Obligations.PairHalvesExpire : Prop :=
  (∀ (s : State) (l : Lane) (p : PairHalf),
    s.screen.pairSlots[l] = some p →
    1000 * p.window ≤ age s.now p.arrival →
    ∃ t, exec (.pairTimerExpiry l) s = .next t
      ∧ t = { s.logged t with screen := { s.screen with pairSlots := s.screen.pairSlots.set l none } }
      ∧ Noted s t (copied (.console p.station) p.tag .pairExpired .pairExpired) [s.stamped {
                kind := .pairExpired
                lane := numberOf l
                station := numberOf p.station
                credential := p.credential
                authIndex := numberOf p.index
                value := p.amount
                facts := [.tag p.tag] }])
  ∧ (∀ (s : State) (p : MgmtHalf),
    s.screen.managementSlot = some p →
    1000 * p.window ≤ age s.now p.arrival →
    ∃ t, exec (.managementPairTimerExpiry) s = .next t
      ∧ t = { s.logged t with screen := s.slotEmptied }
      ∧ Noted s t [reportItem .supervisor p.tag .pairExpired]
          [s.stamped { kind := .pairExpired, station := 7, facts := [.tag p.tag] }])

/-- When due: the present timer sets retract ordered, places RETRACT with the pick tag (a free value where the record
has none, log 49) and starts the 30 s report timer, and nothing else changes; the report timer of a pick not in
recovery marks the record IN DOUBT, tells station 7 alone, and places the first STATUS QUERY, and that of one waiting
after RUNNING places the next or, after the third, ends it IN DOUBT; the report timer of an ordered retract ends the
dispense IN DOUBT (with entries in the work queue the arbiter may then start one): record free, outcome written into
its reserved slot, CASH on the lane, which has no transaction and joins the in-doubt lane set. A RETRACT's refusal
does the same (the work queue empty). The answer to a record's STATUS QUERY, its PICK the one running: COUNTS of one
cassette worth the amount presents the bundle as a PICK REPORT would; RUNNING starts the 30 s report timer and the
record waits; the first NOT RECEIVED re-issues the PICK under the next tag with its report timer, query count 0 and a
RE-ISSUE record of both tags, or, while a cassette of its plan or P is latched, drops tag, timer and IN DOUBT and lets
the entry wait, a first pick's record QUEUED; a second NOT RECEIVED ends it IN DOUBT, every cassette of the pick
UNRECONCILED; no valid answer (a refusal, or a resent query lost) places the next query, and after the third ends it
IN DOUBT. The RE-ISSUE record's lane, station, credential and index, and the DURESS that joins at each end of a STATUS
QUERY, are the model's choices (DESIGN CHOICE, logs 75 and 67). A re-issued PICK's record keeps IN DOUBT, and a later
loss enters recovery again (DEDUCED, log 26). Of several records with one tag the first of the table is taken (DESIGN
CHOICE, log 56). IN DOUBT recomputes the parity of each cassette of the pick (log 4), and a latched NOT RECEIVED keeps
the query count (log 92), DESIGN CHOICE both. (R54, R55, R62, R66, R69, R70, R162, R163, R167) -/
def Obligations.DispenseTimersAndQueriesMoveTheDispense : Prop :=
  (∀ (s : State) (id : Nat) (i : DispenseSlot) (r : DispenseRecord) (m : ModuleId),
    s.dueDispense id .presented DispenseRecord.presentTimer = some i →
    s.dispense.records[i] = some r →
    s.recyclerEntry = some m →
    s.bus.outgoing.length < 48 →
    exec (.presentTimerExpiry id) s = .next ({ s with
            dispense := { s.dispense with
                records := s.dispense.records.set i (some { r with
                        flags := { r.flags with duress := r.flags.duress || s.alarm.duress, retractOrdered := true }
                        presentTimer := none
                        reportTimer := some ⟨s.now, 30000⟩ }) }
            bus := { s.bus with outgoing := s.bus.outgoing ++ [s.orderTo m .dispense (.retract r.trayTag)] } }))
  ∧ (∀ (s : State) (id : Nat) (i : DispenseSlot) (r : DispenseRecord) (m : ModuleId),
    s.dueDispense id .picking DispenseRecord.reportTimer = some i →
    s.dispense.records[i] = some r →
    r.recovery = .notUnderWay →
    r.queryCount < 3 →
    s.recyclerEntry = some m →
    s.bus.outgoing.length < 48 →
    s.cash.recycler = .busy →
    ∃ t, exec (.pickReportTimerExpiry id) s = .next t
      ∧ t = { s.logged t with
            dispense := { s.dispense with
                records := s.dispense.records.set i (some { r with
                        flags := { r.flags with duress := r.flags.duress || s.alarm.duress, inDoubt := true }
                        reportTimer := none
                        queryCount := r.queryCount + 1
                        recovery := .querying }) }
            bus :=
              { s.bus with outgoing := s.bus.outgoing ++ [s.orderTo m .dispense (.statusQuery (r.pickTag.getD 0))] } }
      ∧ Noted s t [reportItem .supervisor r.tag (.dispense r.id (numberOf r.lane) .inDoubt none r.presentedValue r.notes
                  (some { r.flags with duress := r.flags.duress || s.alarm.duress, inDoubt := true }))] [])
  ∧ (∀ (s : State) (id : Nat) (i : DispenseSlot) (r : DispenseRecord) (m : ModuleId),
    s.dueDispense id .picking DispenseRecord.reportTimer = some i →
    s.dispense.records[i] = some r →
    r.recovery = .waiting →
    r.queryCount < 3 →
    s.recyclerEntry = some m →
    s.bus.outgoing.length < 48 →
    s.cash.recycler = .busy →
    ∃ t, exec (.pickReportTimerExpiry id) s = .next t
      ∧ t = { s with
            dispense := { s.dispense with
                records := s.dispense.records.set i (some { s.dispenseTouched r with
                        reportTimer := none
                        queryCount := r.queryCount + 1
                        recovery := .querying }) }
            bus :=
              { s.bus with outgoing := s.bus.outgoing ++ [s.orderTo m .dispense (.statusQuery (r.pickTag.getD 0))] } })
  ∧ (∀ (s : State) (id : Nat) (i : DispenseSlot) (r : DispenseRecord),
    s.dueDispense id .picking DispenseRecord.reportTimer = some i →
    s.dispense.records[i] = some r →
    r.recovery = .waiting →
    3 ≤ r.queryCount →
    s.bus.outgoing.length < 48 →
    ∃ t, exec (.pickReportTimerExpiry id) s = .next t
      ∧ PickInDoubt s t i r)
  ∧ (∀ (s : State) (id : Nat) (i : DispenseSlot) (r : DispenseRecord),
    s.dueDispense id .presented DispenseRecord.reportTimer = some i →
    s.dispense.records[i] = some r →
    (∀ e ∈ s.cash.workQueue, e.isPickOf r.id = false) →
    s.bus.outgoing.length < 48 →
    ∃ t, exec (.retractReportTimerExpiry id) s = .next t
      ∧ t.dispense.records[i] = none
      ∧ r.lane ∈ t.dispense.inDoubtLanes
      ∧ (t.laneRec r.lane).txn = none
      ∧ (t.laneRec r.lane).holds.cash = true
      ∧ (∀ l : Lane, l ≠ r.lane → t.laneRec l = s.laneRec l)
      ∧ t.journal.reserved = s.journal.reserved - 1
      ∧ (t.journal.ring[s.journal.ring.length]?).map (fun x => (x.entry.kind, x.entry.lane, x.entry.value)) = some
          (.inDoubt, numberOf r.lane, r.amount)
      ∧ t.cash.cassettes = s.cash.cassettes
      ∧ t.screen = s.screen
      ∧ t.envelope = s.envelope
      ∧ t.tube = s.tube
      ∧ t.alarm = s.alarm)
  ∧ (∀ (s : State) (id : Nat) (i : DispenseSlot) (r : DispenseRecord),
    s.dueDispense id .presented DispenseRecord.reportTimer = some i →
    s.dispense.records[i] = some r →
    s.cash.workQueue = [] →
    ∃ t, exec (.retractReportTimerExpiry id) s = .next t
      ∧ t.dispense.records[i] = none
      ∧ r.lane ∈ t.dispense.inDoubtLanes
      ∧ (t.laneRec r.lane).txn = none
      ∧ (t.laneRec r.lane).holds.cash = true
      ∧ (∀ l : Lane, l ≠ r.lane → t.laneRec l = s.laneRec l)
      ∧ t.journal.reserved = s.journal.reserved - 1
      ∧ (t.journal.ring[s.journal.ring.length]?).map (fun x => (x.entry.kind, x.entry.lane, x.entry.value)) = some
          (.inDoubt, numberOf r.lane, r.amount)
      ∧ t.cash = s.cash
      ∧ t.screen = s.screen
      ∧ t.deposit = s.deposit
      ∧ t.envelope = s.envelope
      ∧ t.tube = s.tube
      ∧ t.alarm = s.alarm
      ∧ t.bus = s.bus)
  ∧ (∀ (s : State) (x : Exchange) (m : ModuleId) (r : BusReply) (i : DispenseSlot) (p : DispenseRecord) (tag reason : Nat),
    s.awaits x m →
    x.frame.content = .order (.retract tag) →
    x.window.past s.now = false →
    replyAnswers r x →
    r.cls = 7 →
    r.kind = 2 →
    r.body = .refusal reason →
    s.findDispense (fun q => q.state == .presented && q.trayTag == tag && q.flags.retractOrdered) = some i →
    s.dispense.records[i] = some p →
    s.cash.workQueue = [] →
    ∃ t, exec (.wallBusReplyTaken (.fields r)) s = .next t
      ∧ t.dispense.records[i] = none
      ∧ p.lane ∈ t.dispense.inDoubtLanes
      ∧ (t.laneRec p.lane).txn = none
      ∧ (t.laneRec p.lane).holds.cash = true
      ∧ (∀ l : Lane, l ≠ p.lane → t.laneRec l = s.laneRec l)
      ∧ t.journal.reserved = s.journal.reserved - 1
      ∧ (t.journal.ring[s.journal.ring.length]?).map
          (fun x => (x.entry.kind, x.entry.lane, x.entry.value, x.entry.detail)) = some
          (.inDoubt, numberOf p.lane, p.amount, reason)
      ∧ t.cash = s.cash
      ∧ t.screen = s.screen
      ∧ t.deposit = s.deposit
      ∧ t.envelope = s.envelope
      ∧ t.tube = s.tube
      ∧ t.alarm = s.alarm
      ∧ t.bus = { s.bus with outstanding := none })
  ∧ (∀ (s : State) (x : Exchange) (m : ModuleId) (r : BusReply) (i : DispenseSlot) (p : DispenseRecord) (tag status n q : Nat) (c : Fin 6) (k : CassetteId),
    s.queries x m i p tag →
    answersQuery r x 1 (some ⟨tag, status, [⟨numberOf c, n, q⟩]⟩) →
    status = 1 ∨ status = 2 →
    s.takesPick i p tag c k n q →
    s.worthAfter p c n = p.amount →
    s.alarm.lockdown = false →
    ∃ t, exec (.wallBusReplyTaken (.fields r)) s = .next t
      ∧ t.dispense = { s.dispense with records := s.withRecord i (s.presentedNow (s.dispenseCounted p c n q)) }
      ∧ t.cash.cassettes = s.cassettesPicked k n q
      ∧ t.journal.reserved = s.journal.reserved
      ∧ t.screen = s.screen
      ∧ t.envelope = s.envelope
      ∧ t.tube = s.tube
      ∧ t.alarm = s.alarm)
  ∧ (∀ (s : State) (x : Exchange) (m : ModuleId) (r : BusReply) (i : DispenseSlot) (p : DispenseRecord) (tag : Nat),
    s.queries x m i p tag →
    answersQuery r x 2 none →
    exec (.wallBusReplyTaken (.fields r)) s = .next ({ s with
            dispense := { s.dispense with
                records := s.withRecord i
                  { s.dispenseTouched p with recovery := .waiting, reportTimer := some ⟨s.now, 30000⟩ } }
            bus := s.afterPoll m }))
  ∧ (∀ (s : State) (x : Exchange) (m : ModuleId) (r : BusReply) (i : DispenseSlot) (p : DispenseRecord) (tag : Nat),
    s.queries x m i p tag →
    answersQuery r x 3 none →
    p.reissued = false →
    s.cassettesAllow p.currentPlan = true →
    s.recyclerEntry = some m →
    s.bus.outgoing.length < 48 →
    s.cash.recycler = .busy →
    ∃ t, exec (.wallBusReplyTaken (.fields r)) s = .next t
      ∧ t = { s.logged t with
            dispense := { s.dispense with
                lastTag := if s.dispense.lastTag = 65535 then 1 else s.dispense.lastTag + 1
                records := s.withRecord i { s.dispenseTouched p with
                    reissued := true
                    pickTag := some t.dispense.lastTag
                    queryCount := 0
                    recovery := .notUnderWay
                    reportTimer := some ⟨s.now, 30000⟩ } }
            bus := { s.afterPoll m with
                outgoing := s.bus.outgoing ++ [s.orderTo m .dispense (.pick t.dispense.lastTag p.currentPlan)] } }
      ∧ Noted s t [] [s.stamped { p.entry .reIssue with facts := [.tags tag t.dispense.lastTag] }])
  ∧ (∀ (s : State) (x : Exchange) (m : ModuleId) (r : BusReply) (i : DispenseSlot) (p : DispenseRecord) (tag : Nat),
    s.queries x m i p tag →
    answersQuery r x 3 none →
    p.reissued = false →
    p.topUp = none →
    s.cassettesAllow p.plan = false →
    s.runsOnly p.id →
    (∀ e ∈ s.cash.workQueue, e.work = .pick p.id p.plan false) →
    ∃ t, exec (.wallBusReplyTaken (.fields r)) s = .next t
      ∧ t = { s.logged t with
            dispense := { s.dispense with
                records := s.withRecord i { p with
                    flags := { p.flags with duress := p.flags.duress || s.alarm.duress, inDoubt := false }
                    reissued := true
                    pickTag := none
                    reportTimer := none
                    recovery := .notUnderWay
                    state := .queued } }
            cash :=
              { s.cash with recycler := .ready, workQueue := s.cash.workQueue.map fun e => { e with running := false } }
            bus := s.afterPoll m }
      ∧ (s.journal.reserved + 6 ≤ s.journal.free → s.stamped { p.entry .reIssue with facts := [.tag tag] } ∈
              t.journal.ring.map JournalRecord.entry))
  ∧ (∀ (s : State) (x : Exchange) (m : ModuleId) (r : BusReply) (i : DispenseSlot) (p : DispenseRecord) (tag : Nat),
    s.queries x m i p tag →
    answersQuery r x 3 none →
    p.reissued = true →
    s.bus.outgoing.length < 48 →
    ∃ t, exec (.wallBusReplyTaken (.fields r)) s = .next t
      ∧ PickInDoubt s t i p)
  ∧ (∀ (s : State) (x : Exchange) (m : ModuleId) (r : BusReply) (i : DispenseSlot) (p : DispenseRecord) (tag reason : Nat),
    s.queries x m i p tag →
    replyAnswers r x →
    r.cls = 7 →
    r.kind = 3 →
    r.body = .refusal reason →
    p.queryCount < 3 →
    s.recyclerEntry = some m →
    s.bus.outgoing.length < 48 →
    s.cash.recycler = .busy →
    ∃ t, exec (.wallBusReplyTaken (.fields r)) s = .next t
      ∧ t = { s with
            dispense :=
              { s.dispense with records := s.withRecord i { s.dispenseTouched p with queryCount := p.queryCount + 1 } }
            bus := { s.bus with
                outstanding := none
                outgoing := s.bus.outgoing ++ [s.orderTo m .dispense (.statusQuery tag)] } })
  ∧ (∀ (s : State) (x : Exchange) (m : ModuleId) (i : DispenseSlot) (p : DispenseRecord) (tag : Nat),
    s.awaits x m →
    x.frame.content = .order (.statusQuery tag) →
    x.isResend = true →
    timerDue (some x.window) s.now = true →
    (s.module m).orderErrors + 8 < 96 →
    s.findDispense (fun r => r.state == .picking && r.pickTag == some tag && r.recovery == .querying) = some i →
    s.dispense.records[i] = some p →
    p.queryCount < 3 →
    s.recyclerEntry = some m →
    s.bus.outgoing.length < 48 →
    s.cash.recycler = .busy →
    ∃ t, exec (.replyWindowExpiry) s = .next t
      ∧ t = { s with
            dispense :=
              { s.dispense with records := s.withRecord i { s.dispenseTouched p with queryCount := p.queryCount + 1 } }
            bus := { s.bus with
                outstanding := none
                outgoing := s.bus.outgoing ++ [s.orderTo m .dispense (.statusQuery tag)]
                modules := s.bus.modules.set m
                  ((s.module m).recounted ((s.module m).orderErrors + 8) (s.module m).replyErrors) } })
  ∧ (∀ (s : State) (x : Exchange) (m : ModuleId) (r : BusReply) (i : DispenseSlot) (p : DispenseRecord) (tag reason : Nat),
    s.queries x m i p tag →
    replyAnswers r x →
    r.cls = 7 →
    r.kind = 3 →
    r.body = .refusal reason →
    3 ≤ p.queryCount →
    s.bus.outgoing.length < 48 →
    ∃ t, exec (.wallBusReplyTaken (.fields r)) s = .next t
      ∧ PickInDoubt s t i p)

/-- When due: the Exchange Authorisation ends with EXPIRY, its cassette's cause EXCHANGE leaves, with a record and a
report (with the work queue empty); the Safe Opening Authorisation in WAITING ends with a SAFE CLOSE record and a
DEPOSITORY report, the count unchanged; a capture is voided with reason TIMEOUT: its slot is free and its VOID outcome
stands in its reserved slot. Nothing else changes. The tag 0 of its reports is the model's choice (DESIGN CHOICE, log
79). A CAPTURE still on the outgoing queue stays there when its capture is voided (DESIGN CHOICE, log 61). The
EXCHANGE END record names the cassette (log 75), its report has cassette and reason (log 78) and stands behind the
CASSETTE STATE report (log 31), DESIGN CHOICE all. (R77, R85, R117, R121) -/
def Obligations.AuthorisationsAndCapturesExpire : Prop :=
  (∀ (s : State) (a : ExchangeAuth),
    s.soundTables = true →
    s.cash.exchange = some a →
    timerDue (some a.expiry) s.now = true →
    s.cash.workQueue = [] →
    ∃ t, exec (.exchangeAuthorisationExpiry) s = .next t
      ∧ t = { s.logged t with
            cash := { s.cash with
                exchange := none
                cassettes := s.cash.cassettes.set a.cassette
                  { s.cassette a.cassette with causes := { (s.cassette a.cassette).causes with exchange := false } } } }
      ∧ Noted s t (s.shownChange t a.cassette ++ to7 (.exchangeEnd a.cassette .expiry))
          [s.stamped { kind := .exchangeEnd, facts := [.cassette a.cassette, .cause .expiry] }])
  ∧ (∀ (s : State) (tm : Timer),
    s.envelope.safe = some (.waiting tm) →
    timerDue (some tm) s.now = true →
    ∃ t, exec (.safeOpeningExpiry) s = .next t
      ∧ t = { s.logged t with envelope := { s.envelope with safe := none } }
      ∧ Noted s t (to7 (.depository s.envelope.count s.envelope.setting.value s.inProgress))
          [s.stamped { kind := .safeClose, facts := [.cause .expiry] }])
  ∧ (∀ (s : State) (l : Lane) (c : Capture),
    s.capture l = some c →
    timerDue (some c.timer) s.now = true →
    ∃ t, exec (.completionTimerExpiry l) s = .next t
      ∧ t = { s.logged t with envelope := { s.envelope with slots := s.envelope.slots.set l none } }
      ∧ t.journal = { s.journal.append s.now (s.stamped { kind := .void, lane := numberOf l, value := c.number, noteCount := s.envelope.count, detail := 3, flags := { duress := c.duress, inDoubt := c.inDoubt } }) with
            reserved := s.journal.reserved - 1 })

/-- When due: the idle timer of an ACTIVE session moves it to ENDING with cause IDLE, places ACCEPT END, starts the 30
s end timer, reports, and nothing else changes; the end timer of an ENDING session with nothing in transport closes it
with END UNCONFIRMED: the slot is free, its CLOSED outcome carries its value in its reserved slot, and its lane has no
transaction. A console's report carries no flags (DESIGN CHOICE, log 58). A report to a console stands before its copy
to station 7 (DESIGN CHOICE, log 31). (R95, R103, R105, R108, R109) -/
def Obligations.DepositTimersExpire : Prop :=
  (∀ (s : State) (l : Lane) (x : Session) (m : ModuleId),
    s.session l = some x →
    x.state = .active →
    timerDue x.idleTimer s.now = true →
    s.recyclerEntry = some m →
    s.bus.outgoing.length < 48 →
    ∃ t, exec (.idleTimerExpiry l) s = .next t
      ∧ t = { s.logged t with
            deposit := { s.deposit with slots := s.deposit.slots.set l (some (s.endingSession x .idle)) }
            bus := { s.bus with outgoing := s.bus.outgoing ++ [s.orderTo m .deposit (.acceptEnd l)] } }
      ∧ Noted s t (copied x.reportStation x.tag ((s.endingSession x .idle).report l (.ending .idle) none false)
              ((s.endingSession x .idle).report l (.ending .idle) none true)) [])
  ∧ (∀ (s : State) (l : Lane) (x : Session),
    s.session l = some x →
    x.state = .ending →
    timerDue x.endTimer s.now = true →
    x.transit = [] →
    s.bus.outgoing.length < 48 →
    ∃ t, exec (.endTimerExpiry l) s = .next t
      ∧ t.deposit = { s.deposit with slots := s.deposit.slots.set l none }
      ∧ (t.laneRec l).txn = none
      ∧ t.journal.reserved = s.journal.reserved - 1
      ∧ (t.journal.ring[s.journal.ring.length]?).map
          (fun r => (r.entry.kind, r.entry.lane, r.entry.value, r.entry.flags.endUnconfirmed)) = some
          (.closed, numberOf l, x.value, true)
      ∧ (∀ k : Lane, k ≠ l → t.laneRec k = s.laneRec k)
      ∧ t.cash.cassettes = s.cash.cassettes
      ∧ t.screen = s.screen
      ∧ t.envelope = s.envelope
      ∧ t.tube = s.tube
      ∧ t.alarm = s.alarm
      ∧ t.bus.modules = s.bus.modules)

/-- Bands: below 150 SHORTED, to 399 SECURE, to 799 ACTIVE, above CUT. In WATCHING a SECURE reading changes the band
alone, any other starts qualification for the qualify time. In QUALIFYING a SECURE reading returns to WATCHING, one of
the candidate's group changes the band alone, and one of the other group restarts qualification. In TRIPPED it changes
the band alone, but the return to SECURE of the open set's last SAFE DOOR loop empties the depository. In ARMING a
SECURE reading makes it WATCHING, with a LOOP ARMED record and a LOOP report. A loop of kind NONE is not read. When
due: the arm timer of an ARMING loop marks it, with an ARM FAILED record and a LOOP report; the qualify timer of a
QUALIFYING loop trips it with its candidate as cause, with a LOOP TRIP record and a LOOP report. By ACTIVE, no Safe
Opening Authorisation standing for a SAFE DOOR loop: NOTIFY, or a latch already set, has no further effect; DURESS
with the latch clear sets the duress latch and the silent-alarm output; SUSPEND CASSETTES adds the loop to the
suspension causes of cassettes 1 to 6; LOCKDOWN with the latch clear sets the lockdown latch and the local-alarm
output, and leaves only running work entries, no exchange authorised, no TO LANE request, no PRESENTED dispense
without a retract ordered, no ACTIVE session. LANE HOLD by ACTIVE, and a FAULT trip (NOTIFY and LANE HOLD) not of
TAMPER or SAFE DOOR, post LOOP to the loop's lane with its HOLD record and LANE STATE reports; such a FAULT trip with
lane 0 applies NOTIFY. A SAFE DOOR loop that trips by ACTIVE under a Safe Opening Authorisation applies NOTIFY and
joins its open set, with a SAFE DOOR OPENED record. But for LOCKDOWN nothing else changes. DEDUCED: a trip's reading
(log 42), one DEPOSITORY report (log 38). DESIGN CHOICE: report order (log 31), the lane of LOOP ARMED, ARM FAILED and
duress CONDITION SET records (log 75), what a LOOP report carries (log 78), parity at a restart (log 81), EMPTIED's
note count (log 62). (R9, R121, R139, R141, R143, R144, R146, R147, R148, R150, R151) -/
def Obligations.LoopReadingsAndTimersMoveTheLoop : Prop :=
  (∀ (s : State) (i : LoopId) (n : Nat),
    (s.loop i).kind ≠ .none →
    (s.loop i).state = .watching →
    150 ≤ n ∧ n ≤ 399 →
    exec (.loopReading i n) s = .next ({ s with
            alarm := { s.alarm with loops := s.alarm.loops.set i { s.loop i with band := some .secure, reading := n } } }))
  ∧ (∀ (s : State) (i : LoopId) (n : Nat),
    s.soundTables = true →
    (s.loop i).kind ≠ .none →
    (s.loop i).state = .watching →
    400 ≤ n ∧ n ≤ 799 →
    exec (.loopReading i n) s = .next ({ s with
            alarm := { s.alarm with
                loops := s.alarm.loops.set i { s.loop i with
                    band := some .active
                    reading := n
                    state := .qualifying
                    candidate := some (.active, s.now)
                    qualifyTimer := some ⟨s.now, (s.loop i).qualify⟩ } } }))
  ∧ (∀ (s : State) (i : LoopId) (n : Nat),
    s.soundTables = true →
    (s.loop i).kind ≠ .none →
    (s.loop i).state = .watching →
    n < 150 ∨ 800 ≤ n →
    exec (.loopReading i n) s = .next ({ s with
            alarm := { s.alarm with
                loops := s.alarm.loops.set i { s.loop i with
                    band := if n < 150 then some .shorted else some .cut
                    reading := n
                    state := .qualifying
                    candidate := some (.fault, s.now)
                    qualifyTimer := some ⟨s.now, (s.loop i).qualify⟩ } } }))
  ∧ (∀ (s : State) (i : LoopId) (n : Nat),
    (s.loop i).kind ≠ .none →
    (s.loop i).state = .qualifying →
    150 ≤ n ∧ n ≤ 399 →
    exec (.loopReading i n) s = .next ({ s with
            alarm := { s.alarm with
                loops := s.alarm.loops.set i { s.loop i with
                    band := some .secure
                    reading := n
                    state := .watching
                    candidate := none
                    qualifyTimer := none } } }))
  ∧ (∀ (s : State) (i : LoopId) (n : Nat) (start : Time),
    (s.loop i).kind ≠ .none →
    (s.loop i).state = .qualifying →
    (s.loop i).candidate = some (.active, start) ∧ 400 ≤ n ∧ n ≤ 799 ∨ (s.loop i).candidate = some (.fault, start) ∧
      (n < 150 ∨ 800 ≤ n) →
    exec (.loopReading i n) s = .next ({ s with
            alarm := { s.alarm with
                loops := s.alarm.loops.set i { s.loop i with
                    band := if n < 150 then some .shorted else if n < 800 then some .active else some .cut
                    reading := n } } }))
  ∧ (∀ (s : State) (i : LoopId) (n : Nat) (start : Time),
    s.soundTables = true →
    (s.loop i).kind ≠ .none →
    (s.loop i).state = .qualifying →
    (s.loop i).candidate = some (.fault, start) →
    400 ≤ n ∧ n ≤ 799 →
    exec (.loopReading i n) s = .next ({ s with
            alarm := { s.alarm with
                loops := s.alarm.loops.set i { s.loop i with
                    band := some .active
                    reading := n
                    candidate := some (.active, s.now)
                    qualifyTimer := some ⟨s.now, (s.loop i).qualify⟩ } } }))
  ∧ (∀ (s : State) (i : LoopId) (n : Nat) (start : Time),
    s.soundTables = true →
    (s.loop i).kind ≠ .none →
    (s.loop i).state = .qualifying →
    (s.loop i).candidate = some (.active, start) →
    n < 150 ∨ 800 ≤ n →
    exec (.loopReading i n) s = .next ({ s with
            alarm := { s.alarm with
                loops := s.alarm.loops.set i { s.loop i with
                    band := if n < 150 then some .shorted else some .cut
                    reading := n
                    candidate := some (.fault, s.now)
                    qualifyTimer := some ⟨s.now, (s.loop i).qualify⟩ } } }))
  ∧ (∀ (s : State) (i : LoopId) (n : Nat),
    (s.loop i).kind ≠ .none →
    (s.loop i).state = .tripped →
    (s.loop i).kind ≠ .safeDoor ∨ n < 150 ∨ 400 ≤ n ∨ (s.loop i).band = some .secure →
    exec (.loopReading i n) s = .next ({ s with
            alarm := { s.alarm with
                loops := s.alarm.loops.set i { s.loop i with
                    band := if n < 150 then some .shorted else if n < 400 then some .secure else if n < 800 then some
                      .active else some .cut
                    reading := n } } }))
  ∧ (∀ (s : State) (i : LoopId) (n : Nat),
    (s.loop i).kind = .safeDoor →
    (s.loop i).state = .tripped →
    150 ≤ n ∧ n ≤ 399 →
    (s.loop i).band ≠ some .secure →
    s.envelope.safe = some (.opened [i]) →
    ∃ t, exec (.loopReading i n) s = .next t
      ∧ t = { s.logged t with
            alarm := { s.alarm with loops := s.alarm.loops.set i { s.loop i with band := some .secure, reading := n } }
            envelope := { s.envelope with count := 0, safe := none } }
      ∧ Noted s t (to7 (.depository 0 s.envelope.setting.value s.inProgress))
          [s.stamped { kind := .emptied, noteCount := s.envelope.count }])
  ∧ (∀ (s : State) (i : LoopId) (n : Nat),
    (s.loop i).kind ≠ .none →
    (s.loop i).state = .arming →
    150 ≤ n ∧ n ≤ 399 →
    ∃ t, exec (.loopReading i n) s = .next t
      ∧ t = { s.logged t with
            alarm := { s.alarm with
                loops := s.alarm.loops.set i { s.loop i with
                    band := some .secure
                    reading := n
                    state := .watching
                    armTimer := none
                    armFailed := false } } }
      ∧ Noted s t (to7 (.loop i .watching (some .secure)
                  ((s.loop i).trip.map fun x => .trip (s.loop i).kind (s.loop i).lane x.cause x.applied n)))
          [s.stamped { kind := .loopArmed, lane := (s.loop i).lane, facts := [.loop i] }])
  ∧ (∀ (s : State) (i : LoopId) (n : Nat),
    (s.loop i).kind = .none →
    exec (.loopReading i n) s = .next (s))
  ∧ (∀ (s : State) (i : LoopId),
    (s.loop i).state = .arming →
    timerDue (s.loop i).armTimer s.now = true →
    ∃ t, exec (.armTimerExpiry i) s = .next t
      ∧ t = { s.logged t with
            alarm := { s.alarm with loops := s.alarm.loops.set i { s.loop i with armFailed := true, armTimer := none } } }
      ∧ Noted s t (to7 (.loop i .arming (s.loop i).band (s.loop i).tripFact))
          [s.stamped { kind := .armFailed, lane := (s.loop i).lane, facts := [.loop i, .band (s.loop i).band] }])
  ∧ (∀ (s : State) (i : LoopId) (start : Time),
    s.soundTables = true →
    (s.loop i).state = .qualifying →
    timerDue (s.loop i).qualifyTimer s.now = true →
    (s.loop i).candidate = some (.active, start) →
    ((s.loop i).kind = .safeDoor → s.envelope.safe = none) →
    (s.loop i).response = .notify ∨ (s.loop i).response = .duress ∧ s.alarm.duress = true ∨ (s.loop i).response =
      .lockdown ∧ s.alarm.lockdown = true →
    ∃ t, exec (.qualifyTimerExpiry i) s = .next t
      ∧ t = { s.logged t with
            alarm := { s.alarm with
                loops := s.alarm.loops.set i { s.loop i with
                    state := .tripped
                    candidate := none
                    qualifyTimer := none
                    trip := some ⟨.active, [(s.loop i).response], s.now⟩ } } }
      ∧ Noted s t (to7 (.loop i .tripped (s.loop i).band
                  (some (.trip (s.loop i).kind (s.loop i).lane .active [(s.loop i).response] (s.loop i).reading))))
          [s.stamped {
                kind := .loopTrip
                lane := (s.loop i).lane
                facts :=
                  [.loop i, .trip (s.loop i).kind (s.loop i).lane .active [(s.loop i).response] (s.loop i).reading] }])
  ∧ (∀ (s : State) (i : LoopId) (start : Time),
    s.soundTables = true →
    (s.loop i).state = .qualifying →
    timerDue (s.loop i).qualifyTimer s.now = true →
    (s.loop i).candidate = some (.fault, start) →
    (s.loop i).kind ≠ .tamper →
    (s.loop i).kind ≠ .safeDoor →
    (s.loop i).lane = 0 →
    ∃ t, exec (.qualifyTimerExpiry i) s = .next t
      ∧ t = { s.logged t with
            alarm := { s.alarm with
                loops := s.alarm.loops.set i { s.loop i with
                    state := .tripped
                    candidate := none
                    qualifyTimer := none
                    trip := some ⟨.fault, [.notify], s.now⟩ } } }
      ∧ Noted s t (to7 (.loop i .tripped (s.loop i).band
                  (some (.trip (s.loop i).kind (s.loop i).lane .fault [.notify] (s.loop i).reading))))
          [s.stamped {
                kind := .loopTrip
                lane := (s.loop i).lane
                facts := [.loop i, .trip (s.loop i).kind (s.loop i).lane .fault [.notify] (s.loop i).reading] }])
  ∧ (∀ (s : State) (i : LoopId) (start : Time),
    s.soundTables = true →
    (s.loop i).state = .qualifying →
    timerDue (s.loop i).qualifyTimer s.now = true →
    (s.loop i).candidate = some (.active, start) →
    ((s.loop i).kind = .safeDoor → s.envelope.safe = none) →
    (s.loop i).response = .duress →
    s.alarm.duress = false →
    ∃ t, exec (.qualifyTimerExpiry i) s = .next t
      ∧ t = { s.logged t with
            alarm := { s.alarm with
                duress := true
                silentOutput := true
                loops := s.alarm.loops.set i { s.loop i with
                    state := .tripped
                    candidate := none
                    qualifyTimer := none
                    trip := some ⟨.active, [.duress], s.now⟩ } } })
  ∧ (∀ (s : State) (i : LoopId) (start : Time),
    s.soundTables = true →
    (s.loop i).state = .qualifying →
    timerDue (s.loop i).qualifyTimer s.now = true →
    (s.loop i).candidate = some (.active, start) →
    ((s.loop i).kind = .safeDoor → s.envelope.safe = none) →
    (s.loop i).response = .suspendCassettes →
    ∃ t, exec (.qualifyTimerExpiry i) s = .next t
      ∧ t = { s.logged t with
            alarm := { s.alarm with
                loops := s.alarm.loops.set i { s.loop i with
                    state := .tripped
                    candidate := none
                    qualifyTimer := none
                    trip := some ⟨.active, [.suspendCassettes], s.now⟩ } }
            cash := { s.cash with
                cassettes := Vector.ofFn fun c : CassetteId => if isWork c then { s.cassette c with
                    causes := { (s.cassette c).causes with
                        loops := if i ∈ (s.cassette c).causes.loops then (s.cassette c).causes.loops else
                          (s.cassette c).causes.loops ++ [i] } } else s.cassette c } }
      ∧ Noted s t (workCassettes.flatMap (s.shownChange t) ++ to7 (.loop i .tripped (s.loop i).band
                  (some (.trip (s.loop i).kind (s.loop i).lane .active [.suspendCassettes] (s.loop i).reading))))
          [s.stamped {
                kind := .loopTrip
                lane := (s.loop i).lane
                facts :=
                  [.loop i, .trip (s.loop i).kind (s.loop i).lane .active [.suspendCassettes] (s.loop i).reading] }])
  ∧ (∀ (s : State) (i : LoopId) (start : Time),
    s.soundTables = true →
    (s.loop i).state = .qualifying →
    timerDue (s.loop i).qualifyTimer s.now = true →
    (s.loop i).candidate = some (.active, start) →
    ((s.loop i).kind = .safeDoor → s.envelope.safe = none) →
    (s.loop i).response = .lockdown →
    s.alarm.lockdown = false →
    ∃ t, exec (.qualifyTimerExpiry i) s = .next t
      ∧ t.alarm = { s.alarm with
            lockdown := true
            localOutput := true
            loops := s.alarm.loops.set i { s.loop i with
                state := .tripped
                candidate := none
                qualifyTimer := none
                trip := some ⟨.active, [.lockdown], s.now⟩ } }
      ∧ t.cash.workQueue.all (fun e => e.running) = true
      ∧ t.cash.exchange = none
      ∧ t.tube.requests.all (fun r => decide (r.direction = .toTeller)) = true
      ∧ (∀ k : DispenseSlot,
            (t.dispense.records[k]).all fun r => decide (r.state = .presented → r.flags.retractOrdered = true))
      ∧ (∀ l : Lane, (t.session l).all fun x => decide (x.state ≠ .active)))
  ∧ (∀ (s : State) (i : LoopId) (start : Time) (g : BandGroup) (applied : List Response) (l : Lane),
    s.soundTables = true →
    (s.loop i).state = .qualifying →
    timerDue (s.loop i).qualifyTimer s.now = true →
    (s.loop i).candidate = some (g, start) →
    g = .active ∧ (s.loop i).response = .laneHold ∧ ((s.loop i).kind = .safeDoor → s.envelope.safe = none) ∧ applied =
      [.laneHold] ∨ g = .fault ∧ (s.loop i).kind ≠ .tamper ∧ (s.loop i).kind ≠ .safeDoor ∧ applied = [.notify, .laneHold] →
    (s.loop i).lane = numberOf l →
    (s.laneRec l).holds.loop = false →
    ∃ t, exec (.qualifyTimerExpiry i) s = .next t
      ∧ t = { s.logged t with
            alarm := { s.alarm with
                loops := s.alarm.loops.set i { s.loop i with
                    state := .tripped
                    candidate := none
                    qualifyTimer := none
                    trip := some ⟨g, applied, s.now⟩ } }
            lanes := { s.lanes with
                records := s.lanes.records.set l { s.laneRec l with
                    holds := { (s.laneRec l).holds with loop := true }
                    state := if (s.laneRec l).state = .closed ∨ (s.laneRec l).txn = none ∧ (s.policy l).isOpen = false
                      then .closed else .held } } }
      ∧ Noted s t (t.toServing l (laneReportOf l (t.laneRec l)) (laneReportOf l (t.laneRec l)) ++ to7
              (.loop i .tripped (s.loop i).band
                  (some (.trip (s.loop i).kind (s.loop i).lane g applied (s.loop i).reading)))) [s.stamped
              { kind := .hold, lane := numberOf l, facts := [.reason .loop] },
            s.stamped {
                kind := .loopTrip
                lane := (s.loop i).lane
                facts := [.loop i, .trip (s.loop i).kind (s.loop i).lane g applied (s.loop i).reading] }])
  ∧ (∀ (s : State) (i : LoopId) (start : Time) (a : SafeOpening),
    s.soundTables = true →
    (s.loop i).state = .qualifying →
    timerDue (s.loop i).qualifyTimer s.now = true →
    (s.loop i).candidate = some (.active, start) →
    (s.loop i).kind = .safeDoor →
    s.envelope.safe = some a →
    ∃ t, exec (.qualifyTimerExpiry i) s = .next t
      ∧ t = { s.logged t with
            alarm := { s.alarm with
                loops := s.alarm.loops.set i { s.loop i with
                    state := .tripped
                    candidate := none
                    qualifyTimer := none
                    trip := some ⟨.active, [.notify], s.now⟩ } }
            envelope := { s.envelope with
                safe := some
                  (.opened (match a with | .waiting _ => [i] | .opened set => if i ∈ set then set else set ++ [i])) } }
      ∧ Noted s t (to7 (.loop i .tripped (s.loop i).band
                  (some (.trip (s.loop i).kind (s.loop i).lane .active [.notify] (s.loop i).reading))))
          [s.stamped { kind := .safeDoorOpened, facts := [.loop i] },
            s.stamped {
                kind := .loopTrip
                lane := (s.loop i).lane
                facts := [.loop i, .trip (s.loop i).kind (s.loop i).lane .active [.notify] (s.loop i).reading] }])

/-- With the lockdown latch clear, the qualify timer of a TAMPER loop whose candidate is FAULT trips it with the
response LOCKDOWN: the lockdown latch and the local-alarm output are set, only running work entries are left, the
Exchange Authorisation has ended, no TO LANE request waits, no dispense is QUEUED, no PRESENTED one is without a
retract ordered, and no session is ACTIVE. That a QUEUED record without an entry ends too is the model's choice
(DESIGN CHOICE, log 57). (R63, R90, R106, R121, R136, R146, R147, R151) -/
def Obligations.TamperFaultLocksTheWallDown : Prop :=
  ∀ (s : State) (i : LoopId) (start : Time),
    s.soundTables = true →
    (s.loop i).state = .qualifying →
    timerDue (s.loop i).qualifyTimer s.now = true →
    (s.loop i).candidate = some (.fault, start) →
    (s.loop i).kind = .tamper →
    s.alarm.lockdown = false →
    ∃ t, exec (.qualifyTimerExpiry i) s = .next t
      ∧ t.alarm = { s.alarm with
            lockdown := true
            localOutput := true
            loops := s.alarm.loops.set i { s.loop i with
                state := .tripped
                candidate := none
                qualifyTimer := none
                trip := some ⟨.fault, [.lockdown], s.now⟩ } }
      ∧ t.cash.workQueue.all (fun e => e.running) = true
      ∧ t.cash.exchange = none
      ∧ t.tube.requests.all (fun r => decide (r.direction = .toTeller)) = true
      ∧ (∀ k : DispenseSlot,
            (t.dispense.records[k]).all fun r => decide (r.state = .presented → r.flags.retractOrdered = true))
      ∧ (∀ k : DispenseSlot, (t.dispense.records[k]).all fun r => decide (r.state ≠ .queued))
      ∧ (∀ l : Lane, (t.session l).all fun x => decide (x.state ≠ .active))
      ∧ (match t.envelope.safe with | some (.waiting _) => false | _ => true) = true

/-- With no exchange outstanding: a resend due is sent before the queue; with none due the oldest ROUTE, or with none
the first frame, is chosen. An order not to be withdrawn, to a node that is not ISOLATED, is taken off its place and
is outstanding under the reply window and bit timing set; a PROBE is sent whatever the node's health; an order to an
ISOLATED node, other than CAPTURE and BLOWER MOVE, is dropped (log 13). With the queue empty the lowest node of the
ring above the ring position, or the lowest if none is above, is polled and becomes the ring position. Nothing else
changes. To a RESTRICTED node, or under lockdown, a money order is withdrawn: a PICK's entry waits again and its first
pick's record goes back to QUEUED with no tag and timer, or under lockdown leaves and the dispense ends CANCELLED with
its charge given back; an ACCEPT BEGIN's entry waits again and its session stays QUEUED, or under lockdown the session
is closed; a CAPTURE is voided WITHDRAWN with EJECT to its station; a BLOWER MOVE (under lockdown one TO LANE) puts
its carrier back, seated, at its origin, the blower IDLE. When the rest timer is due with no request waiting the
blower is IDLE and nothing else changes. Frames that are not live (log 14) are left out. After a withdrawal or drop no
exchange begins in the same command (DESIGN CHOICE, log 32); lockdown's consequence goes before RESTRICTED's (DEDUCED,
log 19); a PICK put back keeps IN DOUBT (log 26); a withdrawn move is one CARRIER report (log 20), to the stored
serving set (log 15) in console order; a console's ENVELOPE report carries no flag (log 70); the first record of a tag
is taken (log 56); busTx is the model's output (log 8); a report to a console stands before its copy (log 31); an
entry rewritten meanwhile with the credential gets its charge back (log 66). (R66, R115, R129, R130, R159, R160, R161,
R162, R163, R166, R168) -/
def Obligations.ExchangesBeginInOrderOrAreWithdrawn : Prop :=
  (∀ (s : State) (f : Frame) (o : BusOrder) (m : ModuleId),
    s.soundTables = true →
    s.choosesNext f m →
    f.content = .order o →
    (s.module m).health ≠ .isolated →
    s.withdraws o (s.module m).health = false →
    exec (.exchangeBegin) s = .next ({ s with
            bus := { s.bus with
                outgoing := s.bus.outgoing.erase f
                outstanding := some (s.began f false)
                busTx := f.bytes } }))
  ∧ (∀ (s : State) (f : Frame) (m : ModuleId),
    s.soundTables = true →
    s.choosesNext f m →
    f.content = .probe →
    exec (.exchangeBegin) s = .next ({ s with
            bus := { s.bus with
                outgoing := s.bus.outgoing.erase f
                outstanding := some (s.began f false)
                busTx := f.bytes } }))
  ∧ (∀ (s : State) (f : Frame) (o : BusOrder) (m : ModuleId),
    s.soundTables = true →
    s.bus.outstanding = none →
    s.bus.resend = some f →
    f.content = .order o →
    s.nodeEntry f.node = some m →
    (s.module m).health ≠ .isolated →
    s.withdraws o (s.module m).health = false →
    exec (.exchangeBegin) s = .next
      ({ s with bus := { s.bus with resend := none, outstanding := some (s.began f true), busTx := f.bytes } }))
  ∧ (∀ (s : State) (f : Frame) (o : BusOrder) (m : ModuleId),
    s.soundTables = true →
    s.choosesNext f m →
    f.content = .order o →
    (s.module m).health = .isolated →
    o.handedBack = false →
    exec (.exchangeBegin) s = .next ({ s with bus := { s.bus with outgoing := s.bus.outgoing.erase f } }))
  ∧ (∀ (s : State) (n : Nat) (m : ModuleId),
    s.soundTables = true →
    s.bus.outstanding = none →
    s.bus.resend = none →
    s.bus.outgoing = [] →
    s.nodeEntry n = some m →
    n ≠ 0 →
    (s.module m).health ≠ .isolated →
    s.pollsNext n →
    exec (.exchangeBegin) s = .next ({ s with
            bus := { s.bus with
                outstanding := some (s.began ⟨n, .poll, .bus, true⟩ false)
                ringPos := n
                busTx := (⟨n, .poll, .bus, true⟩ : Frame).bytes } }))
  ∧ (∀ (s : State) (f : Frame) (m : ModuleId) (tag : Nat) (items : List PlanItem) (i : DispenseSlot) (p : DispenseRecord),
    s.soundTables = true →
    s.choosesNext f m →
    f.content = .order (.pick tag items) →
    s.recyclerEntry = some m →
    (s.module m).health = .restricted →
    s.alarm.lockdown = false →
    s.pickingWith tag = some i →
    s.dispense.records[i] = some p →
    p.topUp = none →
    s.runsOnly p.id →
    ∃ t, exec (.exchangeBegin) s = .next t
      ∧ t = { s.logged t with
            dispense := { s.dispense with
                records := s.withRecord i { s.dispenseTouched p with
                    state := .queued
                    reportTimer := none
                    pickTag := none
                    recovery := .notUnderWay } }
            cash :=
              { s.cash with recycler := .ready, workQueue := s.cash.workQueue.map fun e => { e with running := false } }
            bus := { s.bus with outgoing := s.bus.outgoing.erase f } }
      ∧ Noted s t (copied p.reportStation p.tag ((s.dispenseTouched p).report .queued none false)
              ((s.dispenseTouched p).report .queued none true)) [])
  ∧ (∀ (s : State) (f : Frame) (m : ModuleId) (tag : Nat) (items : List PlanItem) (i : DispenseSlot) (p : DispenseRecord),
    s.soundTables = true →
    s.choosesNext f m →
    f.content = .order (.pick tag items) →
    (s.module m).health ≠ .isolated →
    s.alarm.lockdown = true →
    s.pickingWith tag = some i →
    s.dispense.records[i] = some p →
    p.topUp = none →
    s.runsOnly p.id →
    (s.authority p.index).credential = p.credential →
    ∃ t, exec (.exchangeBegin) s = .next t
      ∧ t.dispense.records[i] = none
      ∧ (∀ j : DispenseSlot, j ≠ i → t.dispense.records[j] = s.dispense.records[j])
      ∧ t.cash = { s.cash with recycler := .ready, workQueue := s.cash.workQueue.filter fun e => !e.running }
      ∧ (t.authority p.index).shiftTotal = (s.authority p.index).shiftTotal - p.charge
      ∧ (t.laneRec p.lane).txn = none
      ∧ t.journal.reserved = s.journal.reserved - 1
      ∧ (t.journal.ring[s.journal.ring.length]?).map (fun x => (x.entry.kind, x.entry.lane, x.entry.value)) = some
          (.cancelled, numberOf p.lane, p.amount)
      ∧ (∀ l : Lane, l ≠ p.lane → t.laneRec l = s.laneRec l)
      ∧ t.deposit = s.deposit
      ∧ t.envelope = s.envelope
      ∧ t.tube = s.tube
      ∧ t.alarm = s.alarm
      ∧ t.bus = { s.bus with outgoing := s.bus.outgoing.erase f })
  ∧ (∀ (s : State) (f : Frame) (m : ModuleId) (l : Lane) (y : Session),
    s.soundTables = true →
    s.choosesNext f m →
    f.content = .order (.acceptBegin l) →
    f.live = true →
    s.recyclerEntry = some m →
    (s.module m).health = .restricted →
    s.alarm.lockdown = false →
    s.session l = some y →
    y.endCause ≠ some .close →
    s.cash.recycler = .busy →
    (s.cash.workQueue.any fun e => e.running) = true →
    (∀ e ∈ s.cash.workQueue, (e.running = true ↔ e.isAcceptOf l = true)) →
    ∃ t, exec (.exchangeBegin) s = .next t
      ∧ t = { s.logged t with
            deposit := { s.deposit with
                slots := s.deposit.slots.set l
                  (some { y with flags := { y.flags with duress := y.flags.duress || s.alarm.duress } }) }
            cash :=
              { s.cash with recycler := .ready, workQueue := s.cash.workQueue.map fun e => { e with running := false } }
            bus := { s.bus with outgoing := s.bus.outgoing.erase f } }
      ∧ Noted s t [] [])
  ∧ (∀ (s : State) (f : Frame) (m : ModuleId) (l : Lane) (y : Session),
    s.soundTables = true →
    s.choosesNext f m →
    f.content = .order (.acceptBegin l) →
    f.live = true →
    (s.module m).health ≠ .isolated →
    s.alarm.lockdown = true →
    s.session l = some y →
    s.cash.recycler = .busy →
    (s.cash.workQueue.any fun e => e.running) = true →
    (∀ e ∈ s.cash.workQueue, (e.running = true ↔ e.isAcceptOf l = true)) →
    ∃ t, exec (.exchangeBegin) s = .next t
      ∧ t.session l = none
      ∧ (∀ k : Lane, k ≠ l → t.session k = s.session k ∧ t.laneRec k = s.laneRec k)
      ∧ (t.laneRec l).txn = none
      ∧ t.journal.reserved = s.journal.reserved - 1
      ∧ (t.journal.ring[s.journal.ring.length]?).map (fun x => (x.entry.kind, x.entry.lane, x.entry.value)) = some
          (.closed, numberOf l, y.value)
      ∧ t.cash = { s.cash with recycler := .ready, workQueue := s.cash.workQueue.filter fun e => !e.running }
      ∧ t.screen = s.screen
      ∧ t.dispense = s.dispense
      ∧ t.envelope = s.envelope
      ∧ t.tube = s.tube
      ∧ t.alarm = s.alarm)
  ∧ (∀ (s : State) (f : Frame) (m : ModuleId) (l : Lane) (c : Capture),
    s.soundTables = true →
    s.choosesNext f m →
    f.content = .order (.capture l c.number) →
    (s.module m).health ≠ .isolated →
    (s.module m).health = .restricted ∨ s.alarm.lockdown = true →
    s.capture l = some c →
    c.node = f.node →
    (s.bus.outgoing.erase f).length < 48 →
    ∃ t, exec (.exchangeBegin) s = .next t
      ∧ t = { s.logged t with
            envelope := { s.envelope with slots := s.envelope.slots.set l none }
            bus := { s.bus with outgoing := s.bus.outgoing.erase f ++ [s.orderTo m .envelope (.eject l)] } }
      ∧ t.journal = { s.journal.append s.now (s.stamped { kind := .void, lane := numberOf l, value := c.number, noteCount := s.envelope.count, detail := 4, flags := { duress := c.duress, inDoubt := c.inDoubt } }) with
            reserved := s.journal.reserved - 1 })
  ∧ (∀ (s : State) (f : Frame) (m : ModuleId) (l : Lane) (d : Direction) (e : TubeEnd),
    s.soundTables = true →
    s.choosesNext f m →
    f.content = .order (.blowerMove l d) →
    f.live = true →
    (s.module m).health ≠ .isolated →
    (s.module m).health = .restricted ∨ d = .toLane ∧ s.alarm.lockdown = true →
    (s.carrier l).location = .outbound ∧ e = .teller ∨ (s.carrier l).location = .inbound ∧ e = .lane →
    (e = .teller → (s.carrier l).bound = none) →
    s.tube.requests = [] →
    ∃ t, exec (.exchangeBegin) s = .next t
      ∧ t = { s.logged t with
            tube := { s.tube with
                carriers := s.tube.carriers.set l { s.carrier l with timer := none, location := e.place, seated := true }
                blower := .idle }
            bus := { s.bus with outgoing := s.bus.outgoing.erase f } }
      ∧ Noted s t
          (s.toServing l (carrierReportOf l (t.carrier l) .refused none) (carrierReportOf l (t.carrier l) .refused none))
          [s.stamped { kind := .blowerRefused, lane := numberOf l, facts := [.cause .withdrawn] }])
  ∧ (∀ (s : State) (tm : Timer),
    s.tube.blower = .resting tm →
    timerDue (some tm) s.now = true →
    s.tube.requests = [] →
    exec (.restTimerExpiry) s = .next ({ s with tube := { s.tube with blower := .idle } }))

/-- To an ACTIVE node whose counters stay below 96, for every order: GOOD lowers each counter by 1, not below 0, and
clears the marks; REFUSED changes neither; SILENT raises the order counter by 8 and DAMAGED the reply counter by 1; a
money order so lost is not resent, and any other is due to be resent, once. A poll SILENT or DAMAGED is not resent,
and a DAMAGED one hands on none of its reports. Orders whose owner acts on no result change nothing else. A changed
entry has its parity recomputed. A silent poll that takes the order counter to 96, 128 or 256, or a damaged one that
takes the reply counter to 96 or 128, sets that mark with one NODE HEALTH record and report, at 96 with the cause NODE
WATCH, or none of these where the mark is set; the health follows the counters. A lane's station at 128 brings NODE to
its lane. At 256 its node is ISOLATED: its frames and its resend leave; a station brings NODE and voids its captures
in doubt; the blower cabinet leaves no carrier moving, no request waiting and the blower IDLE; the recycler becomes
FAULTED with its work queue empty, its QUEUED and PRESENTED dispenses, its picks and its sessions ended. A QUEUED
session without an entry closes too at the isolation (DESIGN CHOICE, log 86). NODE HEALTH stands before the owners'
records (DEDUCED, log 24). A QUEUED record that has no entry in the work queue ends at the recycler's isolation as one
with an entry does (DESIGN CHOICE, log 57). The NODE HEALTH report carries the node, both counters and the threshold
(DESIGN CHOICE, log 78). (R10, R86, R107, R117, R137, R160, R162, R164, R165, R175, R183, R187) -/
def Obligations.ExchangesEndByTheirResult : Prop :=
  (∀ (s : State) (x : Exchange) (m : ModuleId) (r : BusReply) (o : BusOrder),
    s.awaits x m →
    x.frame.content = .order o →
    x.window.past s.now = false →
    acknowledges r x o →
    o.unheeded = true →
    exec (.wallBusReplyTaken (.fields r)) s = .next
      ({ s with bus := { s.bus with outstanding := none, modules := s.bus.modules.set m (s.module m).bettered } }))
  ∧ (∀ (s : State) (x : Exchange) (m : ModuleId) (r : BusReply) (o : BusOrder),
    s.awaits x m →
    x.frame.content = .order o →
    x.window.past s.now = false →
    acknowledges r x o →
    s.bus.resend = none →
    ∃ t, exec (.wallBusReplyTaken (.fields r)) s = .next t
      ∧ t.bus.modules = s.bus.modules.set m (s.module m).bettered
      ∧ t.bus.outstanding = none
      ∧ t.bus.resend = none)
  ∧ (∀ (s : State) (x : Exchange) (m : ModuleId) (r : BusReply) (o : BusOrder) (reason : Nat),
    s.awaits x m →
    x.frame.content = .order o →
    x.window.past s.now = false →
    replyAnswers r x →
    r.cls = 7 →
    r.kind = o.number →
    r.body = .refusal reason →
    o.unheeded = true →
    exec (.wallBusReplyTaken (.fields r)) s = .next ({ s with bus := { s.bus with outstanding := none } }))
  ∧ (∀ (s : State) (x : Exchange) (m : ModuleId) (r : BusReply) (o : BusOrder) (reason : Nat),
    s.awaits x m →
    x.frame.content = .order o →
    x.window.past s.now = false →
    replyAnswers r x →
    r.cls = 7 →
    r.kind = o.number →
    r.body = .refusal reason →
    s.bus.resend = none →
    ∃ t, exec (.wallBusReplyTaken (.fields r)) s = .next t
      ∧ t.bus.modules = s.bus.modules
      ∧ t.bus.outstanding = none
      ∧ t.bus.resend = none)
  ∧ (∀ (s : State) (x : Exchange) (m : ModuleId) (o : BusOrder),
    s.awaits x m →
    x.frame.content = .order o →
    o.isMoney = false →
    x.isResend = false →
    timerDue (some x.window) s.now = true →
    (s.module m).orderErrors + 8 < 96 →
    exec (.replyWindowExpiry) s = .next ({ s with
            bus := { s.bus with
                outstanding := none
                resend := some x.frame
                modules := s.bus.modules.set m
                  ((s.module m).recounted ((s.module m).orderErrors + 8) (s.module m).replyErrors) } }))
  ∧ (∀ (s : State) (x : Exchange) (m : ModuleId) (r : BusReply) (o : BusOrder),
    s.awaits x m →
    x.frame.content = .order o →
    o.isMoney = false →
    x.isResend = false →
    x.window.past s.now = false →
    damages r x →
    (s.module m).replyErrors + 1 < 96 →
    exec (.wallBusReplyTaken (.fields r)) s = .next ({ s with
            bus := { s.bus with
                outstanding := none
                resend := some x.frame
                modules := s.bus.modules.set m
                  ((s.module m).recounted (s.module m).orderErrors ((s.module m).replyErrors + 1)) } }))
  ∧ (∀ (s : State) (x : Exchange) (m : ModuleId) (o : BusOrder),
    s.awaits x m →
    x.frame.content = .order o →
    o.unheeded = true →
    x.isResend = true →
    timerDue (some x.window) s.now = true →
    (s.module m).orderErrors + 8 < 96 →
    exec (.replyWindowExpiry) s = .next ({ s with
            bus := { s.bus with
                outstanding := none
                modules := s.bus.modules.set m
                  ((s.module m).recounted ((s.module m).orderErrors + 8) (s.module m).replyErrors) } }))
  ∧ (∀ (s : State) (x : Exchange) (m : ModuleId) (r : BusReply) (o : BusOrder),
    s.awaits x m →
    x.frame.content = .order o →
    o.unheeded = true →
    x.isResend = true →
    x.window.past s.now = false →
    damages r x →
    (s.module m).replyErrors + 1 < 96 →
    exec (.wallBusReplyTaken (.fields r)) s = .next ({ s with
            bus := { s.bus with
                outstanding := none
                modules := s.bus.modules.set m
                  ((s.module m).recounted (s.module m).orderErrors ((s.module m).replyErrors + 1)) } }))
  ∧ (∀ (s : State) (x : Exchange) (m : ModuleId) (o : BusOrder),
    s.awaits x m →
    x.frame.content = .order o →
    o.isMoney = true ∨ x.isResend = true →
    timerDue (some x.window) s.now = true →
    (s.module m).orderErrors + 8 < 96 →
    s.bus.resend = none →
    ∃ t, exec (.replyWindowExpiry) s = .next t
      ∧ t.bus.modules = s.bus.modules.set m
          ((s.module m).recounted ((s.module m).orderErrors + 8) (s.module m).replyErrors)
      ∧ t.bus.outstanding = none
      ∧ t.bus.resend = none)
  ∧ (∀ (s : State) (x : Exchange) (m : ModuleId) (r : BusReply) (o : BusOrder),
    s.awaits x m →
    x.frame.content = .order o →
    o.isMoney = true ∨ x.isResend = true →
    x.window.past s.now = false →
    damages r x →
    (s.module m).replyErrors + 1 < 96 →
    s.bus.resend = none →
    ∃ t, exec (.wallBusReplyTaken (.fields r)) s = .next t
      ∧ t.bus.modules = s.bus.modules.set m
          ((s.module m).recounted (s.module m).orderErrors ((s.module m).replyErrors + 1))
      ∧ t.bus.outstanding = none
      ∧ t.bus.resend = none)
  ∧ (∀ (s : State) (x : Exchange) (m : ModuleId),
    s.awaits x m →
    x.frame.content = .poll →
    timerDue (some x.window) s.now = true →
    (s.module m).orderErrors + 8 < 96 →
    exec (.replyWindowExpiry) s = .next ({ s with
            bus := { s.bus with
                outstanding := none
                modules := s.bus.modules.set m
                  ((s.module m).recounted ((s.module m).orderErrors + 8) (s.module m).replyErrors) } }))
  ∧ (∀ (s : State) (x : Exchange) (m : ModuleId) (r : BusReply),
    s.awaits x m →
    x.frame.content = .poll →
    x.window.past s.now = false →
    damages r x →
    (s.module m).replyErrors + 1 < 96 →
    exec (.wallBusReplyTaken (.fields r)) s = .next ({ s with
            bus := { s.bus with
                outstanding := none
                modules := s.bus.modules.set m
                  ((s.module m).recounted (s.module m).orderErrors ((s.module m).replyErrors + 1)) } }))
  ∧ (∀ (s : State) (x : Exchange) (m : ModuleId) (mark : Nat),
    s.bus.outstanding = some x →
    x.frame.content = .poll →
    s.nodeEntry x.frame.node = some m →
    (s.module m).health ≠ .isolated →
    timerDue (some x.window) s.now = true →
    mark = 96 ∨ mark = 128 ∨ mark = 256 →
    (s.module m).orderErrors < mark →
    mark ≤ (s.module m).orderErrors + 8 →
    (s.module m).mark mark = false →
    ∃ t, exec (.replyWindowExpiry) s = .next t
      ∧ (t.module m).orderErrors = (s.module m).orderErrors + 8
      ∧ (t.module m).replyErrors = (s.module m).replyErrors
      ∧ (t.module m).mark mark = true
      ∧ (t.module m).health = healthGiven ((s.module m).orderErrors + 8) (s.module m).replyErrors
      ∧ (∀ j : ModuleId, j ≠ m → t.module j = s.module j)
      ∧ t.bus.outstanding = none
      ∧ (mark = 96 → t.mgmt.sticky.nodeWatch = true)
      ∧ (s.journal.reserved < s.journal.free → (t.journal.ring[s.journal.ring.length]?).map JournalRecord.entry = some
              (s.stamped (crossingEntry (s.module m).node ((s.module m).orderErrors + 8) (s.module m).replyErrors mark)))
      ∧ (s.link.used < 64 → t.link.reports[s.link.reports.length]? =
              (to7 (.nodeHealth (s.module m).node ((s.module m).orderErrors + 8) (s.module m).replyErrors mark)).head?))
  ∧ (∀ (s : State) (x : Exchange) (m : ModuleId) (r : BusReply) (mark : Nat),
    s.bus.outstanding = some x →
    x.frame.content = .poll →
    s.nodeEntry x.frame.node = some m →
    (s.module m).health ≠ .isolated →
    x.window.past s.now = false →
    damages r x →
    mark = 96 ∨ mark = 128 →
    (s.module m).replyErrors + 1 = mark →
    (s.module m).orderErrors < 256 →
    (s.module m).mark mark = false →
    ∃ t, exec (.wallBusReplyTaken (.fields r)) s = .next t
      ∧ (t.module m).orderErrors = (s.module m).orderErrors
      ∧ (t.module m).replyErrors = mark
      ∧ (t.module m).mark mark = true
      ∧ (t.module m).health = healthGiven (s.module m).orderErrors mark
      ∧ (∀ j : ModuleId, j ≠ m → t.module j = s.module j)
      ∧ t.bus.outstanding = none
      ∧ (mark = 96 → t.mgmt.sticky.nodeWatch = true)
      ∧ (s.journal.reserved < s.journal.free → (t.journal.ring[s.journal.ring.length]?).map JournalRecord.entry = some
              (s.stamped (crossingEntry (s.module m).node (s.module m).orderErrors mark mark)))
      ∧ (s.link.used < 64 → t.link.reports[s.link.reports.length]? =
              (to7 (.nodeHealth (s.module m).node (s.module m).orderErrors mark mark)).head?))
  ∧ (∀ (s : State) (x : Exchange) (m : ModuleId),
    s.bus.outstanding = some x →
    x.frame.content = .poll →
    s.nodeEntry x.frame.node = some m →
    (s.module m).health ≠ .isolated →
    timerDue (some x.window) s.now = true →
    (s.module m).orderErrors < 96 →
    96 ≤ (s.module m).orderErrors + 8 →
    (s.module m).replyErrors < 128 →
    (s.module m).mark96 = true →
    (s.module m).health ≠ .restricted →
    (s.module m).kind ≠ .laneStation →
    s.cash.workQueue = [] →
    s.tube.requests = [] →
    exec (.replyWindowExpiry) s = .next ({ s with
            bus := { s.bus with
                outstanding := none
                modules := s.bus.modules.set m { (s.module m).recounted ((s.module m).orderErrors + 8) (s.module m).replyErrors with
                    health := .watch } } }))
  ∧ (∀ (s : State) (x : Exchange) (m : ModuleId) (l : Lane),
    s.bus.outstanding = some x →
    x.frame.content = .poll →
    s.nodeEntry x.frame.node = some m →
    (s.module m).health ≠ .isolated →
    timerDue (some x.window) s.now = true →
    (s.module m).orderErrors < 128 →
    128 ≤ (s.module m).orderErrors + 8 →
    (s.module m).health ≠ .restricted →
    s.stationEntry l = some m →
    ∃ t, exec (.replyWindowExpiry) s = .next t
      ∧ (t.laneRec l).holds = { (s.laneRec l).holds with node := true }
      ∧ (t.laneRec l).txn = (s.laneRec l).txn
      ∧ (t.laneRec l).profile = (s.laneRec l).profile
      ∧ (∀ k : Lane, k ≠ l → t.laneRec k = s.laneRec k)
      ∧ t = { s.logged t with
            lanes := t.lanes
            bus := { s.bus with
                outstanding := none
                modules := s.bus.modules.set m { (s.module m).recounted ((s.module m).orderErrors + 8) (s.module m).replyErrors with
                    health := .restricted
                    mark128 := true } } })
  ∧ (∀ (s : State) (x : Exchange) (m : ModuleId) (l : Lane),
    s.bus.outstanding = some x →
    x.frame.content = .poll →
    s.nodeEntry x.frame.node = some m →
    (s.module m).health ≠ .isolated →
    timerDue (some x.window) s.now = true →
    (s.module m).orderErrors < 256 →
    256 ≤ (s.module m).orderErrors + 8 →
    s.stationEntry l = some m →
    s.mgmt.goPending = false →
    ∃ t, exec (.replyWindowExpiry) s = .next t
      ∧ (t.laneRec l).holds = { (s.laneRec l).holds with node := true }
      ∧ (t.laneRec l).txn = (s.laneRec l).txn
      ∧ (∀ k : Lane, k ≠ l → t.laneRec k = s.laneRec k)
      ∧ t = { s.logged t with
            lanes := t.lanes
            envelope := { s.envelope with
                slots := s.envelope.slots.map fun c => if c.any (fun c => c.node == x.frame.node) then none else c }
            bus := { s.bus with
                outstanding := none
                outgoing := s.bus.outgoing.filter fun f => f.node != x.frame.node
                resend := s.bus.resend.filter fun f => f.node != x.frame.node
                modules := s.bus.modules.set m { (s.module m).recounted ((s.module m).orderErrors + 8) (s.module m).replyErrors with
                    health := .isolated
                    mark256 := true } } })
  ∧ (∀ (s : State) (x : Exchange) (m : ModuleId),
    s.bus.outstanding = some x →
    x.frame.content = .poll →
    s.nodeEntry x.frame.node = some m →
    (s.module m).health ≠ .isolated →
    timerDue (some x.window) s.now = true →
    (s.module m).orderErrors < 256 →
    256 ≤ (s.module m).orderErrors + 8 →
    (s.module m).kind = .blower →
    s.mgmt.goPending = false →
    ∃ t, exec (.replyWindowExpiry) s = .next t
      ∧ t.tube.requests = []
      ∧ t.tube.blower = .idle
      ∧ (∀ l : Lane, (t.carrier l).moving = false)
      ∧ (∀ l : Lane,
            (s.carrier l).moving = true → s.requestOf l = none → (t.carrier l).location = .unknown ∧ (t.carrier l).cause =
              some .isolated ∧ (t.carrier l).timer = none ∧ (t.carrier l).bound = (s.carrier l).bound ∧
              (t.laneRec l).holds.carrier = true)
      ∧ t.screen = s.screen
      ∧ t.cash = s.cash
      ∧ t.deposit = s.deposit
      ∧ t.envelope = s.envelope
      ∧ t.alarm = s.alarm
      ∧ (∀ f ∈ t.bus.outgoing, f.node ≠ x.frame.node))
  ∧ (∀ (s : State) (x : Exchange) (m : ModuleId),
    s.bus.outstanding = some x →
    x.frame.content = .poll →
    s.nodeEntry x.frame.node = some m →
    (s.module m).health ≠ .isolated →
    timerDue (some x.window) s.now = true →
    (s.module m).orderErrors < 256 →
    256 ≤ (s.module m).orderErrors + 8 →
    s.recyclerEntry = some m →
    s.cash.recycler ≠ .faulted →
    (∀ e ∈ s.cash.workQueue, e.running = true) →
    ∃ t, exec (.replyWindowExpiry) s = .next t
      ∧ t.cash.recycler = .faulted
      ∧ t.cash.workQueue = []
      ∧ t.cash.condition = .unknown
      ∧ (∀ i : DispenseSlot,
            (s.dispense.records[i]).any (fun p => p.state == .queued || p.state == .picking || p.state == .presented) =
              true → t.dispense.records[i] = none)
      ∧ (∀ i : DispenseSlot,
            (s.dispense.records[i]).all (fun p => p.state == .taken || p.state == .inTransit) = true →
              t.dispense.records[i] = s.dispense.records[i])
      ∧ (∀ l : Lane, t.session l = none)
      ∧ ((∀ q ∈ s.dispenses, q.state ≠ .queued) → t.screen = s.screen)
      ∧ t.screen = { s.screen with authority := t.screen.authority }
      ∧ t.envelope = s.envelope
      ∧ t.tube = s.tube
      ∧ t.alarm = s.alarm
      ∧ (∀ f ∈ t.bus.outgoing, f.node ≠ x.frame.node))

/-- A lane station's poll reply with one report, taken for the lane of its Module Table entry whatever lane the report
names (log 23). ENVELOPE INSERTED that passes every check: the lane's slot holds a PRINTING capture with the counter's
number and its 15 s timer, the counter moves on, one outcome slot is reserved and CAPTURE is placed. PRINTED: the
capture is DROPPING, with one record of its number and DURESS flag. CAPTURED: the depository count rises by 1, the
slot is free and CAPTURED stands in the reserved slot; a DEPOSITORY report follows if WARN or FULL changes (one, log
38), then the ENVELOPE report to the stored serving set (log 15) in console order (log 31). EJECTED and JAMMED with
the capture's number: the slot is free and VOID with its reason stands in the reserved slot; JAMMED posts ENVELOPE to
the lane. Nothing else changes. The lane and number of ENVELOPE PRINTED, and the value field for a number, are the
model's choice (DESIGN CHOICE, log 76). A repeated PRINTED is journaled as a second ENVELOPE PRINTED with the fact
repeated (DESIGN CHOICE, log 60). A console's copy carries no flag, IN DOUBT neither (DESIGN CHOICE, log 70). (R111,
R112, R113, R114, R115, R116, R117, R153, R172) -/
def Obligations.EnvelopeReportsMoveTheCapture : Prop :=
  (∀ (s : State) (x : Exchange) (m : ModuleId) (r : BusReply) (cond : Nat) (l k : Lane),
    s.polled x m r cond [.envelopeInserted k] →
    (s.module m).kind = .laneStation →
    (s.module m).lane = numberOf l →
    s.soundTables = true →
    s.mgmt.partState = .inService →
    s.alarm.lockdown = false →
    s.envelope.safe = none →
    (s.policy l).envelopeDrop = true →
    (s.laneRec l).holds.envelope = false →
    s.capture l = none →
    s.envelope.count + s.inProgress < s.envelope.setting.value →
    s.journalAdmits = true →
    s.bus.outgoing.length < 48 →
    ∃ t, exec (.wallBusReplyTaken (.fields r)) s = .next t
      ∧ t.envelope = { s.envelope with
            counter := if s.envelope.counter = 999999 then 1 else s.envelope.counter + 1
            slots := s.envelope.slots.set l
              (some ⟨s.envelope.counter, .printing, s.now, ⟨s.now, 15000⟩, x.frame.node, s.alarm.duress, false⟩) }
      ∧ t.bus = { s.afterPoll m with
            outgoing := s.bus.outgoing ++ [⟨x.frame.node, .order (.capture l s.envelope.counter), .envelope, true⟩] }
      ∧ t.journal.reserved = s.journal.reserved + 1
      ∧ t = { s.logged t with envelope := t.envelope, bus := t.bus })
  ∧ (∀ (s : State) (x : Exchange) (m : ModuleId) (r : BusReply) (cond : Nat) (l k : Lane) (c : Capture),
    s.polled x m r cond [.printed k c.number] →
    (s.module m).kind = .laneStation →
    (s.module m).lane = numberOf l →
    s.capture l = some c →
    ∃ t, exec (.wallBusReplyTaken (.fields r)) s = .next t
      ∧ t = { s.logged t with
            envelope := { s.envelope with slots := s.envelope.slots.set l (some { c with state := .dropping }) }
            bus := s.afterPoll m }
      ∧ Noted s t [] [s.stamped {
                kind := .envelopePrinted
                lane := numberOf l
                value := c.number
                flags := { duress := c.duress }
                facts := if c.state = .dropping then [.repeated] else [] }])
  ∧ (∀ (s : State) (x : Exchange) (m : ModuleId) (r : BusReply) (cond : Nat) (l k : Lane) (c : Capture),
    s.polled x m r cond [.captured k c.number] →
    (s.module m).kind = .laneStation →
    (s.module m).lane = numberOf l →
    s.capture l = some c →
    ∃ t, exec (.wallBusReplyTaken (.fields r)) s = .next t
      ∧ t = { s.logged t with
            envelope := { s.envelope with count := s.envelope.count + 1, slots := s.envelope.slots.set l none }
            bus := s.afterPoll m }
      ∧ t.journal = { s.journal.append s.now (s.stamped { kind := .captured, lane := numberOf l, value := c.number, noteCount := s.envelope.count + 1, flags := { duress := c.duress, inDoubt := c.inDoubt } }) with
            reserved := s.journal.reserved - 1 }
      ∧ (s.link.used + 6 < 64 → t.link.reports = s.link.reports ++ (if s.depositoryWarn = t.depositoryWarn ∧
                  s.depositoryFull = t.depositoryFull then [] else to7
                  (.depository (s.envelope.count + 1) s.envelope.setting.value s.inProgress)) ++ s.toServing l
              (.envelope (numberOf l) .captured (some c.number) (s.envelope.count + 1) none) (.envelope (numberOf l)
                  .captured (some c.number) (s.envelope.count + 1) (some (c.duress || s.alarm.duress, c.inDoubt)))))
  ∧ (∀ (s : State) (x : Exchange) (m : ModuleId) (r : BusReply) (cond : Nat) (l k : Lane) (c : Capture),
    s.polled x m r cond [.ejected k (some c.number)] →
    (s.module m).kind = .laneStation →
    (s.module m).lane = numberOf l →
    s.capture l = some c →
    ∃ t, exec (.wallBusReplyTaken (.fields r)) s = .next t
      ∧ t = { s.logged t with envelope := { s.envelope with slots := s.envelope.slots.set l none }, bus := s.afterPoll m }
      ∧ t.journal = { s.journal.append s.now (s.stamped { kind := .void, lane := numberOf l, value := c.number, noteCount := s.envelope.count, detail := 2, flags := { duress := c.duress, inDoubt := c.inDoubt } }) with
            reserved := s.journal.reserved - 1 })
  ∧ (∀ (s : State) (x : Exchange) (m : ModuleId) (r : BusReply) (cond : Nat) (l k : Lane) (c : Capture),
    s.polled x m r cond [.jammed k c.number] →
    (s.module m).kind = .laneStation →
    (s.module m).lane = numberOf l →
    s.capture l = some c →
    ∃ t, exec (.wallBusReplyTaken (.fields r)) s = .next t
      ∧ t = { s.logged t with
            envelope := { s.envelope with slots := s.envelope.slots.set l none }
            lanes := t.lanes
            bus := s.afterPoll m }
      ∧ (t.laneRec l).holds = { (s.laneRec l).holds with envelope := true }
      ∧ (t.laneRec l).txn = (s.laneRec l).txn
      ∧ (t.laneRec l).profile = (s.laneRec l).profile
      ∧ (t.laneRec l).switchPending = (s.laneRec l).switchPending
      ∧ (∀ k : Lane, k ≠ l → t.laneRec k = s.laneRec k)
      ∧ t.journal.reserved = s.journal.reserved - 1
      ∧ (t.journal.ring[s.journal.ring.length]?).map
          (fun r => (r.entry.kind, r.entry.lane, r.entry.value, r.entry.detail)) = some (.void, numberOf l, c.number, 1))

/-- The recycler's poll reply with one report. NOTE STACKED where it was routed, the cap not reached: the cassette's
count and stacked tally rise by 1 and its inbound count falls by 1; the note leaves the session's list, its accepted
and stacked counts rise by 1 and its value by the note's; stacked elsewhere the same, but that the inbound count of
where it was routed falls, with DEFAULT STACK as flag and record. NOTE VALIDATED for an ACTIVE session with room on
its list: ROUTE names the recycling cassette of the denomination with the fewest notes and inbound notes, whose
inbound count rises, the lowest-numbered among equals; for an ENDING one RETURN; the note joins the list. NOTE
RETURNED, and NOTE REJECTED: the returned count rises by 1; one routed to a cassette or D lowers its inbound count and
the committed count, with ROUTE NOT FOLLOWED. ACCEPT ENDED for an ENDING session with nothing in transport closes it.
DEPOSIT JAM for an ACTIVE or ENDING session ends it IN DOUBT with CASH on its lane and the recycler FAULTED; its notes
are given up and their cassettes UNRECONCILED; every QUEUED session closes (stated with nothing in transport and the
recycler not FAULTED before). A note report restarts the timer of its session's state. NOTE STACKED and NOTE RETURNED
on a lane with no session, or with a QUEUED one, are journaled as STRAY STACK and STRAY NOTE of the lane and what they
report and set a QUEUED session's last-note time; the stack makes the cassette reached UNRECONCILED. DESIGN CHOICE: a
QUEUED session without an entry closes too at the fault (log 86); a stray record carries the lane, DEFAULT STACK and
ROUTE NOT FOLLOWED the session's fields (log 75); a number listed twice takes its first entry (log 53); DURESS joins
no QUEUED session's flags at a stray stack or note (log 59). DEDUCED: these set its last-note time and start no timer
(log 40); another condition byte leaves the last (log 28); DEFAULT STACK has no VALUE UNKNOWN (log 52). (R80, R86,
R98, R99, R100, R101, R102, R105, R107) -/
def Obligations.NoteReportsAreCounted : Prop :=
  (∀ (s : State) (x : Exchange) (m : ModuleId) (r : BusReply) (cond : Nat) (l : Lane) (y : Session) (before rest : List Transit) (n : Transit) (d : StackDest) (i : DenomId) (byDefault : Bool),
    s.polled x m r cond [.noteStacked l n.note d byDefault] →
    (s.module m).kind = .recycler →
    s.soundTables = true →
    s.session l = some y →
    y.state = .active →
    y.transit = before ++ n :: rest →
    (∀ e ∈ before, e.note ≠ n.note) →
    n.dest = .store d →
    n.denom = numberOf i →
    1 ≤ (s.cash.denominations[i]).value →
    y.committed < 500 →
    y.value + (s.cash.denominations[i]).value ≤ max32 →
    s.cash.recycler = .busy →
    (s.cassette (stackCassette d)).out = false →
    (s.cassette (stackCassette d)).unreconciled = false →
    (s.cassette (stackCassette d)).count < capacity (stackCassette d) →
    (s.cassette (stackCassette d)).stacked < max32 →
    ∃ t, exec (.wallBusReplyTaken (.fields r)) s = .next t
      ∧ (t.cassette (stackCassette d)).count = (s.cassette (stackCassette d)).count + 1
      ∧ (t.cassette (stackCassette d)).stacked = (s.cassette (stackCassette d)).stacked + 1
      ∧ (t.cassette (stackCassette d)).inbound = (s.cassette (stackCassette d)).inbound - 1
      ∧ (∀ c : CassetteId, c ≠ stackCassette d → t.cassette c = s.cassette c)
      ∧ t.deposit = { s.deposit with
            slots := s.deposit.slots.set l (some { s.noted y with
                    transit := before ++ rest
                    accepted := y.accepted.set i (y.accepted[i] + 1)
                    stacked := y.stacked.set d (y.stacked[d] + 1)
                    value := y.value + (s.cash.denominations[i]).value }) }
      ∧ t.lanes = s.lanes
      ∧ t.screen = s.screen
      ∧ t.dispense = s.dispense
      ∧ t.envelope = s.envelope
      ∧ t.tube = s.tube
      ∧ t.alarm = s.alarm
      ∧ t.bus = s.afterPoll m)
  ∧ (∀ (s : State) (x : Exchange) (m : ModuleId) (r : BusReply) (cond : Nat) (l : Lane) (y : Session) (before rest : List Transit) (n : Transit) (d : StackDest) (i : DenomId) (byDefault : Bool),
    s.polled x m r cond [.noteStacked l n.note d byDefault] →
    (s.module m).kind = .recycler →
    s.soundTables = true →
    s.session l = some y →
    y.state = .active →
    y.transit = before ++ n :: rest →
    (∀ e ∈ before, e.note ≠ n.note) →
    n.dest ≠ .store d →
    n.denom = numberOf i →
    1 ≤ (s.cash.denominations[i]).value →
    (if n.dest = .toCustomer then y.committed + 1 else y.committed) < 500 →
    y.value + (s.cash.denominations[i]).value ≤ max32 →
    s.cash.recycler = .busy →
    (s.cassette (stackCassette d)).out = false →
    (s.cassette (stackCassette d)).unreconciled = false →
    (s.cassette (stackCassette d)).count < capacity (stackCassette d) →
    (s.cassette (stackCassette d)).stacked < max32 →
    ∃ t, exec (.wallBusReplyTaken (.fields r)) s = .next t
      ∧ (t.cassette (stackCassette d)).count = (s.cassette (stackCassette d)).count + 1
      ∧ (t.cassette (stackCassette d)).stacked = (s.cassette (stackCassette d)).stacked + 1
      ∧ (t.cassette (stackCassette d)).inbound = (s.cassette (stackCassette d)).inbound
      ∧ (∀ c : CassetteId,
            c ≠ stackCassette d → t.cassette c = if n.goesTo c = true then
              { s.cassette c with inbound := (s.cassette c).inbound - 1 } else s.cassette c)
      ∧ t.deposit = { s.deposit with
            slots := s.deposit.slots.set l (some { s.noted y with
                    flags := { (s.noted y).flags with defaultStack := true }
                    committed := if n.dest = .toCustomer then y.committed + 1 else y.committed
                    transit := before ++ rest
                    accepted := y.accepted.set i (y.accepted[i] + 1)
                    stacked := y.stacked.set d (y.stacked[d] + 1)
                    value := y.value + (s.cash.denominations[i]).value }) }
      ∧ Noted s t (s.shownChange t (stackCassette d)) [s.stamped {
                kind := .defaultStack
                lane := numberOf l
                station := numberOf y.station
                credential := y.credential
                authIndex := numberOf y.index
                flags := { duress := y.flags.duress }
                facts := [.note n.note n.denom, .dest n.dest, .dest (.store d)] }]
      ∧ t.lanes = s.lanes
      ∧ t.screen = s.screen
      ∧ t.dispense = s.dispense
      ∧ t.envelope = s.envelope
      ∧ t.tube = s.tube
      ∧ t.alarm = s.alarm
      ∧ t.bus = s.afterPoll m)
  ∧ (∀ (s : State) (x : Exchange) (m : ModuleId) (r : BusReply) (cond : Nat) (l : Lane) (y : Session) (before rest : List Transit) (n : Transit) (d : StackDest) (own : Bool),
    s.polled x m r cond [.noteReturned l n.note own] →
    (s.module m).kind = .recycler →
    s.soundTables = true →
    s.session l = some y →
    y.state = .active →
    y.transit = before ++ n :: rest →
    (∀ e ∈ before, e.note ≠ n.note) →
    n.dest = .store d →
    y.returned < 65535 →
    s.cash.recycler = .busy →
    ∃ t, exec (.wallBusReplyTaken (.fields r)) s = .next t
      ∧ t = { s.logged t with
            deposit := { s.deposit with
                slots := s.deposit.slots.set l (some { s.noted y with
                        transit := before ++ rest
                        returned := y.returned + 1
                        committed := y.committed - 1 }) }
            cash := { s.cash with
                condition := s.conditionAfter cond
                cassettes := s.cash.cassettes.set (stackCassette d)
                  { s.cassette (stackCassette d) with inbound := (s.cassette (stackCassette d)).inbound - 1 } }
            bus := s.afterPoll m }
      ∧ Noted s t [] [s.stamped {
                kind := .routeNotFollowed
                lane := numberOf l
                station := numberOf y.station
                credential := y.credential
                authIndex := numberOf y.index
                flags := { duress := y.flags.duress }
                facts := [.note n.note n.denom, .dest n.dest] }])
  ∧ (∀ (s : State) (x : Exchange) (m : ModuleId) (r : BusReply) (cond : Nat) (l : Lane) (y : Session) (n : Nat) (d : StackDest) (i : DenomId),
    s.polled x m r cond [.noteValidated l n (numberOf i)] →
    (s.module m).kind = .recycler →
    s.recyclerEntry = some m →
    s.soundTables = true →
    s.session l = some y →
    y.state = .active →
    y.transit.length < 8 →
    y.committed + 1 < 500 →
    1 ≤ (s.cash.denominations[i]).value →
    s.recycles i (stackCassette d) = true →
    isWork (stackCassette d) = true →
    (∀ k : CassetteId,
        isWork k = true → s.recycles i k = true → k ≠ stackCassette d → (s.cassette (stackCassette d)).count +
          (s.cassette (stackCassette d)).inbound < (s.cassette k).count + (s.cassette k).inbound ∨
          (s.cassette (stackCassette d)).count + (s.cassette (stackCassette d)).inbound = (s.cassette k).count +
          (s.cassette k).inbound ∧ stackCassette d < k) →
    s.bus.outgoing.length < 48 →
    ∃ t, exec (.wallBusReplyTaken (.fields r)) s = .next t
      ∧ t = { s.logged t with
            deposit := { s.deposit with
                slots := s.deposit.slots.set l (some { s.noted y with
                        transit := y.transit ++ [⟨n, numberOf i, .store d⟩]
                        committed := y.committed + 1 }) }
            cash := { s.cash with
                condition := s.conditionAfter cond
                cassettes := s.cash.cassettes.set (stackCassette d)
                  { s.cassette (stackCassette d) with inbound := (s.cassette (stackCassette d)).inbound + 1 } }
            bus := { s.afterPoll m with outgoing := s.bus.outgoing ++ [s.orderTo m .deposit (.route n (.store d))] } }
      ∧ Noted s t [] [])
  ∧ (∀ (s : State) (x : Exchange) (m : ModuleId) (r : BusReply) (cond : Nat) (l : Lane) (y : Session) (n d : Nat),
    s.polled x m r cond [.noteValidated l n d] →
    (s.module m).kind = .recycler →
    s.recyclerEntry = some m →
    s.session l = some y →
    y.state = .ending →
    y.transit.length < 8 →
    s.bus.outgoing.length < 48 →
    ∃ t, exec (.wallBusReplyTaken (.fields r)) s = .next t
      ∧ t = { s.logged t with
            deposit := { s.deposit with
                slots := s.deposit.slots.set l (some { s.noted y with transit := y.transit ++ [⟨n, d, .toCustomer⟩] }) }
            cash := { s.cash with condition := s.conditionAfter cond }
            bus := { s.afterPoll m with outgoing := s.bus.outgoing ++ [s.orderTo m .deposit (.route n .toCustomer)] } }
      ∧ Noted s t [] [])
  ∧ (∀ (s : State) (x : Exchange) (m : ModuleId) (r : BusReply) (cond : Nat) (l : Lane) (y : Session) (before rest : List Transit) (n : Transit) (own : Bool),
    s.polled x m r cond [.noteReturned l n.note own] →
    (s.module m).kind = .recycler →
    s.soundTables = true →
    s.session l = some y →
    y.state = .active →
    y.transit = before ++ n :: rest →
    (∀ e ∈ before, e.note ≠ n.note) →
    n.dest = .toCustomer →
    y.returned < 65535 →
    s.cash.recycler = .busy →
    ∃ t, exec (.wallBusReplyTaken (.fields r)) s = .next t
      ∧ t = { s.logged t with
            deposit := { s.deposit with
                slots := s.deposit.slots.set l
                  (some { s.noted y with transit := before ++ rest, returned := y.returned + 1 }) }
            cash := { s.cash with condition := s.conditionAfter cond }
            bus := s.afterPoll m }
      ∧ Noted s t [] [])
  ∧ (∀ (s : State) (x : Exchange) (m : ModuleId) (r : BusReply) (cond : Nat) (l : Lane) (n : Nat) (d : StackDest) (byDefault : Bool),
    s.polled x m r cond [.noteStacked l n d byDefault] →
    (s.module m).kind = .recycler →
    s.soundTables = true →
    (∀ y ∈ s.session l, y.state = .queued ∧ y.transit = []) →
    s.cash.recycler = .busy →
    ∃ t, exec (.wallBusReplyTaken (.fields r)) s = .next t
      ∧ t = { s.logged t with
            deposit :=
              { s.deposit with slots := s.deposit.slots.set l ((s.session l).map fun y => { y with lastNote := s.now }) }
            cash := { s.cash with
                condition := s.conditionAfter cond
                cassettes := s.cash.cassettes.set (stackCassette d)
                  { s.cassette (stackCassette d) with unreconciled := true } }
            bus := s.afterPoll m }
      ∧ Noted s t (s.shownChange t (stackCassette d))
          [s.stamped { kind := .strayStack, lane := numberOf l, facts := [.note n 0, .dest (.store d)] }])
  ∧ (∀ (s : State) (x : Exchange) (m : ModuleId) (r : BusReply) (cond : Nat) (l : Lane) (n : Nat) (own : Bool),
    s.polled x m r cond [.noteReturned l n own] →
    (s.module m).kind = .recycler →
    s.soundTables = true →
    (∀ y ∈ s.session l, y.state = .queued ∧ y.transit = []) →
    s.cash.recycler = .busy →
    ∃ t, exec (.wallBusReplyTaken (.fields r)) s = .next t
      ∧ t = { s.logged t with
            deposit :=
              { s.deposit with slots := s.deposit.slots.set l ((s.session l).map fun y => { y with lastNote := s.now }) }
            cash := { s.cash with condition := s.conditionAfter cond }
            bus := s.afterPoll m }
      ∧ Noted s t [] [s.stamped { kind := .strayNote, lane := numberOf l, facts := [.note n 0] }])
  ∧ (∀ (s : State) (x : Exchange) (m : ModuleId) (r : BusReply) (cond : Nat) (l : Lane) (y : Session),
    s.polled x m r cond [.noteRejected l] →
    (s.module m).kind = .recycler →
    s.soundTables = true →
    s.session l = some y →
    y.state = .active ∨ y.state = .ending →
    y.returned < 65535 →
    ∃ t, exec (.wallBusReplyTaken (.fields r)) s = .next t
      ∧ t = { s.logged t with
            deposit :=
              { s.deposit with slots := s.deposit.slots.set l (some { s.noted y with returned := y.returned + 1 }) }
            cash := { s.cash with condition := s.conditionAfter cond }
            bus := s.afterPoll m }
      ∧ Noted s t [] [])
  ∧ (∀ (s : State) (x : Exchange) (m : ModuleId) (r : BusReply) (cond : Nat) (l : Lane) (y : Session),
    s.polled x m r cond [.acceptEnded l] →
    (s.module m).kind = .recycler →
    s.session l = some y →
    y.state = .ending →
    y.transit = [] →
    s.bus.outgoing.length < 48 →
    ∃ t, exec (.wallBusReplyTaken (.fields r)) s = .next t
      ∧ t.deposit = { s.deposit with slots := s.deposit.slots.set l none }
      ∧ (t.laneRec l).txn = none
      ∧ t.journal.reserved = s.journal.reserved - 1
      ∧ (t.journal.ring[s.journal.ring.length]?).map (fun r => (r.entry.kind, r.entry.lane, r.entry.value)) = some
          (.closed, numberOf l, y.value)
      ∧ (∀ k : Lane, k ≠ l → t.laneRec k = s.laneRec k)
      ∧ t.cash.cassettes = s.cash.cassettes
      ∧ t.screen = s.screen
      ∧ t.envelope = s.envelope
      ∧ t.tube = s.tube
      ∧ t.alarm = s.alarm)
  ∧ (∀ (s : State) (x : Exchange) (m : ModuleId) (r : BusReply) (cond : Nat) (l : Lane) (y : Session),
    s.polled x m r cond [.depositJam l] →
    (s.module m).kind = .recycler →
    s.session l = some y →
    y.state = .active ∨ y.state = .ending →
    y.transit = [] →
    ∃ t, exec (.wallBusReplyTaken (.fields r)) s = .next t
      ∧ t.session l = none
      ∧ t.cash.recycler = .faulted
      ∧ (t.laneRec l).holds.cash = true
      ∧ (t.laneRec l).txn = none
      ∧ (s.cash.recycler ≠ .faulted → t.cash.workQueue = [])
      ∧ (s.cash.recycler ≠ .faulted → ∀ k : Lane,
            (s.session k).any (fun y => y.state == .queued) = true → t.session k = none)
      ∧ (t.journal.ring[s.journal.ring.length]?).map (fun r => (r.entry.kind, r.entry.lane, r.entry.value)) = some
          (.inDoubt, numberOf l, 0))
  ∧ (∀ (s : State) (x : Exchange) (m : ModuleId) (r : BusReply) (cond : Nat) (l : Lane) (y : Session),
    s.polled x m r cond [.depositJam l] →
    (s.module m).kind = .recycler →
    s.soundTables = true →
    s.session l = some y →
    y.state = .active ∨ y.state = .ending →
    ∃ t, exec (.wallBusReplyTaken (.fields r)) s = .next t
      ∧ t.session l = none
      ∧ t.cash.recycler = .faulted
      ∧ (t.laneRec l).holds.cash = true
      ∧ (t.laneRec l).txn = none
      ∧ (∀ c : CassetteId, (y.transit.any fun n => n.goesTo c) = true → (t.cassette c).unreconciled = true)
      ∧ (∀ c : CassetteId,
            (t.cassette c).count = (s.cassette c).count ∧ (t.cassette c).inbound = (s.cassette c).inbound -
              (y.transit.filter fun n => n.goesTo c).length)
      ∧ (t.journal.ring[s.journal.ring.length]?).map
          (fun r => (r.entry.kind, r.entry.lane, r.entry.value, r.entry.noteCount)) = some (.inDoubt, numberOf l,
            (y.transit.map fun n => ((s.denomOf n.denom).map fun i => (s.cash.denominations[i]).usable).getD 0).sum,
            y.transit.length))

/-- The recycler's poll reply with one report. A PICK REPORT of notes and rejects from one cassette, figures in range,
room in P, no lockdown: the cassette's count falls by both and its tallies rise, P's count and rejected-in tally rise
by the rejects, the other cassettes stay, the record's counts rise, its report timer and IN DOUBT go, and a PICK
record is written. Worth the amount, the record is PRESENTED with its present timer; worth more, likewise, OVER is
decided, CASH is on the lane with an EXCESS record and an OVER report; worth less, with TOPPED UP set or P above 240
notes, PARTIAL is decided: the charge becomes the presented value, the shift total falls by the difference, CASH is on
the lane, and the record is PRESENTED or, with an empty tray, ended PARTIAL in its reserved slot; worth less with a
top-up planned from the cassettes as debited, TOPPED UP is set and the top-up PICK starts under the next tag, with a
TOP-UP record and a TOPPING UP report. With status JAM it is PRESENTED likewise, PARTIAL where worth less (no top-up),
the recycler is FAULTED with its work queue empty and its condition UNKNOWN, and a QUEUED record or session without an
entry ends (logs 57, 86). TAKEN for a PRESENTED record without RETRACT ORDERED, with the work queue empty: it is
TAKEN, its present timer stopped, with one record and one report; nothing else changes. RETRACTED for one with RETRACT
ORDERED, the work queue empty, room in P: RETRACTED stands in its reserved slot, the record is free, P's count and
retracted tally rise by the count reported, the shift total falls by the charge, and the lane has no transaction.
Lane, station, credential and index of the PICK, EXCESS, TOP-UP and TAKEN records are the model's choice (DESIGN
CHOICE, log 75). Report order: log 31. Of several records with one tag the first of the table is taken (DESIGN CHOICE,
log 56). Another condition byte leaves the last one (DEDUCED, log 28). An entry rewritten meanwhile counts as its own
(log 66). (R46, R48, R56, R57, R58, R59, R61, R62, R64, R68, R70, R79) -/
def Obligations.PickAndTrayReportsMoveTheDispense : Prop :=
  (∀ (s : State) (x : Exchange) (m : ModuleId) (r : BusReply) (cond : Nat) (i : DispenseSlot) (p : DispenseRecord) (tag status n q : Nat) (c : Fin 6) (k : CassetteId),
    s.pickReported x m r cond i p tag status c k n q →
    status = 1 ∨ status = 2 →
    s.worthAfter p c n = p.amount →
    s.alarm.lockdown = false →
    ∃ t, exec (.wallBusReplyTaken (.fields r)) s = .next t
      ∧ t.dispense = { s.dispense with records := s.withRecord i (s.presentedNow (s.dispenseCounted p c n q)) }
      ∧ t.cash.cassettes = s.cassettesPicked k n q
      ∧ t.cash.condition = s.conditionAfter cond
      ∧ t.journal.reserved = s.journal.reserved
      ∧ t.screen = s.screen
      ∧ t.envelope = s.envelope
      ∧ t.tube = s.tube
      ∧ t.alarm = s.alarm
      ∧ (s.journal.reserved + 6 ≤ s.journal.free → s.stamped (p.pickEntry tag status c n q) ∈ t.journal.ring.map
              JournalRecord.entry)
      ∧ (s.link.used + 8 < 64 → ∀ y ∈ copied p.reportStation p.tag
              ((s.presentedNow (s.dispenseCounted p c n q)).report .presented none false)
              ((s.presentedNow (s.dispenseCounted p c n q)).report .presented none true), y ∈ t.link.reports))
  ∧ (∀ (s : State) (x : Exchange) (m : ModuleId) (r : BusReply) (cond : Nat) (i : DispenseSlot) (p : DispenseRecord) (tag status n q : Nat) (c : Fin 6) (k : CassetteId),
    s.pickReported x m r cond i p tag status c k n q →
    status = 1 ∨ status = 2 →
    p.amount < s.worthAfter p c n →
    s.alarm.lockdown = false →
    ∃ t, exec (.wallBusReplyTaken (.fields r)) s = .next t
      ∧ t.dispense = { s.dispense with
            records := s.withRecord i { s.presentedNow (s.dispenseCounted p c n q) with decided := some .overPay } }
      ∧ t.cash.cassettes = s.cassettesPicked k n q
      ∧ t.journal.reserved = s.journal.reserved
      ∧ t.screen = s.screen
      ∧ (t.laneRec p.lane).holds = { (s.laneRec p.lane).holds with cash := true }
      ∧ (t.laneRec p.lane).txn = (s.laneRec p.lane).txn
      ∧ (∀ l : Lane, l ≠ p.lane → t.laneRec l = s.laneRec l)
      ∧ t.envelope = s.envelope
      ∧ t.tube = s.tube
      ∧ t.alarm = s.alarm
      ∧ (s.journal.reserved + 6 ≤ s.journal.free → s.stamped (p.pickEntry tag status c n q) ∈ t.journal.ring.map
              JournalRecord.entry)
      ∧ (s.journal.reserved + 6 ≤ s.journal.free → s.stamped { p.entry .excess with
                items := (List.finRange 6).filterMap fun d => if p.plannedCount d <
                  (s.dispenseCounted p c n q).presented[d] then some
                  (numberOf d, (s.dispenseCounted p c n q).presented[d] - p.plannedCount d) else none } ∈
              t.journal.ring.map JournalRecord.entry)
      ∧ (s.link.used + 8 < 64 → ∀ y ∈ copied p.reportStation p.tag
              ((s.dispenseCounted p c n q).report .overPay none false)
              ((s.dispenseCounted p c n q).report .overPay none true), y ∈ t.link.reports))
  ∧ (∀ (s : State) (x : Exchange) (m : ModuleId) (r : BusReply) (cond : Nat) (i : DispenseSlot) (p : DispenseRecord) (tag status n q : Nat) (c : Fin 6) (k : CassetteId),
    s.pickReported x m r cond i p tag status c k n q →
    status = 1 ∨ status = 2 →
    s.worthAfter p c n < p.amount →
    0 < s.worthAfter p c n →
    s.worthAfter p c n ≤ p.charge →
    p.flags.toppedUp = true ∨ 240 < (s.cassette cassetteP).count + q →
    s.alarm.lockdown = false →
    (s.authority p.index).credential = p.credential →
    ∃ t, exec (.wallBusReplyTaken (.fields r)) s = .next t
      ∧ t.dispense = { s.dispense with
            records := s.withRecord i (s.presentedNow
                  { (s.dispenseCounted p c n q) with decided := some .partialPay, charge := s.worthAfter p c n }) }
      ∧ t.cash.cassettes = s.cassettesPicked k n q
      ∧ t.journal.reserved = s.journal.reserved
      ∧ (t.authority p.index).shiftTotal = (s.authority p.index).shiftTotal - (p.charge - s.worthAfter p c n)
      ∧ (∀ j : AuthId, j ≠ p.index → t.authority j = s.authority j)
      ∧ t.screen.consoles = s.screen.consoles
      ∧ (t.laneRec p.lane).holds = { (s.laneRec p.lane).holds with cash := true }
      ∧ (t.laneRec p.lane).txn = (s.laneRec p.lane).txn
      ∧ (∀ l : Lane, l ≠ p.lane → t.laneRec l = s.laneRec l)
      ∧ t.envelope = s.envelope
      ∧ t.tube = s.tube
      ∧ t.alarm = s.alarm
      ∧ (s.journal.reserved + 6 ≤ s.journal.free → s.stamped (p.pickEntry tag status c n q) ∈ t.journal.ring.map
              JournalRecord.entry)
      ∧ (s.link.used + 8 < 64 → ∀ y ∈ copied p.reportStation p.tag (({ (s.dispenseCounted p c n q) with
                        decided := some .partialPay
                        charge := s.worthAfter p c n } : DispenseRecord).report .partialPay none false)
              (({ (s.dispenseCounted p c n q) with decided := some .partialPay, charge := s.worthAfter p c n } :
                      DispenseRecord).report .partialPay none true), y ∈ t.link.reports))
  ∧ (∀ (s : State) (x : Exchange) (m : ModuleId) (r : BusReply) (cond : Nat) (i : DispenseSlot) (p : DispenseRecord) (tag status n q : Nat) (c : Fin 6) (k : CassetteId),
    s.pickReported x m r cond i p tag status c k n q →
    status = 1 ∨ status = 2 →
    s.worthAfter p c n = 0 →
    0 < p.amount →
    p.presented = Vector.replicate 6 0 →
    n = 0 →
    p.flags.toppedUp = true ∨ 240 < (s.cassette cassetteP).count + q →
    (s.authority p.index).credential = p.credential →
    s.bus.outgoing.length < 48 →
    ∃ t, exec (.wallBusReplyTaken (.fields r)) s = .next t
      ∧ t.dispense.records[i] = none
      ∧ t.cash.cassettes = s.cassettesPicked k n q
      ∧ t.journal.reserved = s.journal.reserved - 1
      ∧ (t.authority p.index).shiftTotal = (s.authority p.index).shiftTotal - (p.charge - s.worthAfter p c n)
      ∧ (∀ j : AuthId, j ≠ p.index → t.authority j = s.authority j)
      ∧ t.screen.consoles = s.screen.consoles
      ∧ (t.laneRec p.lane).holds.cash = true
      ∧ (t.laneRec p.lane).txn = none
      ∧ (∀ l : Lane, l ≠ p.lane → t.laneRec l = s.laneRec l)
      ∧ t.envelope = s.envelope
      ∧ t.tube = s.tube
      ∧ t.alarm = s.alarm
      ∧ (t.journal.ring.any fun x => x.entry.kind == .partialPay && x.entry.lane == numberOf p.lane && x.entry.value ==
              p.amount && x.entry.noteCount == 0) = true)
  ∧ (∀ (s : State) (x : Exchange) (m : ModuleId) (r : BusReply) (cond : Nat) (i : DispenseSlot) (p : DispenseRecord) (tag status n q : Nat) (c : Fin 6) (k : CassetteId) (items : List PlanItem),
    s.pickReported x m r cond i p tag status c k n q →
    status = 1 ∨ status = 2 →
    s.worthAfter p c n < p.amount →
    p.flags.toppedUp = false →
    s.alarm.lockdown = false →
    s.recyclerEntry = some m →
    (s.cassette cassetteP).count + q ≤ 240 →
    (s.cassette cassetteP).out = false ∧ (s.cassette cassetteP).suspended = false →
    s.trayFree = true →
    s.dispenseOf p.id = some i →
    s.runsOnly p.id →
    s.bus.outgoing.length < 48 →
    n < s.cash.planner.value →
    mixOf ({ s with cash := { s.cash with cassettes := s.cassettesPicked k n q } }.eligibleList
          (if n = 0 ∧ 1 ≤ q then [k] else [])) (p.amount - s.worthAfter p c n) (s.cash.planner.value - n) = .plan items →
    ∃ t, exec (.wallBusReplyTaken (.fields r)) s = .next t
      ∧ t.dispense = { s.dispense with
            lastTag := if s.dispense.lastTag = 65535 then 1 else s.dispense.lastTag + 1
            records := s.withRecord i { s.dispenseCounted p c n q with
                flags := { (s.dispenseCounted p c n q).flags with toppedUp := true }
                topUp := some items
                pickTag := some t.dispense.lastTag
                queryCount := 0
                reportTimer := some ⟨s.now, 30000⟩ } }
      ∧ t.cash = { s.cash with
            condition := s.conditionAfter cond
            cassettes := s.cassettesPicked k n q
            recycler := .busy
            workQueue := ⟨.pick p.id items true, true⟩ :: s.cash.workQueue.filter fun e => !e.running }
      ∧ t.bus =
          { s.afterPoll m with outgoing := s.bus.outgoing ++ [s.orderTo m .dispense (.pick t.dispense.lastTag items)] }
      ∧ t.journal.reserved = s.journal.reserved
      ∧ t.lanes = s.lanes
      ∧ t.screen = s.screen
      ∧ t.deposit = s.deposit
      ∧ t.envelope = s.envelope
      ∧ t.tube = s.tube
      ∧ t.alarm = s.alarm
      ∧ (s.journal.reserved + 6 ≤ s.journal.free → s.stamped
              { p.entry .topUp with items := items.map fun y => (numberOf y.cassette, y.count) } ∈ t.journal.ring.map
              JournalRecord.entry)
      ∧ (s.link.used + 8 < 64 → ∀ y ∈ copied p.reportStation p.tag (({ (s.dispenseCounted p c n q) with
                        flags := { (s.dispenseCounted p c n q).flags with toppedUp := true } } : DispenseRecord).report
                  .toppingUp none false) (({ (s.dispenseCounted p c n q) with
                        flags := { (s.dispenseCounted p c n q).flags with toppedUp := true } } : DispenseRecord).report
                  .toppingUp none true), y ∈ t.link.reports))
  ∧ (∀ (s : State) (x : Exchange) (m : ModuleId) (r : BusReply) (cond : Nat) (i : DispenseSlot) (p : DispenseRecord) (tag status n q : Nat) (c : Fin 6) (k : CassetteId),
    s.pickReported x m r cond i p tag 3 c k n q →
    0 < s.worthAfter p c n →
    s.worthAfter p c n ≤ p.amount →
    s.worthAfter p c n ≤ p.charge →
    s.alarm.lockdown = false →
    s.cash.recycler ≠ .faulted →
    s.cash.workQueue.all (fun e => e.running) = true →
    (s.authority p.index).credential = p.credential →
    ∃ t, exec (.wallBusReplyTaken (.fields r)) s = .next t
      ∧ t.dispense = { s.dispense with
            records := (s.withRecord i (s.presentedNow (if s.worthAfter p c n = p.amount then s.dispenseCounted p c n q
                          else { (s.dispenseCounted p c n q) with
                            decided := some .partialPay
                            charge := s.worthAfter p c n }))).map fun y => if y.any (fun y => y.state == .queued) then
              none else y }
      ∧ t.cash = { s.cash with
            condition := .unknown
            cassettes := s.cassettesPicked k n q
            recycler := .faulted
            workQueue := [] }
      ∧ t.journal.reserved = s.journal.reserved - (s.dispenses.filter fun y => y.state == .queued).length -
          (s.sessions.filter fun y => y.state == .queued).length
      ∧ ((∀ y ∈ s.dispenses, y.state ≠ .queued ∨ y.index ≠ p.index) → (t.authority p.index).shiftTotal =
              (if s.worthAfter p c n = p.amount then (s.authority p.index).shiftTotal else
                  (s.authority p.index).shiftTotal - (p.charge - s.worthAfter p c n)))
      ∧ ((∀ y ∈ s.dispenses, y.state ≠ .queued ∨ y.lane ≠ p.lane ∨ y.flags.takenLate = false) →
              (t.laneRec p.lane).holds.cash = ((s.laneRec p.lane).holds.cash || decide (s.worthAfter p c n < p.amount)))
      ∧ (∀ l : Lane,
            l ≠ p.lane → (∀ y ∈ s.dispenses, y.state ≠ .queued ∨ y.lane ≠ l) → (s.session l).all
              (fun y => y.state != .queued) = true → t.laneRec l = s.laneRec l)
      ∧ t.deposit =
          { s.deposit with slots := s.deposit.slots.map fun y => if y.any (fun y => y.state == .queued) then none else y }
      ∧ ((∀ l : Lane, (s.session l).all (fun y => y.state != .queued) = true) → t.bus = s.afterPoll m)
      ∧ t.envelope = s.envelope
      ∧ t.tube = s.tube
      ∧ t.alarm = s.alarm
      ∧ (s.journal.reserved + 6 ≤ s.journal.free → s.stamped (p.pickEntry tag 3 c n q) ∈ t.journal.ring.map
              JournalRecord.entry)
      ∧ ((∀ y ∈ s.dispenses, y.state ≠ .queued) → (∀ l : Lane, (s.session l).all (fun y => y.state != .queued) = true) →
              s.journal.reserved + 6 ≤ s.journal.free → s.stamped { kind := .recyclerFault } ∈ t.journal.ring.map
              JournalRecord.entry))
  ∧ (∀ (s : State) (x : Exchange) (m : ModuleId) (r : BusReply) (cond : Nat) (i : DispenseSlot) (p : DispenseRecord) (tag : Nat),
    s.polled x m r cond [.taken tag] →
    (s.module m).kind = .recycler →
    s.withTag tag = some i →
    s.dispense.records[i] = some p →
    p.state = .presented →
    p.flags.retractOrdered = false →
    s.cash.workQueue = [] →
    ∃ t, exec (.wallBusReplyTaken (.fields r)) s = .next t
      ∧ t = { s.logged t with
            dispense := { s.dispense with
                records := s.withRecord i { s.dispenseTouched p with state := .taken, presentTimer := none } }
            cash := { s.cash with condition := s.conditionAfter cond }
            bus := s.afterPoll m }
      ∧ Noted s t (copied p.reportStation p.tag ((s.dispenseTouched p).report .taken none false)
              ((s.dispenseTouched p).report .taken none true)) [s.stamped (p.entry .taken)])
  ∧ (∀ (s : State) (x : Exchange) (m : ModuleId) (r : BusReply) (cond : Nat) (i : DispenseSlot) (p : DispenseRecord) (tag n : Nat),
    s.polled x m r cond [.retracted tag n] →
    (s.module m).kind = .recycler →
    s.soundTables = true →
    s.findDispense (fun q => q.pickTag == some tag && q.flags.retractOrdered) = some i →
    s.dispense.records[i] = some p →
    n ≤ 100 →
    (s.cassette cassetteP).count + n ≤ 300 →
    (s.cassette cassetteP).retractedIn + n ≤ max32 →
    (s.authority p.index).credential = p.credential →
    s.cash.workQueue = [] →
    ∃ t, exec (.wallBusReplyTaken (.fields r)) s = .next t
      ∧ t.dispense.records[i] = none
      ∧ (∀ j : DispenseSlot, j ≠ i → t.dispense.records[j] = s.dispense.records[j])
      ∧ (t.laneRec p.lane).txn = none
      ∧ t.journal.reserved = s.journal.reserved - 1
      ∧ (t.journal.ring[s.journal.ring.length]?).map (fun x => (x.entry.kind, x.entry.lane, x.entry.value)) = some
          (.retracted, numberOf p.lane, p.amount)
      ∧ (t.cassette cassetteP).count = (s.cassette cassetteP).count + n
      ∧ (t.cassette cassetteP).retractedIn = (s.cassette cassetteP).retractedIn + n
      ∧ (∀ j : CassetteId, j ≠ cassetteP → t.cassette j = s.cassette j)
      ∧ (t.authority p.index).shiftTotal = (s.authority p.index).shiftTotal - p.charge
      ∧ (∀ j : AuthId, j ≠ p.index → t.authority j = s.authority j)
      ∧ (∀ l : Lane, l ≠ p.lane → t.laneRec l = s.laneRec l)
      ∧ t.cash.condition = s.conditionAfter cond
      ∧ t.screen.consoles = s.screen.consoles
      ∧ t.deposit = s.deposit
      ∧ t.envelope = s.envelope
      ∧ t.tube = s.tube
      ∧ t.alarm = s.alarm
      ∧ t.bus = s.afterPoll m)
end

