-- ==== Sys2Proof/Laws/State.lean ====
section
/-! SUPPORT. Every field of the state under each block's update, by `rfl`, and two updates of one block as one: no later proof
unfolds a record update. -/

namespace Sys2Proof.Machine

open Sys2Proof

variable (s : State)

/-! ### Updates of `link` -/

variable (f g : Link → Link) in
theorem State.mapLink_mapLink : (s.mapLink f).mapLink g = s.mapLink fun x => g (f x) := rfl
@[simp] theorem State.mapLink_pending (f : Link → Link) : (s.mapLink f).pending = s.pending := rfl
@[simp] theorem State.mapLink_link (f : Link → Link) : (s.mapLink f).link = f s.link := rfl
@[simp] theorem State.mapLink_screen (f : Link → Link) : (s.mapLink f).screen = s.screen := rfl
@[simp] theorem State.mapLink_lanes (f : Link → Link) : (s.mapLink f).lanes = s.lanes := rfl
@[simp] theorem State.mapLink_dispense (f : Link → Link) : (s.mapLink f).dispense = s.dispense := rfl
@[simp] theorem State.mapLink_cash (f : Link → Link) : (s.mapLink f).cash = s.cash := rfl
@[simp] theorem State.mapLink_deposit (f : Link → Link) : (s.mapLink f).deposit = s.deposit := rfl
@[simp] theorem State.mapLink_envelope (f : Link → Link) : (s.mapLink f).envelope = s.envelope := rfl
@[simp] theorem State.mapLink_tube (f : Link → Link) : (s.mapLink f).tube = s.tube := rfl
@[simp] theorem State.mapLink_alarm (f : Link → Link) : (s.mapLink f).alarm = s.alarm := rfl
@[simp] theorem State.mapLink_bus (f : Link → Link) : (s.mapLink f).bus = s.bus := rfl
@[simp] theorem State.mapLink_journal (f : Link → Link) : (s.mapLink f).journal = s.journal := rfl
@[simp] theorem State.mapLink_mgmt (f : Link → Link) : (s.mapLink f).mgmt = s.mgmt := rfl

/-! ### Updates of `screen` -/

variable (f g : OrderScreen → OrderScreen) in
theorem State.mapScreen_mapScreen : (s.mapScreen f).mapScreen g = s.mapScreen fun x => g (f x) := rfl
@[simp] theorem State.mapScreen_pending (f : OrderScreen → OrderScreen) : (s.mapScreen f).pending = s.pending := rfl
@[simp] theorem State.mapScreen_link (f : OrderScreen → OrderScreen) : (s.mapScreen f).link = s.link := rfl
@[simp] theorem State.mapScreen_screen (f : OrderScreen → OrderScreen) : (s.mapScreen f).screen = f s.screen := rfl
@[simp] theorem State.mapScreen_lanes (f : OrderScreen → OrderScreen) : (s.mapScreen f).lanes = s.lanes := rfl
@[simp] theorem State.mapScreen_dispense (f : OrderScreen → OrderScreen) : (s.mapScreen f).dispense = s.dispense := rfl
@[simp] theorem State.mapScreen_cash (f : OrderScreen → OrderScreen) : (s.mapScreen f).cash = s.cash := rfl
@[simp] theorem State.mapScreen_deposit (f : OrderScreen → OrderScreen) : (s.mapScreen f).deposit = s.deposit := rfl
@[simp] theorem State.mapScreen_envelope (f : OrderScreen → OrderScreen) : (s.mapScreen f).envelope = s.envelope := rfl
@[simp] theorem State.mapScreen_tube (f : OrderScreen → OrderScreen) : (s.mapScreen f).tube = s.tube := rfl
@[simp] theorem State.mapScreen_alarm (f : OrderScreen → OrderScreen) : (s.mapScreen f).alarm = s.alarm := rfl
@[simp] theorem State.mapScreen_bus (f : OrderScreen → OrderScreen) : (s.mapScreen f).bus = s.bus := rfl
@[simp] theorem State.mapScreen_journal (f : OrderScreen → OrderScreen) : (s.mapScreen f).journal = s.journal := rfl
@[simp] theorem State.mapScreen_mgmt (f : OrderScreen → OrderScreen) : (s.mapScreen f).mgmt = s.mgmt := rfl

/-! ### Updates of `lanes` -/

variable (f g : LaneControl → LaneControl) in
theorem State.mapLanes_mapLanes : (s.mapLanes f).mapLanes g = s.mapLanes fun x => g (f x) := rfl
@[simp] theorem State.mapLanes_pending (f : LaneControl → LaneControl) : (s.mapLanes f).pending = s.pending := rfl
@[simp] theorem State.mapLanes_link (f : LaneControl → LaneControl) : (s.mapLanes f).link = s.link := rfl
@[simp] theorem State.mapLanes_screen (f : LaneControl → LaneControl) : (s.mapLanes f).screen = s.screen := rfl
@[simp] theorem State.mapLanes_lanes (f : LaneControl → LaneControl) : (s.mapLanes f).lanes = f s.lanes := rfl
@[simp] theorem State.mapLanes_dispense (f : LaneControl → LaneControl) : (s.mapLanes f).dispense = s.dispense := rfl
@[simp] theorem State.mapLanes_cash (f : LaneControl → LaneControl) : (s.mapLanes f).cash = s.cash := rfl
@[simp] theorem State.mapLanes_deposit (f : LaneControl → LaneControl) : (s.mapLanes f).deposit = s.deposit := rfl
@[simp] theorem State.mapLanes_envelope (f : LaneControl → LaneControl) : (s.mapLanes f).envelope = s.envelope := rfl
@[simp] theorem State.mapLanes_tube (f : LaneControl → LaneControl) : (s.mapLanes f).tube = s.tube := rfl
@[simp] theorem State.mapLanes_alarm (f : LaneControl → LaneControl) : (s.mapLanes f).alarm = s.alarm := rfl
@[simp] theorem State.mapLanes_bus (f : LaneControl → LaneControl) : (s.mapLanes f).bus = s.bus := rfl
@[simp] theorem State.mapLanes_journal (f : LaneControl → LaneControl) : (s.mapLanes f).journal = s.journal := rfl
@[simp] theorem State.mapLanes_mgmt (f : LaneControl → LaneControl) : (s.mapLanes f).mgmt = s.mgmt := rfl

/-! ### Updates of `dispense` -/

variable (f g : DispenseControl → DispenseControl) in
theorem State.mapDispense_mapDispense : (s.mapDispense f).mapDispense g = s.mapDispense fun x => g (f x) := rfl
@[simp] theorem State.mapDispense_pending (f : DispenseControl → DispenseControl) : (s.mapDispense f).pending = s.pending := rfl
@[simp] theorem State.mapDispense_link (f : DispenseControl → DispenseControl) : (s.mapDispense f).link = s.link := rfl
@[simp] theorem State.mapDispense_screen (f : DispenseControl → DispenseControl) : (s.mapDispense f).screen = s.screen := rfl
@[simp] theorem State.mapDispense_lanes (f : DispenseControl → DispenseControl) : (s.mapDispense f).lanes = s.lanes := rfl
@[simp] theorem State.mapDispense_dispense (f : DispenseControl → DispenseControl) : (s.mapDispense f).dispense = f s.dispense := rfl
@[simp] theorem State.mapDispense_cash (f : DispenseControl → DispenseControl) : (s.mapDispense f).cash = s.cash := rfl
@[simp] theorem State.mapDispense_deposit (f : DispenseControl → DispenseControl) : (s.mapDispense f).deposit = s.deposit := rfl
@[simp] theorem State.mapDispense_envelope (f : DispenseControl → DispenseControl) : (s.mapDispense f).envelope = s.envelope := rfl
@[simp] theorem State.mapDispense_tube (f : DispenseControl → DispenseControl) : (s.mapDispense f).tube = s.tube := rfl
@[simp] theorem State.mapDispense_alarm (f : DispenseControl → DispenseControl) : (s.mapDispense f).alarm = s.alarm := rfl
@[simp] theorem State.mapDispense_bus (f : DispenseControl → DispenseControl) : (s.mapDispense f).bus = s.bus := rfl
@[simp] theorem State.mapDispense_journal (f : DispenseControl → DispenseControl) : (s.mapDispense f).journal = s.journal := rfl
@[simp] theorem State.mapDispense_mgmt (f : DispenseControl → DispenseControl) : (s.mapDispense f).mgmt = s.mgmt := rfl

/-! ### Updates of `cash` -/

variable (f g : CashPosition → CashPosition) in
theorem State.mapCash_mapCash : (s.mapCash f).mapCash g = s.mapCash fun x => g (f x) := rfl
@[simp] theorem State.mapCash_pending (f : CashPosition → CashPosition) : (s.mapCash f).pending = s.pending := rfl
@[simp] theorem State.mapCash_link (f : CashPosition → CashPosition) : (s.mapCash f).link = s.link := rfl
@[simp] theorem State.mapCash_screen (f : CashPosition → CashPosition) : (s.mapCash f).screen = s.screen := rfl
@[simp] theorem State.mapCash_lanes (f : CashPosition → CashPosition) : (s.mapCash f).lanes = s.lanes := rfl
@[simp] theorem State.mapCash_dispense (f : CashPosition → CashPosition) : (s.mapCash f).dispense = s.dispense := rfl
@[simp] theorem State.mapCash_cash (f : CashPosition → CashPosition) : (s.mapCash f).cash = f s.cash := rfl
@[simp] theorem State.mapCash_deposit (f : CashPosition → CashPosition) : (s.mapCash f).deposit = s.deposit := rfl
@[simp] theorem State.mapCash_envelope (f : CashPosition → CashPosition) : (s.mapCash f).envelope = s.envelope := rfl
@[simp] theorem State.mapCash_tube (f : CashPosition → CashPosition) : (s.mapCash f).tube = s.tube := rfl
@[simp] theorem State.mapCash_alarm (f : CashPosition → CashPosition) : (s.mapCash f).alarm = s.alarm := rfl
@[simp] theorem State.mapCash_bus (f : CashPosition → CashPosition) : (s.mapCash f).bus = s.bus := rfl
@[simp] theorem State.mapCash_journal (f : CashPosition → CashPosition) : (s.mapCash f).journal = s.journal := rfl
@[simp] theorem State.mapCash_mgmt (f : CashPosition → CashPosition) : (s.mapCash f).mgmt = s.mgmt := rfl

/-! ### Updates of `deposit` -/

variable (f g : DepositControl → DepositControl) in
theorem State.mapDeposit_mapDeposit : (s.mapDeposit f).mapDeposit g = s.mapDeposit fun x => g (f x) := rfl
@[simp] theorem State.mapDeposit_pending (f : DepositControl → DepositControl) : (s.mapDeposit f).pending = s.pending := rfl
@[simp] theorem State.mapDeposit_link (f : DepositControl → DepositControl) : (s.mapDeposit f).link = s.link := rfl
@[simp] theorem State.mapDeposit_screen (f : DepositControl → DepositControl) : (s.mapDeposit f).screen = s.screen := rfl
@[simp] theorem State.mapDeposit_lanes (f : DepositControl → DepositControl) : (s.mapDeposit f).lanes = s.lanes := rfl
@[simp] theorem State.mapDeposit_dispense (f : DepositControl → DepositControl) : (s.mapDeposit f).dispense = s.dispense := rfl
@[simp] theorem State.mapDeposit_cash (f : DepositControl → DepositControl) : (s.mapDeposit f).cash = s.cash := rfl
@[simp] theorem State.mapDeposit_deposit (f : DepositControl → DepositControl) : (s.mapDeposit f).deposit = f s.deposit := rfl
@[simp] theorem State.mapDeposit_envelope (f : DepositControl → DepositControl) : (s.mapDeposit f).envelope = s.envelope := rfl
@[simp] theorem State.mapDeposit_tube (f : DepositControl → DepositControl) : (s.mapDeposit f).tube = s.tube := rfl
@[simp] theorem State.mapDeposit_alarm (f : DepositControl → DepositControl) : (s.mapDeposit f).alarm = s.alarm := rfl
@[simp] theorem State.mapDeposit_bus (f : DepositControl → DepositControl) : (s.mapDeposit f).bus = s.bus := rfl
@[simp] theorem State.mapDeposit_journal (f : DepositControl → DepositControl) : (s.mapDeposit f).journal = s.journal := rfl
@[simp] theorem State.mapDeposit_mgmt (f : DepositControl → DepositControl) : (s.mapDeposit f).mgmt = s.mgmt := rfl

/-! ### Updates of `envelope` -/

variable (f g : EnvelopeControl → EnvelopeControl) in
theorem State.mapEnvelope_mapEnvelope : (s.mapEnvelope f).mapEnvelope g = s.mapEnvelope fun x => g (f x) := rfl
@[simp] theorem State.mapEnvelope_pending (f : EnvelopeControl → EnvelopeControl) : (s.mapEnvelope f).pending = s.pending := rfl
@[simp] theorem State.mapEnvelope_link (f : EnvelopeControl → EnvelopeControl) : (s.mapEnvelope f).link = s.link := rfl
@[simp] theorem State.mapEnvelope_screen (f : EnvelopeControl → EnvelopeControl) : (s.mapEnvelope f).screen = s.screen := rfl
@[simp] theorem State.mapEnvelope_lanes (f : EnvelopeControl → EnvelopeControl) : (s.mapEnvelope f).lanes = s.lanes := rfl
@[simp] theorem State.mapEnvelope_dispense (f : EnvelopeControl → EnvelopeControl) : (s.mapEnvelope f).dispense = s.dispense := rfl
@[simp] theorem State.mapEnvelope_cash (f : EnvelopeControl → EnvelopeControl) : (s.mapEnvelope f).cash = s.cash := rfl
@[simp] theorem State.mapEnvelope_deposit (f : EnvelopeControl → EnvelopeControl) : (s.mapEnvelope f).deposit = s.deposit := rfl
@[simp] theorem State.mapEnvelope_envelope (f : EnvelopeControl → EnvelopeControl) : (s.mapEnvelope f).envelope = f s.envelope := rfl
@[simp] theorem State.mapEnvelope_tube (f : EnvelopeControl → EnvelopeControl) : (s.mapEnvelope f).tube = s.tube := rfl
@[simp] theorem State.mapEnvelope_alarm (f : EnvelopeControl → EnvelopeControl) : (s.mapEnvelope f).alarm = s.alarm := rfl
@[simp] theorem State.mapEnvelope_bus (f : EnvelopeControl → EnvelopeControl) : (s.mapEnvelope f).bus = s.bus := rfl
@[simp] theorem State.mapEnvelope_journal (f : EnvelopeControl → EnvelopeControl) : (s.mapEnvelope f).journal = s.journal := rfl
@[simp] theorem State.mapEnvelope_mgmt (f : EnvelopeControl → EnvelopeControl) : (s.mapEnvelope f).mgmt = s.mgmt := rfl

/-! ### Updates of `tube` -/

variable (f g : TubeScheduler → TubeScheduler) in
theorem State.mapTube_mapTube : (s.mapTube f).mapTube g = s.mapTube fun x => g (f x) := rfl
@[simp] theorem State.mapTube_pending (f : TubeScheduler → TubeScheduler) : (s.mapTube f).pending = s.pending := rfl
@[simp] theorem State.mapTube_link (f : TubeScheduler → TubeScheduler) : (s.mapTube f).link = s.link := rfl
@[simp] theorem State.mapTube_screen (f : TubeScheduler → TubeScheduler) : (s.mapTube f).screen = s.screen := rfl
@[simp] theorem State.mapTube_lanes (f : TubeScheduler → TubeScheduler) : (s.mapTube f).lanes = s.lanes := rfl
@[simp] theorem State.mapTube_dispense (f : TubeScheduler → TubeScheduler) : (s.mapTube f).dispense = s.dispense := rfl
@[simp] theorem State.mapTube_cash (f : TubeScheduler → TubeScheduler) : (s.mapTube f).cash = s.cash := rfl
@[simp] theorem State.mapTube_deposit (f : TubeScheduler → TubeScheduler) : (s.mapTube f).deposit = s.deposit := rfl
@[simp] theorem State.mapTube_envelope (f : TubeScheduler → TubeScheduler) : (s.mapTube f).envelope = s.envelope := rfl
@[simp] theorem State.mapTube_tube (f : TubeScheduler → TubeScheduler) : (s.mapTube f).tube = f s.tube := rfl
@[simp] theorem State.mapTube_alarm (f : TubeScheduler → TubeScheduler) : (s.mapTube f).alarm = s.alarm := rfl
@[simp] theorem State.mapTube_bus (f : TubeScheduler → TubeScheduler) : (s.mapTube f).bus = s.bus := rfl
@[simp] theorem State.mapTube_journal (f : TubeScheduler → TubeScheduler) : (s.mapTube f).journal = s.journal := rfl
@[simp] theorem State.mapTube_mgmt (f : TubeScheduler → TubeScheduler) : (s.mapTube f).mgmt = s.mgmt := rfl

/-! ### Updates of `alarm` -/

variable (f g : AlarmSupervisor → AlarmSupervisor) in
theorem State.mapAlarm_mapAlarm : (s.mapAlarm f).mapAlarm g = s.mapAlarm fun x => g (f x) := rfl
@[simp] theorem State.mapAlarm_pending (f : AlarmSupervisor → AlarmSupervisor) : (s.mapAlarm f).pending = s.pending := rfl
@[simp] theorem State.mapAlarm_link (f : AlarmSupervisor → AlarmSupervisor) : (s.mapAlarm f).link = s.link := rfl
@[simp] theorem State.mapAlarm_screen (f : AlarmSupervisor → AlarmSupervisor) : (s.mapAlarm f).screen = s.screen := rfl
@[simp] theorem State.mapAlarm_lanes (f : AlarmSupervisor → AlarmSupervisor) : (s.mapAlarm f).lanes = s.lanes := rfl
@[simp] theorem State.mapAlarm_dispense (f : AlarmSupervisor → AlarmSupervisor) : (s.mapAlarm f).dispense = s.dispense := rfl
@[simp] theorem State.mapAlarm_cash (f : AlarmSupervisor → AlarmSupervisor) : (s.mapAlarm f).cash = s.cash := rfl
@[simp] theorem State.mapAlarm_deposit (f : AlarmSupervisor → AlarmSupervisor) : (s.mapAlarm f).deposit = s.deposit := rfl
@[simp] theorem State.mapAlarm_envelope (f : AlarmSupervisor → AlarmSupervisor) : (s.mapAlarm f).envelope = s.envelope := rfl
@[simp] theorem State.mapAlarm_tube (f : AlarmSupervisor → AlarmSupervisor) : (s.mapAlarm f).tube = s.tube := rfl
@[simp] theorem State.mapAlarm_alarm (f : AlarmSupervisor → AlarmSupervisor) : (s.mapAlarm f).alarm = f s.alarm := rfl
@[simp] theorem State.mapAlarm_bus (f : AlarmSupervisor → AlarmSupervisor) : (s.mapAlarm f).bus = s.bus := rfl
@[simp] theorem State.mapAlarm_journal (f : AlarmSupervisor → AlarmSupervisor) : (s.mapAlarm f).journal = s.journal := rfl
@[simp] theorem State.mapAlarm_mgmt (f : AlarmSupervisor → AlarmSupervisor) : (s.mapAlarm f).mgmt = s.mgmt := rfl

/-! ### Updates of `bus` -/

variable (f g : BusController → BusController) in
theorem State.mapBus_mapBus : (s.mapBus f).mapBus g = s.mapBus fun x => g (f x) := rfl
@[simp] theorem State.mapBus_pending (f : BusController → BusController) : (s.mapBus f).pending = s.pending := rfl
@[simp] theorem State.mapBus_link (f : BusController → BusController) : (s.mapBus f).link = s.link := rfl
@[simp] theorem State.mapBus_screen (f : BusController → BusController) : (s.mapBus f).screen = s.screen := rfl
@[simp] theorem State.mapBus_lanes (f : BusController → BusController) : (s.mapBus f).lanes = s.lanes := rfl
@[simp] theorem State.mapBus_dispense (f : BusController → BusController) : (s.mapBus f).dispense = s.dispense := rfl
@[simp] theorem State.mapBus_cash (f : BusController → BusController) : (s.mapBus f).cash = s.cash := rfl
@[simp] theorem State.mapBus_deposit (f : BusController → BusController) : (s.mapBus f).deposit = s.deposit := rfl
@[simp] theorem State.mapBus_envelope (f : BusController → BusController) : (s.mapBus f).envelope = s.envelope := rfl
@[simp] theorem State.mapBus_tube (f : BusController → BusController) : (s.mapBus f).tube = s.tube := rfl
@[simp] theorem State.mapBus_alarm (f : BusController → BusController) : (s.mapBus f).alarm = s.alarm := rfl
@[simp] theorem State.mapBus_bus (f : BusController → BusController) : (s.mapBus f).bus = f s.bus := rfl
@[simp] theorem State.mapBus_journal (f : BusController → BusController) : (s.mapBus f).journal = s.journal := rfl
@[simp] theorem State.mapBus_mgmt (f : BusController → BusController) : (s.mapBus f).mgmt = s.mgmt := rfl

/-! ### Updates of `journal` -/

variable (f g : Journal → Journal) in
theorem State.mapJournal_mapJournal : (s.mapJournal f).mapJournal g = s.mapJournal fun x => g (f x) := rfl
@[simp] theorem State.mapJournal_pending (f : Journal → Journal) : (s.mapJournal f).pending = s.pending := rfl
@[simp] theorem State.mapJournal_link (f : Journal → Journal) : (s.mapJournal f).link = s.link := rfl
@[simp] theorem State.mapJournal_screen (f : Journal → Journal) : (s.mapJournal f).screen = s.screen := rfl
@[simp] theorem State.mapJournal_lanes (f : Journal → Journal) : (s.mapJournal f).lanes = s.lanes := rfl
@[simp] theorem State.mapJournal_dispense (f : Journal → Journal) : (s.mapJournal f).dispense = s.dispense := rfl
@[simp] theorem State.mapJournal_cash (f : Journal → Journal) : (s.mapJournal f).cash = s.cash := rfl
@[simp] theorem State.mapJournal_deposit (f : Journal → Journal) : (s.mapJournal f).deposit = s.deposit := rfl
@[simp] theorem State.mapJournal_envelope (f : Journal → Journal) : (s.mapJournal f).envelope = s.envelope := rfl
@[simp] theorem State.mapJournal_tube (f : Journal → Journal) : (s.mapJournal f).tube = s.tube := rfl
@[simp] theorem State.mapJournal_alarm (f : Journal → Journal) : (s.mapJournal f).alarm = s.alarm := rfl
@[simp] theorem State.mapJournal_bus (f : Journal → Journal) : (s.mapJournal f).bus = s.bus := rfl
@[simp] theorem State.mapJournal_journal (f : Journal → Journal) : (s.mapJournal f).journal = f s.journal := rfl
@[simp] theorem State.mapJournal_mgmt (f : Journal → Journal) : (s.mapJournal f).mgmt = s.mgmt := rfl

/-! ### Updates of `mgmt` -/

variable (f g : Management → Management) in
theorem State.mapMgmt_mapMgmt : (s.mapMgmt f).mapMgmt g = s.mapMgmt fun x => g (f x) := rfl
@[simp] theorem State.mapMgmt_pending (f : Management → Management) : (s.mapMgmt f).pending = s.pending := rfl
@[simp] theorem State.mapMgmt_link (f : Management → Management) : (s.mapMgmt f).link = s.link := rfl
@[simp] theorem State.mapMgmt_screen (f : Management → Management) : (s.mapMgmt f).screen = s.screen := rfl
@[simp] theorem State.mapMgmt_lanes (f : Management → Management) : (s.mapMgmt f).lanes = s.lanes := rfl
@[simp] theorem State.mapMgmt_dispense (f : Management → Management) : (s.mapMgmt f).dispense = s.dispense := rfl
@[simp] theorem State.mapMgmt_cash (f : Management → Management) : (s.mapMgmt f).cash = s.cash := rfl
@[simp] theorem State.mapMgmt_deposit (f : Management → Management) : (s.mapMgmt f).deposit = s.deposit := rfl
@[simp] theorem State.mapMgmt_envelope (f : Management → Management) : (s.mapMgmt f).envelope = s.envelope := rfl
@[simp] theorem State.mapMgmt_tube (f : Management → Management) : (s.mapMgmt f).tube = s.tube := rfl
@[simp] theorem State.mapMgmt_alarm (f : Management → Management) : (s.mapMgmt f).alarm = s.alarm := rfl
@[simp] theorem State.mapMgmt_bus (f : Management → Management) : (s.mapMgmt f).bus = s.bus := rfl
@[simp] theorem State.mapMgmt_journal (f : Management → Management) : (s.mapMgmt f).journal = s.journal := rfl
@[simp] theorem State.mapMgmt_mgmt (f : Management → Management) : (s.mapMgmt f).mgmt = f s.mgmt := rfl

end Sys2Proof.Machine
end

