-- ==== Sys2Proof/Laws/Ops.lean ====
section
/-! SUPPORT. What the shared operations can do, each said once: the journal, the sticky causes, the Report Queue, the taking of
orders, the outgoing frame queue, and table checks on sound tables. Later proofs cite these and unfold none of them. -/

namespace Sys2Proof.Machine

open Sys2Proof

/-! ## Events that add to the link, the journal and the sticky causes alone -/

/-- `t` differs from `s` in its link, journal and sticky causes at most. -/
def LogsOnly (s t : State) : Prop := t = s.logged t

theorem LogsOnly.refl (s : State) : LogsOnly s s := rfl

theorem LogsOnly.trans {s t u : State} (h : LogsOnly s t) (k : LogsOnly t u) : LogsOnly s u := by
  unfold LogsOnly at *
  rw [h] at k
  exact k

theorem logsOnly_mapLink (s : State) (f : Link → Link) : LogsOnly s (s.mapLink f) := rfl
theorem logsOnly_mapJournal (s : State) (f : Journal → Journal) : LogsOnly s (s.mapJournal f) := rfl
theorem logsOnly_mapSticky (s : State) (f : Sticky → Sticky) : LogsOnly s (s.mapSticky f) := rfl

theorem logsOnly_record (s : State) (e : Entry) : LogsOnly s (s.record e) := by
  unfold State.record
  split <;> rfl

theorem logsOnly_outcome (s : State) (e : Entry) : LogsOnly s (s.outcome e) := rfl
theorem logsOnly_reserve (s : State) : LogsOnly s s.reserve := rfl
theorem logsOnly_tableFault (s : State) (t : TableRef) : LogsOnly s (s.tableFault t) :=
  (logsOnly_mapSticky s _).trans (logsOnly_record _ _)

theorem logsOnly_send (s : State) (d : Station) (tag : Nat) (r : Report) : LogsOnly s (s.send d tag r) := by
  unfold State.send
  split <;> rfl

theorem logsOnly_send7 (s : State) (r : Report) : LogsOnly s (s.send7 r) := logsOnly_send ..

theorem logsOnly_sendCopied (s : State) (d : Station) (tag : Nat) (own copy : Report) :
    LogsOnly s (s.sendCopied d tag own copy) := by
  cases d
  · exact (logsOnly_send ..).trans (logsOnly_send ..)
  · exact logsOnly_send ..

theorem logsOnly_forEach {α : Type} (f : State → α → State) (h : ∀ s x, LogsOnly s (f s x)) (l : List α) (s : State) :
    LogsOnly s (s.forEach l f) := by
  unfold State.forEach
  induction l generalizing s with
  | nil => rfl
  | cons x l ih => exact (h s x).trans (ih (f s x))

theorem logsOnly_sendSignedOn (s : State) (r : Report) : LogsOnly s (s.sendSignedOn r) :=
  logsOnly_forEach _ (fun _ _ => logsOnly_send ..) _ _

theorem logsOnly_sendServing (s : State) (l : Lane) (tag : Nat) (own copy : Report) :
    LogsOnly s (s.sendServing l tag own copy) :=
  (logsOnly_forEach _ (fun _ _ => logsOnly_send ..) _ _).trans (logsOnly_send ..)

theorem logsOnly_respond (s : State) (h : Sender) (k : OrderKind) (c : Code) (b : ResponseBody) :
    LogsOnly s (s.respond h k c b) := rfl

theorem logsOnly_takeFrame (s : State) (h : Sender) (k : OrderKind) (form : List Byte → Bool) :
    LogsOnly s (s.takeFrame h k form) := rfl

/-! ## The journal (R171) -/

/-- A record goes into an unreserved free slot, or is dropped and counted. -/
theorem record_cases (s : State) (e : Entry) :
    (s.journal.reserved < s.journal.free ∧ s.record e = { s with journal := s.journal.append s.now (s.stamped e) })
      ∨ (s.journal.free ≤ s.journal.reserved ∧ (s.record e).journal = { s.journal with overrun := min (s.journal.overrun + 1) 65535 }
        ∧ (s.record e).mgmt.sticky.journalOverrun = true) := by
  unfold State.record
  split
  · exact .inl ⟨‹_›, rfl⟩
  · exact .inr ⟨Nat.le_of_not_lt ‹_›, rfl, rfl⟩

theorem record_reserved (s : State) (e : Entry) : (s.record e).journal.reserved = s.journal.reserved := by
  unfold State.record Journal.append
  split <;> rfl

@[simp] theorem record_link (s : State) (e : Entry) : (s.record e).link = s.link := by
  unfold State.record
  split <;> rfl

@[simp] theorem outcome_journal (s : State) (e : Entry) :
    (s.outcome e).journal = { s.journal.append s.now (s.stamped e) with reserved := s.journal.reserved - 1 } := rfl

@[simp] theorem outcome_link (s : State) (e : Entry) : (s.outcome e).link = s.link := rfl

@[simp] theorem append_ring (j : Journal) (now : Time) (e : Entry) :
    (j.append now e).ring = j.ring ++ [{ seq := j.nextSeq, time := now, entry := e }] := rfl

/-- A ring with its reserved places within 512 stays so under a record. -/
theorem record_fits (s : State) (e : Entry) (h : s.journal.ring.length + s.journal.reserved ≤ 512) :
    (s.record e).journal.ring.length + (s.record e).journal.reserved ≤ 512 := by
  rcases record_cases s e with ⟨h1, h2⟩ | ⟨_, h2, _⟩
  · rw [h2]
    simp only [Journal.append, Journal.free] at *
    simp
    omega
  · rw [h2]
    exact h

/-! ## The Report Queue (R176) -/

/-- A report joins a queue of fewer than 64 items, or is lost and REPORT LOST is raised. -/
theorem send_cases (s : State) (d : Station) (tag : Nat) (r : Report) :
    (s.link.used < 64 ∧ s.send d tag r =
        { s with link := { s.link with reports := s.link.reports ++ [{ dest := d, tag := tag, payload := .report r }] } })
      ∨ (64 ≤ s.link.used ∧ (s.send d tag r).link = s.link ∧ (s.send d tag r).mgmt.sticky.reportLost = true) := by
  unfold State.send
  split
  · exact .inl ⟨‹_›, rfl⟩
  · exact .inr ⟨Nat.le_of_not_lt ‹_›, rfl, rfl⟩

theorem send_used_le (s : State) (d : Station) (tag : Nat) (r : Report) (h : s.link.used ≤ 64) :
    (s.send d tag r).link.used ≤ 64 := by
  rcases send_cases s d tag r with ⟨h1, h2⟩ | ⟨_, h2, _⟩
  · rw [h2]
    simp only [Link.used] at *
    simp
    omega
  · rw [h2]
    exact h

@[simp] theorem send_held (s : State) (d : Station) (tag : Nat) (r : Report) : (s.send d tag r).link.held = s.link.held := by
  unfold State.send
  split <;> rfl

@[simp] theorem send_journal (s : State) (d : Station) (tag : Nat) (r : Report) : (s.send d tag r).journal = s.journal := by
  unfold State.send
  split <;> rfl

/-! ## Taking an order (R24, R175, R176) -/

theorem takeOrder_full (s : State) (h : Sender) (k : OrderKind) (act : State → Answer) (form : List Byte → Bool)
    (hf : 64 ≤ s.link.used) : s.takeOrder h k act form = s := by
  unfold State.takeOrder
  rw [if_neg (Nat.not_lt.2 hf)]

theorem takeOrder_room (s : State) (h : Sender) (k : OrderKind) (act : State → Answer) (form : List Byte → Bool)
    (hr : s.link.used < 64) :
    s.takeOrder h k act form =
      (act (s.takeFrame h k form)).state.respond h k (act (s.takeFrame h k form)).code (act (s.takeFrame h k form)).body := by
  unfold State.takeOrder
  rw [if_pos hr]

theorem takeMgmt_supervised (s : State) (h : Sender) (k : OrderKind) (act : State → Answer) (hs : s.supervised h) :
    s.takeMgmt h k act =
      (act (s.takeFrame h k)).state.respond h k (act (s.takeFrame h k)).code (act (s.takeFrame h k)).body := by
  unfold State.takeMgmt
  rw [takeOrder_room _ _ _ _ _ hs.2, if_pos hs.1]

/-- The response stands last. -/
theorem answered_respond (s : State) (h : Sender) (k : OrderKind) (c : Code) (b : ResponseBody) :
    Answered (s.respond h k c b) h k c b := by
  simp [Answered, State.respond, State.mapLink, responseTo]

@[simp] theorem respond_journal (s : State) (h : Sender) (k : OrderKind) (c : Code) (b : ResponseBody) :
    (s.respond h k c b).journal = s.journal := rfl
@[simp] theorem takeFrame_journal (s : State) (h : Sender) (k : OrderKind) (form : List Byte → Bool) :
    (s.takeFrame h k form).journal = s.journal := rfl
@[simp] theorem takeFrame_mgmt (s : State) (h : Sender) (k : OrderKind) (form : List Byte → Bool) :
    (s.takeFrame h k form).mgmt = s.mgmt := rfl
@[simp] theorem takeFrame_used (s : State) (h : Sender) (k : OrderKind) (form : List Byte → Bool) :
    (s.takeFrame h k form).link.used = s.link.used + 1 := by
  simp [State.takeFrame, State.mapLink, Link.used, Nat.add_assoc]

/-! ## Checks in order (R25) -/

@[simp] theorem checks_nil (s : State) : s.checks [] = (s, none) := rfl

theorem checks_need (s : State) (p : State → Bool) (c : Code) (fs : List Step) :
    s.checks (need p c :: fs) = if p s then s.checks fs else (s, some c) := by
  by_cases h : p s <;> simp [State.checks, need, h]

/-- A first check that passes leaves the others to decide. -/
theorem checks_cons_pass (s t : State) (f : Step) (fs : List Step) (h : f s = (t, none)) :
    s.checks (f :: fs) = t.checks fs := by
  simp [State.checks, h]

/-! ## The outgoing frame queue (R161) -/

/-- A frame joins a queue of fewer than 48, or a QUEUE OVERFLOW record is written. -/
theorem place_cases (s : State) (f : Frame) :
    (s.bus.outgoing.length < 48 ∧ s.place f = ({ s with bus := { s.bus with outgoing := s.bus.outgoing ++ [f] } }, true))
      ∨ (48 ≤ s.bus.outgoing.length
        ∧ s.place f = (s.record { kind := .queueOverflow, facts := [.node f.node, .order f.content] }, false)) := by
  unfold State.place
  split
  · exact .inl ⟨‹_›, rfl⟩
  · exact .inr ⟨Nat.le_of_not_lt ‹_›, rfl⟩

theorem place_bounded (s : State) (f : Frame) (h : s.bus.outgoing.length ≤ 48) : (s.place f).1.bus.outgoing.length ≤ 48 := by
  rcases place_cases s f with ⟨h1, h2⟩ | ⟨_, h2⟩
  · rw [h2]
    simp
    omega
  · rw [h2]
    rw [logsOnly_record]
    exact h

/-! ## Checks of sound tables change nothing (R175) -/

theorem soundTables_and {s : State} (h : s.soundTables = true) :
    (∀ x ∈ s.lanes.dayCopies.toList, x.check = {}) ∧ (∀ x ∈ s.lanes.nightCopies.toList, x.check = {})
      ∧ (∀ x ∈ s.screen.authority.toList, x.check = {}) ∧ (∀ x ∈ s.cash.denominations.toList, x.check = {})
      ∧ (∀ x ∈ s.cash.cassettes.toList, x.check = {}) ∧ (∀ x ∈ s.alarm.loops.toList, x.check = {})
      ∧ (∀ x ∈ s.bus.modules.toList, x.check = {}) ∧ s.screen.setting.check = {} ∧ s.cash.planner.check = {}
      ∧ s.dispense.setting.check = {} ∧ s.deposit.setting.check = {} ∧ s.envelope.setting.check = {}
      ∧ s.tube.setting.check = {} ∧ s.bus.setting.check = {} := by
  simpa only [State.soundTables, Bool.and_eq_true, List.all_eq_true, beq_iff_eq, and_assoc] using h

theorem sound_authority {s : State} (h : s.soundTables = true) (i : AuthId) : (s.authority i).check = {} :=
  (soundTables_and h).2.2.1 _ (by simp [State.authority])

theorem sound_cassette {s : State} (h : s.soundTables = true) (c : CassetteId) : (s.cassette c).check = {} :=
  (soundTables_and h).2.2.2.2.1 _ (by simp [State.cassette])

theorem sound_denomination {s : State} (h : s.soundTables = true) (i : DenomId) : (s.cash.denominations[i]).check = {} :=
  (soundTables_and h).2.2.2.1 _ (by simp)

theorem sound_loop {s : State} (h : s.soundTables = true) (i : LoopId) : (s.loop i).check = {} :=
  (soundTables_and h).2.2.2.2.2.1 _ (by simp [State.loop])

theorem sound_module {s : State} (h : s.soundTables = true) (m : ModuleId) : (s.module m).check = {} :=
  (soundTables_and h).2.2.2.2.2.2.1 _ (by simp [State.module])

theorem sound_copy {s : State} (h : s.soundTables = true) (p : Profile) (l : Lane) : (s.lanes.copy p l).check = {} := by
  cases p
  · exact (soundTables_and h).1 _ (by simp [LaneControl.copy])
  · exact (soundTables_and h).2.1 _ (by simp [LaneControl.copy])

theorem sound_policy {s : State} (h : s.soundTables = true) (l : Lane) : (s.policy l).check = {} := sound_copy h _ _

theorem checkAuthority_sound {s : State} (h : s.soundTables = true) (i : AuthId) : s.checkAuthority i = s := by
  simp [State.checkAuthority, sound_authority h]

theorem checkCassette_sound {s : State} (h : s.soundTables = true) (c : CassetteId) : s.checkCassette c = s := by
  simp [State.checkCassette, sound_cassette h]

theorem checkDenomination_sound {s : State} (h : s.soundTables = true) (i : DenomId) : s.checkDenomination i = s := by
  have := sound_denomination h i
  simp only [State.checkDenomination, this, ite_true]

theorem checkLoop_sound {s : State} (h : s.soundTables = true) (i : LoopId) : s.checkLoop i = s := by
  simp [State.checkLoop, sound_loop h]

theorem checkModule_sound {s : State} (h : s.soundTables = true) (m : ModuleId) : s.checkModule m = (s, false) := by
  simp [State.checkModule, sound_module h]

theorem checkCopy_sound {s : State} (h : s.soundTables = true) (p : Profile) (l : Lane) : s.checkCopy p l = s := by
  simp [State.checkCopy, sound_copy h]

theorem usePolicy_sound {s : State} (h : s.soundTables = true) (l : Lane) : s.usePolicy l = s := by
  simp [State.usePolicy, checkCopy_sound h, sound_policy h]

theorem checkScreening_sound {s : State} (h : s.soundTables = true) : s.checkScreening = s := by
  simp [State.checkScreening, (soundTables_and h).2.2.2.2.2.2.2.1]

theorem screening_sound {s : State} (h : s.soundTables = true) : s.screening = s.screen.setting := by
  simp [State.screening, (soundTables_and h).2.2.2.2.2.2.2.1]

theorem checkPlanner_sound {s : State} (h : s.soundTables = true) : s.checkPlanner = s := by
  simp [State.checkPlanner, (soundTables_and h).2.2.2.2.2.2.2.2.1]

theorem checkPresenter_sound {s : State} (h : s.soundTables = true) : s.checkPresenter = s := by
  simp [State.checkPresenter, (soundTables_and h).2.2.2.2.2.2.2.2.2.1]

theorem checkDepositSetting_sound {s : State} (h : s.soundTables = true) : s.checkDepositSetting = s := by
  simp [State.checkDepositSetting, (soundTables_and h).2.2.2.2.2.2.2.2.2.2.1]

theorem checkDepositorySetting_sound {s : State} (h : s.soundTables = true) : s.checkDepositorySetting = s := by
  simp [State.checkDepositorySetting, (soundTables_and h).2.2.2.2.2.2.2.2.2.2.2.1]

theorem checkTubeSetting_sound {s : State} (h : s.soundTables = true) : s.checkTubeSetting = s := by
  simp [State.checkTubeSetting, (soundTables_and h).2.2.2.2.2.2.2.2.2.2.2.2.1]

theorem checkBusSetting_sound {s : State} (h : s.soundTables = true) : s.checkBusSetting = s := by
  simp [State.checkBusSetting, (soundTables_and h).2.2.2.2.2.2.2.2.2.2.2.2.2]

/-- A list of checks that each leave the state as it is leaves it so. -/
theorem forEach_id {α : Type} (f : State → α → State) (s : State) (h : ∀ x, f s x = s) (l : List α) : s.forEach l f = s := by
  unfold State.forEach
  induction l with
  | nil => rfl
  | cons x l ih => simpa [h x] using ih

theorem readForPlan_sound {s : State} (h : s.soundTables = true) : s.readForPlan = s := by
  have hv : ∀ c, s.checkValueOf c = s := fun c => by
    unfold State.checkValueOf
    split
    · exact checkDenomination_sound h _
    · rfl
  simp only [State.readForPlan, checkPlanner_sound h]
  rw [forEach_id State.checkCassette s (checkCassette_sound h), forEach_id State.checkValueOf s hv]

/-- Tables stay sound where only the link, the journal and the sticky causes change. -/
theorem soundTables_of_logsOnly {s t : State} (h : LogsOnly s t) : t.soundTables = s.soundTables := by
  rw [h]
  rfl

/-! ## The hardware's own changes of a Module Table entry -/

/-- An entry changed by the hardware has the fields it was changed to, whatever its check. -/
theorem changedTo_fields (e e' : Module) :
    (e.changedTo e').node = e'.node ∧ (e.changedTo e').kind = e'.kind ∧ (e.changedTo e').lane = e'.lane
      ∧ (e.changedTo e').orderErrors = e'.orderErrors ∧ (e.changedTo e').replyErrors = e'.replyErrors
      ∧ (e.changedTo e').health = e'.health := by
  unfold Module.changedTo
  split
  · next h => subst h; exact ⟨rfl, rfl, rfl, rfl, rfl, rfl⟩
  · exact ⟨rfl, rfl, rfl, rfl, rfl, rfl⟩

@[simp] theorem changedTo_node (e e' : Module) : (e.changedTo e').node = e'.node := (changedTo_fields e e').1
@[simp] theorem changedTo_kind (e e' : Module) : (e.changedTo e').kind = e'.kind := (changedTo_fields e e').2.1
@[simp] theorem changedTo_lane (e e' : Module) : (e.changedTo e').lane = e'.lane := (changedTo_fields e e').2.2.1
@[simp] theorem changedTo_orderErrors (e e' : Module) : (e.changedTo e').orderErrors = e'.orderErrors :=
  (changedTo_fields e e').2.2.2.1
@[simp] theorem changedTo_replyErrors (e e' : Module) : (e.changedTo e').replyErrors = e'.replyErrors :=
  (changedTo_fields e e').2.2.2.2.1
@[simp] theorem changedTo_health (e e' : Module) : (e.changedTo e').health = e'.health := (changedTo_fields e e').2.2.2.2.2
@[simp] theorem changedTo_self (e : Module) : e.changedTo e = e := by simp [Module.changedTo]

/-- Such a change touches that one entry. -/
theorem changeModule_bus (s : State) (m : ModuleId) (f : Module → Module) :
    s.changeModule m f =
      { s with bus := { s.bus with modules := s.bus.modules.set m ((s.module m).changedTo (f (s.module m))) } } := rfl

/-- The frames of a node leave, and nothing else changes but a resend due for it. -/
theorem dropFrames_bus (s : State) (node : Nat) :
    s.dropFrames node =
      { s with bus := { s.bus with
          outgoing := s.bus.outgoing.filter fun f => f.node != node
          resend := s.bus.resend.filter fun f => f.node != node } } := rfl

/-! ## A flushed PICK entry (R63, R64, R90) -/

/-- The flush of an entry whose record is past its picks changes nothing (log 74). -/
theorem pickFlushed_settled {s : State} {id : Nat} {i : DispenseSlot} {r : DispenseRecord} (code : Option Code)
    (hi : s.dispenseOf id = some i) (hr : s.dispense.records[i] = some r) (hq : r.state ≠ .queued)
    (hp : r.state ≠ .picking) : s.pickFlushed id code = s := by
  simp only [State.pickFlushed, hi, State.onDispense, hr]
  split <;> simp_all

/-! ## QUEUED sessions at a fault of the recycler (R106, R107) -/

/-- With no QUEUED session there is nothing to close. -/
theorem closeQueued_none {s : State} (p : State → Lane → Bool)
    (h : ∀ (l : Lane) (x : Session), s.session l = some x → x.state ≠ .queued) : s.closeQueued p = s := by
  refine forEach_id _ s (fun l => ?_) _
  unfold State.onSession
  split
  · next x hx => simp [h l x hx]
  · rfl

/-! ## A DISPENSE body (R184) -/

/-- A body is read as a DISPENSE only if it is six bytes long and its pair part is 0, 1 or 2. -/
theorem readDispense_some {body : List Byte} {lane part amount : Nat} (h : readDispense body = some (lane, part, amount)) :
    body.length = 6 ∧ part ≤ 2 := by
  unfold readDispense at h
  split at h
  · split at h
    · next hp => cases h; exact ⟨rfl, hp⟩
    · cases h
  · cases h

end Sys2Proof.Machine
end

