-- ==== Sys2Proof/Laws/PerInstr.lean ====
section
/-! SUPPORT. One family of statements about every command as syntax, a lemma for each constructor. -/

namespace Sys2Proof.Laws.SenderTag

/-- A well-formed order carries a tag of two bytes (chapter 12.2). -/
def Statement (i : Instr) : Prop := i.wellFormed = true → ∀ h, i.sender = some h → h.tag < 65536

/-- The tag of a sender that passes its check. -/
theorem of_tagOk {g h : Sender} (ok : tagOk g = true) (e : some g = some h) : h.tag < 65536 := by
  cases e; simpa [tagOk] using ok

theorem hardReset : Statement (.hardReset) := fun _ _ e => nomatch e
theorem consoleFrameReceived (bytes : List Byte) : Statement (.consoleFrameReceived bytes) := fun _ _ e => nomatch e
theorem reportQueueItemSent : Statement (.reportQueueItemSent) := fun _ _ e => nomatch e
theorem signOn (h : Sender) (credential : Nat) : Statement (.signOn h credential) := 
  fun ok _ e => of_tagOk (by simp only [Instr.wellFormed, Bool.and_eq_true] at ok; exact ok.1) e
theorem signOff (h : Sender) : Statement (.signOff h) := fun ok _ e => of_tagOk ok e
theorem dispenseSingle (h : Sender) (lane : Nat) (amount : Nat) : Statement (.dispenseSingle h lane amount) := 
  fun ok _ e => of_tagOk (by simp only [Instr.wellFormed, Bool.and_eq_true] at ok; exact ok.1) e
theorem dispenseFirst (h : Sender) (lane : Nat) (amount : Nat) : Statement (.dispenseFirst h lane amount) := 
  fun ok _ e => of_tagOk (by simp only [Instr.wellFormed, Bool.and_eq_true] at ok; exact ok.1) e
theorem dispenseSecond (h : Sender) (lane : Nat) (amount : Nat) : Statement (.dispenseSecond h lane amount) := 
  fun ok _ e => of_tagOk (by simp only [Instr.wellFormed, Bool.and_eq_true] at ok; exact ok.1) e
theorem cancelDispense (h : Sender) (lane : Nat) (id : Nat) : Statement (.cancelDispense h lane id) := 
  fun ok _ e => of_tagOk (by simp only [Instr.wellFormed, Bool.and_eq_true] at ok; exact ok.1) e
theorem openDeposit (h : Sender) (lane : Nat) : Statement (.openDeposit h lane) := fun ok _ e => of_tagOk ok e
theorem closeDeposit (h : Sender) (lane : Nat) : Statement (.closeDeposit h lane) := fun ok _ e => of_tagOk ok e
theorem sendCarrier (h : Sender) (lane : Nat) : Statement (.sendCarrier h lane) := fun ok _ e => of_tagOk ok e
theorem recallCarrier (h : Sender) (lane : Nat) : Statement (.recallCarrier h lane) := fun ok _ e => of_tagOk ok e
theorem openLane (h : Sender) (lane : Nat) : Statement (.openLane h lane) := fun ok _ e => of_tagOk ok e
theorem closeLane (h : Sender) (lane : Nat) : Statement (.closeLane h lane) := fun ok _ e => of_tagOk ok e
theorem releaseLane (h : Sender) (lane : Nat) : Statement (.releaseLane h lane) := fun ok _ e => of_tagOk ok e
theorem confirmExchangeCassette (h : Sender) (cassette : Nat) : Statement (.confirmExchangeCassette h cassette) := 
  fun ok _ e => of_tagOk ok e
theorem confirmEmptyDepository (h : Sender) : Statement (.confirmEmptyDepository h) := fun ok _ e => of_tagOk ok e
theorem confirmClearCondition (h : Sender) (condition : ConditionName) : Statement (.confirmClearCondition h condition) := 
  fun ok _ e => of_tagOk ok e
theorem writeEntryLanePolicy (h : Sender) (w : LanePolicyWrite) : Statement (.writeEntryLanePolicy h w) := 
  fun ok _ e => of_tagOk ok e
theorem writeEntryAuthority (h : Sender) (w : AuthorityWrite) : Statement (.writeEntryAuthority h w) := 
  fun ok _ e => of_tagOk (by simp only [Instr.wellFormed, Bool.and_eq_true] at ok; exact ok.1) e
theorem writeEntryDenomination (h : Sender) (index : Nat) (value : Nat) : Statement (.writeEntryDenomination h index value) := 
  fun ok _ e => of_tagOk ok e
theorem writeEntryCassette (h : Sender) (cassette : Nat) (role : Option Role) (lowMark : Nat) (fillLimit : Nat) : Statement (.writeEntryCassette h cassette role lowMark fillLimit) := 
  fun ok _ e => of_tagOk ok e
theorem writeEntryLoop (h : Sender) (w : LoopWrite) : Statement (.writeEntryLoop h w) := fun ok _ e => of_tagOk ok e
theorem writeEntryModule (h : Sender) (entry : Nat) (node : Nat) (kind : Option ModuleKind) (lane : Nat) : Statement (.writeEntryModule h entry node kind lane) := 
  fun ok _ e => of_tagOk ok e
theorem writeEntryScreening (h : Sender) (pairWindow : Nat) (rateCount : Nat) (rateDuration : Nat) : Statement (.writeEntryScreening h pairWindow rateCount rateDuration) := 
  fun ok _ e => of_tagOk ok e
theorem writeEntryPlanner (h : Sender) (bundle : Nat) : Statement (.writeEntryPlanner h bundle) := 
  fun ok _ e => of_tagOk ok e
theorem writeEntryPresenter (h : Sender) (timeout : Nat) : Statement (.writeEntryPresenter h timeout) := 
  fun ok _ e => of_tagOk ok e
theorem writeEntryDeposit (h : Sender) (timeout : Nat) : Statement (.writeEntryDeposit h timeout) := 
  fun ok _ e => of_tagOk ok e
theorem writeEntryDepository (h : Sender) (capacity : Nat) : Statement (.writeEntryDepository h capacity) := 
  fun ok _ e => of_tagOk ok e
theorem writeEntryTube (h : Sender) (rest : Nat) : Statement (.writeEntryTube h rest) := fun ok _ e => of_tagOk ok e
theorem writeEntryBus (h : Sender) (w : BusWrite) : Statement (.writeEntryBus h w) := fun ok _ e => of_tagOk ok e
theorem readEntry (h : Sender) (table : Option TableRef) : Statement (.readEntry h table) := fun ok _ e => of_tagOk ok e
theorem selectProfileWrite (h : Sender) (profile : Option Profile) : Statement (.selectProfileWrite h profile) := 
  fun ok _ e => of_tagOk ok e
theorem selectProfileOperate (h : Sender) (profile : Option Profile) : Statement (.selectProfileOperate h profile) := 
  fun ok _ e => of_tagOk ok e
theorem loadCassette (h : Sender) (cassette : Nat) (denom : Option Nat) (count : Nat) : Statement (.loadCassette h cassette denom count) := 
  fun ok _ e => of_tagOk ok e
theorem reconcileCassette (h : Sender) (cassette : Nat) (count : Nat) : Statement (.reconcileCassette h cassette count) := 
  fun ok _ e => of_tagOk ok e
theorem exchangeCassette (h : Sender) (cassette : Nat) : Statement (.exchangeCassette h cassette) := 
  fun ok _ e => of_tagOk ok e
theorem emptyDepository (h : Sender) : Statement (.emptyDepository h) := fun ok _ e => of_tagOk ok e
theorem clearConditionLockdown (h : Sender) : Statement (.clearConditionLockdown h) := fun ok _ e => of_tagOk ok e
theorem clearConditionDuress (h : Sender) : Statement (.clearConditionDuress h) := fun ok _ e => of_tagOk ok e
theorem armLoop (h : Sender) (loop : Nat) : Statement (.armLoop h loop) := fun ok _ e => of_tagOk ok e
theorem disarmLoop (h : Sender) (loop : Nat) : Statement (.disarmLoop h loop) := fun ok _ e => of_tagOk ok e
theorem ackLoop (h : Sender) (loop : Nat) : Statement (.ackLoop h loop) := fun ok _ e => of_tagOk ok e
theorem restoreNode (h : Sender) (node : Nat) : Statement (.restoreNode h node) := fun ok _ e => of_tagOk ok e
theorem resumeRecycler (h : Sender) : Statement (.resumeRecycler h) := fun ok _ e => of_tagOk ok e
theorem clearTube (h : Sender) (lane : Nat) : Statement (.clearTube h lane) := fun ok _ e => of_tagOk ok e
theorem resetShift (h : Sender) (target : ShiftTarget) : Statement (.resetShift h target) := fun ok _ e => of_tagOk ok e
theorem readStatus (h : Sender) (clear : Bool) : Statement (.readStatus h clear) := fun ok _ e => of_tagOk ok e
theorem readJournal (h : Sender) (start : Nat) : Statement (.readJournal h start) := 
  fun ok _ e => of_tagOk (by simp only [Instr.wellFormed, Bool.and_eq_true] at ok; exact ok.1) e
theorem drainJournal (h : Sender) (seq : Nat) : Statement (.drainJournal h seq) := 
  fun ok _ e => of_tagOk (by simp only [Instr.wellFormed, Bool.and_eq_true] at ok; exact ok.1) e
theorem goService (h : Sender) : Statement (.goService h) := fun ok _ e => of_tagOk ok e
theorem suspend (h : Sender) : Statement (.suspend h) := fun ok _ e => of_tagOk ok e
theorem restart (h : Sender) : Statement (.restart h) := fun ok _ e => of_tagOk ok e
theorem pairTimerExpiry (lane : Lane) : Statement (.pairTimerExpiry lane) := fun _ _ e => nomatch e
theorem managementPairTimerExpiry : Statement (.managementPairTimerExpiry) := fun _ _ e => nomatch e
theorem pickReportTimerExpiry (id : Nat) : Statement (.pickReportTimerExpiry id) := fun _ _ e => nomatch e
theorem retractReportTimerExpiry (id : Nat) : Statement (.retractReportTimerExpiry id) := fun _ _ e => nomatch e
theorem presentTimerExpiry (id : Nat) : Statement (.presentTimerExpiry id) := fun _ _ e => nomatch e
theorem exchangeAuthorisationExpiry : Statement (.exchangeAuthorisationExpiry) := fun _ _ e => nomatch e
theorem idleTimerExpiry (lane : Lane) : Statement (.idleTimerExpiry lane) := fun _ _ e => nomatch e
theorem endTimerExpiry (lane : Lane) : Statement (.endTimerExpiry lane) := fun _ _ e => nomatch e
theorem completionTimerExpiry (lane : Lane) : Statement (.completionTimerExpiry lane) := fun _ _ e => nomatch e
theorem safeOpeningExpiry : Statement (.safeOpeningExpiry) := fun _ _ e => nomatch e
theorem restTimerExpiry : Statement (.restTimerExpiry) := fun _ _ e => nomatch e
theorem transitTimerExpiry (lane : Lane) : Statement (.transitTimerExpiry lane) := fun _ _ e => nomatch e
theorem armTimerExpiry (loop : LoopId) : Statement (.armTimerExpiry loop) := fun _ _ e => nomatch e
theorem qualifyTimerExpiry (loop : LoopId) : Statement (.qualifyTimerExpiry loop) := fun _ _ e => nomatch e
theorem loopReading (loop : LoopId) (reading : Nat) : Statement (.loopReading loop reading) := fun _ _ e => nomatch e
theorem exchangeBegin : Statement (.exchangeBegin) := fun _ _ e => nomatch e
theorem wallBusReplyTaken (input : BusInput) : Statement (.wallBusReplyTaken input) := fun _ _ e => nomatch e
theorem replyWindowExpiry : Statement (.replyWindowExpiry) := fun _ _ e => nomatch e
theorem busFrameDiscarded (bytes : List Byte) : Statement (.busFrameDiscarded bytes) := fun _ _ e => nomatch e
theorem unknownOrderKind (h : Sender) (isMgmt : Bool) (kind : Nat) (body : List Byte) : Statement (.unknownOrderKind h isMgmt kind body) := 
  fun ok _ e => of_tagOk (by simp only [Instr.wellFormed, Bool.and_eq_true] at ok; exact ok.1.1) e

end Sys2Proof.Laws.SenderTag
end

