-- ==== Sys2Proof/Tests/Slice0.lean ====
section
/-! SUPPORT. Small tests: the frame check of the spec, ill-formed commands refused, and for every obligation with hypotheses a state
and operands that meet them together. -/

set_option Elab.async false

namespace Sys2Proof.Tests

open Sys2Proof Sys2Proof.Machine

/-! ## A wall in service -/

/-- Recycler node 1, blower node 2, lane stations 3 to 8. -/
def modules : Vector Module 16 :=
  #v[{ node := 1, kind := .recycler }, { node := 2, kind := .blower }, { node := 3, lane := 1 }, { node := 4, lane := 2 },
    { node := 5, lane := 3 }, { node := 6, lane := 4 }, { node := 7, lane := 5 }, { node := 8, lane := 6 }, {}, {}, {}, {}, {},
    {}, {}, {}]

/-- A policy copy that opens its lane to every console. -/
def copy : PolicyCopy :=
  { isOpen := true, singleLimit := 500, dualThreshold := 300, duressCap := 60, envelopeDrop := true
    serving := #v[true, true, true, true] }

/-- All seven rights. -/
def allRights : Rights := ⟨true, true, true, true, true, true, true⟩

/-- An authority entry. -/
def entryFor (credential : Nat) : AuthorityEntry :=
  { credential := credential, rights := allRights, perDispense := 400, shiftLimit := 5000, shiftTotal := 100 }

/-- A recycling cassette of 100 notes. -/
def stock (d : DenomId) : Cassette :=
  { role := .recycle, denom := some d, count := 100, lowMark := 10, lowArmed := true, base := 100 }

/-- The wall: in service, lanes 1 to 6 IDLE, carriers at the teller, consoles 1 and 2 signed on, no work in progress. -/
def wall : State :=
  { State.reset with
    mgmt := { partState := .inService, timeBase := 1000000#32 }
    lanes :=
      { dayCopies := Vector.replicate 6 copy
        records := Vector.replicate 6 { state := .idle, holds := {} } }
    screen :=
      { consoles := #v[some ⟨11, 0⟩, some ⟨22, 1⟩, none, none]
        authority := ((Vector.replicate 32 ({} : AuthorityEntry)).set 0 (entryFor 11)).set 1 (entryFor 22) }
    cash :=
      { denominations := #v[{ value := 20 }, { value := 5 }, {}, {}, {}, {}, {}, {}]
        cassettes := #v[stock 0, stock 1, {}, {}, {}, {}, {}, {}], condition := .clear }
    tube := { carriers := Vector.replicate 6 { location := .teller, seated := true, cause := none } }
    bus := { modules := modules } }

/-- Station 7 and consoles 1 and 2, each with a tag. -/
def h7 : Sender := ⟨.supervisor, 9⟩
def h1 : Sender := ⟨.console 0, 5⟩
def h2 : Sender := ⟨.console 1, 6⟩

/-- A dispense of console 1 on lane 1. -/
def paid (state : DispenseState) : DispenseRecord :=
  { id := 7, lane := 0, station := 0, reportStation := .console 0, credential := 11, index := 0, tag := 5, amount := 40
    plan := [⟨0, 2⟩], state := state, charge := 40, pickTag := some 3 }

/-- The wall with that dispense in the first record. -/
def paying (r : DispenseRecord) : State :=
  let s := (wall.setDispense 0 (some r)).mapLane 0 fun x => { x with state := .busy, txn := some (.dispense r.id) }
  s.mapJournal fun j => { j with reserved := 1 }

/-- A session of console 1 on lane 1. -/
def accepting (state : SessionState) : Session :=
  { station := 0, reportStation := .console 0, credential := 11, index := 0, tag := 5, state := state }

/-- The wall with that session. -/
def banking (x : Session) : State :=
  let s := (wall.setSession 0 (some x)).mapLane 0 fun r => { r with state := .busy, txn := some .deposit }
  (s.mapJournal fun j => { j with reserved := 1 }).mapCash fun k =>
    { k with recycler := .busy, workQueue := [{ work := .accept 0, running := true }] }

/-- An envelope capture on lane 1. -/
def dropping : State :=
  (wall.setCapture 0 (some { number := 4, start := 985000#32, timer := ⟨985000#32, 15000⟩, node := 3 })).mapJournal fun j =>
    { j with reserved := 1 }

/-- A management half of station 7, ten seconds old. -/
def halfOf (op : MgmtOp) : MgmtHalf := { op := op, tag := 9, arrival := 990000#32, window := 20 }

/-- The wall with that half stored. -/
def awaiting (op : MgmtOp) : State := wall.mapScreen fun k => { k with managementSlot := some (halfOf op) }

/-- A first half of console 1 for 300 on lane 1, ten seconds old. -/
def half : PairHalf :=
  { station := 0, credential := 11, index := 0, amount := 300, tag := 5, arrival := 990000#32, window := 20 }

/-- A timer that has just run out. -/
def due : Timer := ⟨999000#32, 1000⟩

/-- The wall with an exchange outstanding that carries a frame. -/
def asking (f : Frame) : State := wall.mapBus fun b => { b with outstanding := some ⟨f, false, ⟨999995#32, 10⟩, {}⟩ }

/-- A poll of a node, outstanding for 5 ms. -/
def asked (node : Nat) : Exchange := ⟨⟨node, .poll, .bus, true⟩, false, ⟨999995#32, 10⟩, {}⟩

/-- A state with that poll outstanding. -/
def polling (s : State) (node : Nat) : State := s.mapBus fun b => { b with outstanding := some (asked node) }

/-- A good poll reply of a node. -/
def pollReply (node : Nat) (reports : List ModuleReport) : BusReply := ⟨true, 0, node, 6, 0, .poll 1 reports⟩

/-- A frame waiting in the receive buffer. -/
def frame : ConsoleFrame := { station := .supervisor, isMgmt := true, tag := 9, kind := 21, body := [] }

/-- A loop of lane 1. -/
def loopOf (kind : LoopKind) (state : LoopState) : Loop :=
  { kind := kind, lane := 1, state := state, band := some .secure }

/-- The wall with that loop as loop 1. -/
def watched (k : Loop) : State := wall.mapAlarm fun a => { a with loops := a.loops.set 0 k }

/-! ## Figures of the spec -/

/-- R183: the nine ASCII bytes "123456789" give 29B1h. -/
theorem test_crc_of_nine_digits :
    crc16 [0x31#8, 0x32#8, 0x33#8, 0x34#8, 0x35#8, 0x36#8, 0x37#8, 0x38#8, 0x39#8] = 0x29B1#16 := by decide +kernel

/-- 3.5: values 100, 50, 20 and 20 pay 380 by backing off the second cassette. -/
theorem test_mix_backs_off :
    mixOf [⟨0, 100, 40⟩, ⟨1, 50, 3⟩, ⟨2, 20, 200⟩, ⟨3, 20, 50⟩] 380 60 = .plan [⟨0, 3⟩, ⟨2, 4⟩] := by decide +kernel

/-- 3.7: the shortfall of 20 is topped up from cassette 3. -/
theorem test_mix_tops_up :
    mixOf [⟨0, 100, 37⟩, ⟨1, 50, 3⟩, ⟨2, 20, 196⟩, ⟨3, 20, 50⟩] 20 54 = .plan [⟨2, 1⟩] := by decide +kernel

/-- Chapter 12: a record is 43 to 83 bytes long. -/
theorem test_record_length :
    (JournalRecord.bytes ⟨1, 0, { kind := .reset }⟩).length = 43
      ∧ (JournalRecord.bytes ⟨1, 0, { kind := .captured, items := List.replicate 9 (8, 1) }⟩).length = 83 := by decide +kernel

/-- The table gives no row any bits, so no word spells a command. -/
theorem test_no_word_spells_a_command : decodeTableWord 16 5 = none := rfl

/-- R52: the id after 255 is 1. -/
theorem test_id_wraps : (wall.mapDispense fun d => { d with lastId := 255 }).nextId = 1 := by decide +kernel

/-- R179: the time base follows 4,294,967,295 with 0, and ages are modulo 2^32. -/
theorem test_age_wraps : age 5#32 4294967295#32 = 6 := by decide +kernel

/-- R168: 9 quanta, phase 2 of 5 and jump 5 are stored as 9, 4 and 4. -/
theorem test_bus_setting_clamps :
    busWriteStored ⟨1, 9, 5, 5⟩ = { window := 2, quanta := 9, phase2 := 4, jump := 4 } := by decide +kernel

/-! ## Ill-formed commands -/

theorem test_tag_refused : (Instr.signOff ⟨.console 0, 65536⟩).wellFormed = false := by decide +kernel
theorem test_credential_refused : (Instr.signOn h1 65536).wellFormed = false := by decide +kernel
theorem test_lane_byte_refused : (Instr.dispenseSingle h1 256 1).wellFormed = false := by decide +kernel
theorem test_amount_refused : (Instr.dispenseFirst h1 1 4294967296).wellFormed = false := by decide +kernel
theorem test_cancelled_id_refused : (Instr.cancelDispense h1 1 256).wellFormed = false := by decide +kernel
theorem test_id_refused :
    (Instr.presentTimerExpiry 0).wellFormed = false ∧ (Instr.pickReportTimerExpiry 256).wellFormed = false := by decide +kernel
theorem test_sequence_refused :
    (Instr.readJournal h7 4294967296).wellFormed = false ∧ (Instr.drainJournal h7 4294967296).wellFormed = false := by
  decide +kernel
theorem test_reading_refused : (Instr.loopReading 0 1024).wellFormed = false := by decide +kernel
theorem test_wire_refused : (Instr.wallBusReplyTaken (.wire (List.replicate 209 0#8))).wellFormed = false := by decide +kernel
theorem test_fields_refused :
    (Instr.wallBusReplyTaken (.fields ⟨true, 256, 1, 4, 12, .plain⟩)).wellFormed = false := by decide +kernel
theorem test_discarded_frame_refused : (Instr.busFrameDiscarded (List.replicate 209 0#8)).wellFormed = false := by decide +kernel
theorem test_kind_refused : (Instr.unknownOrderKind h1 false 256 []).wellFormed = false := by decide +kernel
theorem test_good_form_refused :
    (Instr.unknownOrderKind h1 false 3 [1#8, 0#8, 0#8, 0#8, 0#8, 9#8]).wellFormed = false := by decide +kernel
theorem test_authority_refused :
    (Instr.writeEntryAuthority h7 ⟨1, 65536, some allRights, 1, 1⟩).wellFormed = false := by decide +kernel

/-! ## Every obligation's hypotheses are met

Each theorem names its obligation, the clause where it has several, and a letter where a clause has several witnesses. -/

theorem witness_IdleStepCountsOneMillisecond : ∃ (s : State),
    s.pending = [] :=
  ⟨{ wall with mgmt := { wall.mgmt with timeBase := 4294967295#32 } }, by decide +kernel⟩

theorem witness_OutputsFollowTheLatches : ∃ (s : State) (t : State),
    s.outputsFollow
      ∧ step s = .next t :=
  ⟨{ wall with pending := [.hardReset] }, State.reset, by decide +kernel, rfl⟩

theorem witness_QueuesStayWithinTheirBounds : ∃ (s : State) (t : State),
    s.queuesBounded
      ∧ step s = .next t :=
  ⟨{ wall with pending := [.hardReset] }, State.reset, by decide +kernel, rfl⟩

theorem witness_ErrorCountersStayInRange : ∃ (s : State) (t : State),
    s.countersInRange
      ∧ step s = .next t :=
  ⟨{ wall with pending := [.hardReset] }, State.reset, by decide +kernel, rfl⟩

theorem witness_TransactionsMatchTheirLanes : ∃ (s : State) (t : State),
    s.transactionsMatch
      ∧ step s = .next t :=
  ⟨{ wall with pending := [.hardReset] }, State.reset, by decide +kernel, rfl⟩

theorem witness_OutcomeSlotsStayReserved : ∃ (s : State) (t : State),
    s.transactionsMatch
      ∧ s.outcomesReserved
      ∧ step s = .next t :=
  ⟨{ wall with pending := [.hardReset] }, State.reset, by decide +kernel, by decide +kernel, rfl⟩

theorem witness_RequestsAndBindingsStayUnique_1 : ∃ (s : State) (t : State),
    s.oneRequestPerLane
      ∧ step s = .next t :=
  ⟨{ wall with pending := [.hardReset] }, State.reset, by decide +kernel, rfl⟩

theorem witness_RequestsAndBindingsStayUnique_2 : ∃ (s : State) (t : State),
    s.bindingsDiffer
      ∧ step s = .next t :=
  ⟨{ wall with pending := [.hardReset] }, State.reset, by decide +kernel, rfl⟩

theorem witness_CassetteMovementsKeepTheEquation : ∃ (s : State) (t : State),
    s.cashBalanced
      ∧ s.talliesSmall
      ∧ step s = .next t :=
  ⟨{ wall with pending := [.hardReset] }, State.reset, by decide +kernel, by decide +kernel, rfl⟩

theorem witness_ConsoleFrameIsReadBack_1 : ∃ (s : State) (f : ConsoleFrame),
    f.tag < 65536
      ∧ f.kind < 256
      ∧ f.body.length ≤ 1000
      ∧ s.link.rxPartial = []
      ∧ s.link.rxBuffer.length < 4 :=
  ⟨wall, { station := .console 3, isMgmt := true, tag := 65535, kind := 255, body := [0xC3#8, 2#8] }, by decide +kernel⟩

theorem witness_ConsoleFrameIsReadBack_2 : ∃ (s : State) (f : ConsoleFrame),
    f.tag < 65536
      ∧ f.kind < 256
      ∧ f.body.length ≤ 1000
      ∧ s.link.rxPartial = []
      ∧ 4 ≤ s.link.rxBuffer.length :=
  ⟨wall.mapLink fun k => { k with rxBuffer := List.replicate 4 frame },
      { station := .supervisor, isMgmt := false, tag := 0, kind := 0, body := [] }, by decide +kernel⟩

theorem witness_ConsoleFrameIsReadBack_3 : ∃ (s : State) (bytes : List Byte),
    s.link.rxPartial = []
      ∧ (0xC3#8 : Byte) ∉ bytes :=
  ⟨wall, [0#8, 0x5A#8], by decide +kernel⟩

theorem witness_PickReportIsReadBack : ∃ (r : PickReport),
    r.tag < 65536
      ∧ r.status < 256
      ∧ r.items.length ≤ 6
      ∧ (∀ i ∈ r.items, i.code < 256 ∧ i.picked < 256 ∧ i.rejected < 256) :=
  ⟨{ tag := 65535, status := 3, items := [⟨6, 100, 2⟩, ⟨1, 0, 255⟩] }, by decide +kernel⟩

theorem witness_SentItemLeavesTheQueue_1 : ∃ (s : State) (i : Item) (rest : List Item),
    s.link.reports = i :: rest :=
  ⟨wall.send7 (.partState .inService), reportItem .supervisor 0 (.partState .inService), [], by decide +kernel⟩

theorem witness_SentItemLeavesTheQueue_2 : ∃ (s : State),
    s.link.reports = [] :=
  ⟨wall, by decide +kernel⟩

theorem witness_FramesOutsideAnExchangeChangeNothing_2 : ∃ (s : State),
    s.bus.outstanding = none :=
  ⟨wall, by decide +kernel⟩

theorem witness_FramesOutsideAnExchangeChangeNothing_3 : ∃ (s : State) (e : Exchange),
    s.bus.outstanding = some e
      ∧ e.window.past s.now = true :=
  ⟨{ asking ⟨1, .poll, .bus, true⟩ with mgmt := { wall.mgmt with timeBase := 1000006#32 } },
      ⟨⟨1, .poll, .bus, true⟩, false, ⟨999995#32, 10⟩, {}⟩, by decide +kernel⟩

theorem witness_OrdersWaitWhileTheReportQueueIsFull : ∃ (c : Instr) (k : OrderKind) (s : State),
    orderKind c = some k
      ∧ 64 ≤ s.link.used :=
  ⟨.restart h7, .restart, wall.mapLink fun k => { k with held := 64 }, by decide +kernel⟩

theorem witness_OrdersOfWrongSenderOrFormAreRefused_1 : ∃ (c : Instr) (k : OrderKind) (h : Sender) (s : State),
    orderKind c = some k
      ∧ k.isMgmt = true
      ∧ c.sender = some h
      ∧ h.station ≠ .supervisor
      ∧ s.link.used < 64 :=
  ⟨.restart h1, .restart, h1, wall, by decide +kernel⟩

theorem witness_OrdersOfWrongSenderOrFormAreRefused_2 : ∃ (s : State) (h : Sender) (isMgmt : Bool) (kind : Nat) (body : List Byte),
    (isMgmt = false ∨ h.station = .supervisor)
      ∧ (isMgmt = true ∨ kind ≠ 3 ∨ body.length ≠ 6)
      ∧ s.link.used < 64 :=
  ⟨wall, h1, false, 77, [], by decide +kernel⟩

theorem witness_OrdersOfWrongSenderOrFormAreRefused_2b : ∃ (s : State) (h : Sender) (isMgmt : Bool) (kind : Nat) (body : List Byte),
    (isMgmt = false ∨ h.station = .supervisor)
      ∧ (isMgmt = true ∨ kind ≠ 3 ∨ body.length ≠ 6)
      ∧ s.link.used < 64 :=
  ⟨wall, h7, true, 99, [1#8], by decide +kernel⟩

theorem witness_MixPlanIsExact : ∃ (s : State) (except : List CassetteId) (amount : Nat) (bundle : Nat) (plan : List PlanItem),
    mixOf (s.eligibleList except) amount bundle = .plan plan :=
  ⟨wall, [], 45, 60, [⟨0, 2⟩, ⟨1, 1⟩], by decide +kernel⟩

theorem witness_AdmissionIssuesTheNextFreeId : ∃ (s : State),
    (∃ i : DispenseSlot, s.dispense.records[i] = none)
      ∧ s.bus.outgoing.length < 48 :=
  ⟨wall.mapDispense fun d => { d with lastId := 255 }, by decide +kernel⟩

theorem witness_SignOnAndSignOffBindAndFree_1 : ∃ (s : State) (h : Sender) (c : Console) (credential : Nat) (i : AuthId),
    h.station = .console c
      ∧ s.link.used < 64
      ∧ s.soundTables = true
      ∧ s.mgmt.partState ≠ .unconfigured
      ∧ 1 ≤ credential ∧ credential ≤ 65535
      ∧ s.binding c = none
      ∧ s.lookUp credential = some i
      ∧ (∀ d : Console, (s.binding d).map Binding.credential ≠ some credential) :=
  ⟨wall.setBinding 0 none, h1, 0, 11, 0, by decide +kernel⟩

theorem witness_SignOnAndSignOffBindAndFree_2 : ∃ (s : State) (h : Sender) (c : Console) (b : Binding),
    h.station = .console c
      ∧ s.link.used < 64
      ∧ s.binding c = some b
      ∧ s.dispenses.any (fun r => r.station == c && r.state == .presented) = false
      ∧ (∀ l : Lane, (s.screen.pairSlots[l]).any (fun p => p.station == c) = false) :=
  ⟨paying (paid .picking), h1, 0, ⟨11, 0⟩, by decide +kernel⟩

theorem witness_SignOnAndSignOffBindAndFree_3 : ∃ (s : State) (h : Sender) (c : Console) (b : Binding) (l : Lane) (p : PairHalf),
    h.station = .console c
      ∧ s.link.used < 64
      ∧ s.binding c = some b
      ∧ s.dispenses.any (fun r => r.station == c && r.state == .presented) = false
      ∧ s.screen.pairSlots[l] = some p
      ∧ p.station = c
      ∧ (∀ k : Lane, k ≠ l → (s.screen.pairSlots[k]).any (fun q => q.station == c) = false) :=
  ⟨(paying (paid .picking)).setPair 4 (some half), h1, 0, ⟨11, 0⟩, 4, half, by decide +kernel⟩

theorem witness_SingleDispenseIsAdmitted : ∃ (s : State) (h : Sender) (c : Console) (b : Binding) (lane : Nat) (amount : Nat) (l : Lane) (plan : List PlanItem),
    s.soundTables = true
      ∧ s.entitled h c b Rights.dispense
      ∧ numbered 6 lane = some l
      ∧ s.laneReady c l
      ∧ s.screen.pairSlots[l] = none
      ∧ s.withinLimits l c b.index amount
      ∧ (amount < (s.policy l).dualThreshold ∨ (s.policy l).dualThreshold = 999999)
      ∧ s.roomToPay amount plan :=
  ⟨wall, h1, 0, ⟨11, 0⟩, 1, 45, 0, [⟨0, 2⟩, ⟨1, 1⟩], by decide +kernel⟩

theorem witness_PairedDispenseIsStoredThenAdmitted_1 : ∃ (s : State) (h : Sender) (c : Console) (b : Binding) (lane : Nat) (amount : Nat) (l : Lane),
    s.soundTables = true
      ∧ s.entitled h c b Rights.dispense
      ∧ numbered 6 lane = some l
      ∧ s.laneReady c l
      ∧ s.screen.pairSlots[l] = none
      ∧ 1 ≤ amount ∧ amount ≤ 999999
      ∧ (s.policy l).dualThreshold ≤ amount ∧ (s.policy l).dualThreshold < 999999 :=
  ⟨wall, h1, 0, ⟨11, 0⟩, 1, 300, 0, by decide +kernel⟩

theorem witness_PairedDispenseIsStoredThenAdmitted_2 : ∃ (s : State) (h : Sender) (c : Console) (b : Binding) (lane : Nat) (amount : Nat) (l : Lane) (p : PairHalf) (plan : List PlanItem),
    s.soundTables = true
      ∧ s.entitled h c b Rights.second
      ∧ numbered 6 lane = some l
      ∧ s.laneReady c l
      ∧ s.screen.pairSlots[l] = some p
      ∧ c ≠ p.station
      ∧ b.credential ≠ p.credential
      ∧ amount = p.amount
      ∧ p.timer.past s.now = false
      ∧ (s.authority p.index).credential = p.credential
      ∧ (s.authority p.index).rights.dispense = true
      ∧ s.withinLimits l p.station p.index amount
      ∧ s.roomToPay amount plan :=
  ⟨wall.setPair 0 (some half), h2, 1, ⟨22, 1⟩, 1, 300, 0, half, [⟨0, 15⟩], by decide +kernel⟩

theorem witness_PairedDispenseIsStoredThenAdmitted_2b : ∃ (s : State) (h : Sender) (c : Console) (b : Binding) (lane : Nat) (amount : Nat) (l : Lane) (p : PairHalf) (plan : List PlanItem),
    s.soundTables = true
      ∧ s.entitled h c b Rights.second
      ∧ numbered 6 lane = some l
      ∧ s.laneReady c l
      ∧ s.screen.pairSlots[l] = some p
      ∧ c ≠ p.station
      ∧ b.credential ≠ p.credential
      ∧ amount = p.amount
      ∧ p.timer.past s.now = false
      ∧ (s.authority p.index).credential = p.credential
      ∧ (s.authority p.index).rights.dispense = true
      ∧ s.withinLimits l p.station p.index amount
      ∧ s.roomToPay amount plan :=
  ⟨(wall.setPair 0 (some half)).mapMgmt fun m => { m with timeBase := 1010000#32 }, h2, 1, ⟨22, 1⟩, 1, 300, 0, half,
      [⟨0, 15⟩], by decide +kernel⟩

theorem witness_QueuedDispenseIsCancelled : ∃ (s : State) (h : Sender) (lane : Nat) (id : Nat) (l : Lane) (i : DispenseSlot) (r : DispenseRecord),
    s.soundTables = true
      ∧ s.supervised h
      ∧ s.mgmt.partState ≠ .unconfigured
      ∧ numbered 6 lane = some l
      ∧ s.screen.pairSlots[l] = none
      ∧ s.findDispense (fun r => r.id == id && r.lane == l) = some i
      ∧ s.dispense.records[i] = some r
      ∧ r.state = .queued
      ∧ (s.authority r.index).credential = r.credential
      ∧ s.bus.outgoing.length < 48 :=
  ⟨paying (paid .queued), h7, 1, 7, 0, 0, paid .queued, by decide +kernel⟩

theorem witness_DepositIsOpenedAndClosed_1 : ∃ (s : State) (h : Sender) (c : Console) (b : Binding) (lane : Nat) (l : Lane),
    s.soundTables = true
      ∧ s.entitled h c b Rights.deposit
      ∧ numbered 6 lane = some l
      ∧ s.laneReady c l
      ∧ s.screen.pairSlots[l] = none
      ∧ s.cash.recycler ≠ .faulted
      ∧ s.entryPoor s.recyclerEntry = false
      ∧ s.cash.workQueue.length < 8
      ∧ s.bus.outgoing.length < 48 :=
  ⟨wall, h1, 0, ⟨11, 0⟩, 1, 0, by decide +kernel⟩

theorem witness_DepositIsOpenedAndClosed_2 : ∃ (s : State) (h : Sender) (lane : Nat) (l : Lane) (x : Session) (m : ModuleId),
    s.supervised h
      ∧ s.mgmt.partState ≠ .unconfigured
      ∧ numbered 6 lane = some l
      ∧ s.screen.pairSlots[l] = none
      ∧ s.session l = some x
      ∧ x.state = .active
      ∧ s.recyclerEntry = some m
      ∧ s.bus.outgoing.length < 48
      ∧ s.cash.recycler = .busy :=
  ⟨banking (accepting .active), h7, 1, 0, accepting .active, 0, by decide +kernel⟩

theorem witness_CarrierOrdersQueueARequest_1 : ∃ (s : State) (h : Sender) (c : Console) (b : Binding) (lane : Nat) (l : Lane),
    s.soundTables = true
      ∧ s.entitled h c b Rights.tube
      ∧ s.mgmt.partState ≠ .unconfigured
      ∧ numbered 6 lane = some l
      ∧ (s.policy l).serving[c] = true
      ∧ (s.laneRec l).state ≠ .closed
      ∧ ((s.laneRec l).state = .held → (s.laneRec l).txn.isSome = true)
      ∧ s.alarm.lockdown = false
      ∧ s.screen.pairSlots[l] = none
      ∧ s.requestOf l = none
      ∧ (s.carrier l).location = .teller ∧ (s.carrier l).seated = true
      ∧ s.blowerUsable = true
      ∧ s.entryReachable (s.stationEntry l) = true
      ∧ s.toBind l = none
      ∧ s.tube.blower ≠ .idle :=
  ⟨wall.mapTube fun t => { t with blower := .moving 3 }, h1, 0, ⟨11, 0⟩, 1, 0, by decide +kernel⟩

theorem witness_CarrierOrdersQueueARequest_2 : ∃ (s : State) (h : Sender) (c : Console) (b : Binding) (lane : Nat) (l : Lane) (id : Nat),
    s.soundTables = true
      ∧ s.entitled h c b Rights.tube
      ∧ s.mgmt.partState ≠ .unconfigured
      ∧ numbered 6 lane = some l
      ∧ (s.policy l).serving[c] = true
      ∧ (s.laneRec l).state ≠ .closed
      ∧ s.alarm.lockdown = false
      ∧ s.screen.pairSlots[l] = none
      ∧ s.requestOf l = none
      ∧ (s.carrier l).location = .teller ∧ (s.carrier l).seated = true
      ∧ s.blowerUsable = true
      ∧ s.entryReachable (s.stationEntry l) = true
      ∧ s.toBind l = some id
      ∧ s.tube.blower ≠ .idle :=
  ⟨(paying (paid .taken)).mapTube fun t => { t with blower := .moving 3 }, h1, 0, ⟨11, 0⟩, 1, 0, 7, by decide +kernel⟩

theorem witness_CarrierOrdersQueueARequest_3 : ∃ (s : State) (h : Sender) (lane : Nat) (l : Lane),
    s.supervised h
      ∧ s.mgmt.partState ≠ .unconfigured
      ∧ numbered 6 lane = some l
      ∧ s.screen.pairSlots[l] = none
      ∧ s.requestOf l = none
      ∧ (s.carrier l).location = .lane ∧ (s.carrier l).seated = true
      ∧ s.blowerUsable = true
      ∧ s.tube.blower ≠ .idle :=
  ⟨(wall.mapCarrier 1 fun c => { c with location := .lane }).mapTube fun t => { t with blower := .moving 3 }, h7, 2, 1,
      by decide +kernel⟩

theorem witness_CarrierOrdersQueueARequest_4 : ∃ (s : State) (h : Sender) (c : Console) (b : Binding) (lane : Nat) (l : Lane) (m : ModuleId),
    s.soundTables = true
      ∧ s.entitled h c b Rights.tube
      ∧ s.mgmt.partState ≠ .unconfigured
      ∧ numbered 6 lane = some l
      ∧ (s.policy l).serving[c] = true
      ∧ (s.laneRec l).state ≠ .closed
      ∧ ((s.laneRec l).state = .held → (s.laneRec l).txn.isSome = true)
      ∧ s.alarm.lockdown = false
      ∧ s.screen.pairSlots[l] = none
      ∧ s.tube.requests = []
      ∧ (s.carrier l).location = .teller ∧ (s.carrier l).seated = true
      ∧ s.entryReachable (s.stationEntry l) = true
      ∧ s.toBind l = none
      ∧ s.tube.blower = .idle
      ∧ s.blowerEntry = some m
      ∧ (s.module m).health.good = true
      ∧ s.bus.outgoing.length < 48 :=
  ⟨wall, h1, 0, ⟨11, 0⟩, 1, 0, 1, by decide +kernel⟩

theorem witness_CarrierOrdersQueueARequest_5 : ∃ (s : State) (h : Sender) (lane : Nat) (l : Lane) (m : ModuleId),
    s.soundTables = true
      ∧ s.supervised h
      ∧ s.mgmt.partState ≠ .unconfigured
      ∧ numbered 6 lane = some l
      ∧ s.screen.pairSlots[l] = none
      ∧ s.tube.requests = []
      ∧ (s.carrier l).location = .lane ∧ (s.carrier l).seated = true
      ∧ s.tube.blower = .idle
      ∧ s.blowerEntry = some m
      ∧ (s.module m).health.good = true
      ∧ s.bus.outgoing.length < 48 :=
  ⟨wall.mapCarrier 1 fun c => { c with location := .lane }, h7, 2, 1, 1, by decide +kernel⟩

theorem witness_CarrierOrdersQueueARequest_6 : ∃ (s : State) (x : Exchange) (m : ModuleId) (r : BusReply) (cond : Nat) (l : Lane) (k : Lane),
    s.polled x m r cond [.sendPressed k]
      ∧ (s.module m).kind = .laneStation
      ∧ (s.module m).lane = numberOf l
      ∧ s.requestOf l = none
      ∧ (s.carrier l).location = .lane ∧ (s.carrier l).seated = true
      ∧ s.blowerUsable = true
      ∧ s.tube.blower ≠ .idle :=
  ⟨polling ((wall.mapCarrier 1 fun c => { c with location := .lane }).mapTube fun t => { t with blower := .moving 3 }) 4,
      asked 4, 3, pollReply 4 [.sendPressed 1], 1, 1, 1, by decide +kernel⟩

theorem witness_LaneOrdersChangeTheLane_1 : ∃ (s : State) (h : Sender) (lane : Nat) (l : Lane),
    s.soundTables = true
      ∧ s.supervised h
      ∧ s.mgmt.partState = .inService
      ∧ numbered 6 lane = some l
      ∧ s.screen.pairSlots[l] = none
      ∧ (s.laneRec l).state = .closed
      ∧ (s.laneRec l).txn = none
      ∧ (s.policy l).isOpen = true
      ∧ (s.stationEntry l).isSome = true :=
  ⟨wall.mapLane 2 fun r => { r with state := .closed }, h7, 3, 2, by decide +kernel⟩

theorem witness_LaneOrdersChangeTheLane_1b : ∃ (s : State) (h : Sender) (lane : Nat) (l : Lane),
    s.soundTables = true
      ∧ s.supervised h
      ∧ s.mgmt.partState = .inService
      ∧ numbered 6 lane = some l
      ∧ s.screen.pairSlots[l] = none
      ∧ (s.laneRec l).state = .closed
      ∧ (s.laneRec l).txn = none
      ∧ (s.policy l).isOpen = true
      ∧ (s.stationEntry l).isSome = true :=
  ⟨wall.mapLane 2 fun r => { r with state := .closed, holds := { cash := true } }, h7, 3, 2, by decide +kernel⟩

theorem witness_LaneOrdersChangeTheLane_2 : ∃ (s : State) (h : Sender) (lane : Nat) (l : Lane),
    s.soundTables = true
      ∧ s.supervised h
      ∧ s.mgmt.partState ≠ .unconfigured
      ∧ numbered 6 lane = some l
      ∧ s.screen.pairSlots[l] = none
      ∧ (s.laneRec l).state ≠ .closed
      ∧ (s.laneRec l).txn = none :=
  ⟨wall, h7, 6, 5, by decide +kernel⟩

theorem witness_LaneOrdersChangeTheLane_3 : ∃ (s : State) (h : Sender) (lane : Nat) (l : Lane),
    s.soundTables = true
      ∧ s.supervised h
      ∧ s.mgmt.partState ≠ .unconfigured
      ∧ numbered 6 lane = some l
      ∧ s.screen.pairSlots[l] = none
      ∧ (s.laneRec l).holds.latched = true
      ∧ ((s.laneRec l).holds.loop = true → s.laneLoopsClear l = true)
      ∧ ((s.laneRec l).holds.carrier = true → (s.carrier l).location ≠ .unknown) :=
  ⟨(wall.mapLane 0 fun r =>
            { r with state := .held, holds := { cash := true, node := true, carrier := true } }).mapDispense fun d =>
        { d with inDoubtLanes := [0, 2] }, h7, 1, 0, by decide +kernel⟩

theorem witness_LaneOrdersChangeTheLane_4 : ∃ (s : State) (h : Sender) (c : Console) (lane : Nat) (id : Nat) (l : Lane) (p : PairHalf) (order : Instr × OrderKind),
    h.station = .console c
      ∧ s.link.used < 64
      ∧ s.mgmt.partState = .unconfigured
      ∧ numbered 6 lane = some l
      ∧ s.screen.pairSlots[l] = some p
      ∧ order ∈ laneOrders h lane id :=
  ⟨(wall.setPair 2 (some half)).mapMgmt fun m => { m with partState := .unconfigured }, h2, 1, 3, 7, 2, half,
      (.cancelDispense h2 3 7, .cancelDispense), by decide +kernel⟩

theorem witness_LaneOrdersChangeTheLane_4b : ∃ (s : State) (h : Sender) (c : Console) (lane : Nat) (id : Nat) (l : Lane) (p : PairHalf) (order : Instr × OrderKind),
    h.station = .console c
      ∧ s.link.used < 64
      ∧ s.mgmt.partState = .unconfigured
      ∧ numbered 6 lane = some l
      ∧ s.screen.pairSlots[l] = some p
      ∧ order ∈ laneOrders h lane id :=
  ⟨(wall.setPair 2 (some half)).mapMgmt fun m => { m with partState := .unconfigured }, h2, 1, 3, 7, 2, half,
      (.releaseLane h2 3, .releaseLane), by decide +kernel⟩

theorem witness_LaneOrdersChangeTheLane_5 : ∃ (s : State) (h : Sender) (lane : Nat) (amount : Nat) (id : Nat) (l : Lane) (p : PairHalf) (cmd : Instr),
    s.link.used < 64
      ∧ numbered 6 lane = some l
      ∧ s.screen.pairSlots[l] = some p
      ∧ cmd ∈ .dispenseSingle h lane amount :: (laneOrders h lane id).map Prod.fst :=
  ⟨wall.setPair 0 (some half), h2, 1, 45, 7, 0, half, .dispenseSingle h2 1 45, by decide +kernel⟩

theorem witness_LaneOrdersChangeTheLane_5b : ∃ (s : State) (h : Sender) (lane : Nat) (amount : Nat) (id : Nat) (l : Lane) (p : PairHalf) (cmd : Instr),
    s.link.used < 64
      ∧ numbered 6 lane = some l
      ∧ s.screen.pairSlots[l] = some p
      ∧ cmd ∈ .dispenseSingle h lane amount :: (laneOrders h lane id).map Prod.fst :=
  ⟨wall.setPair 5 (some half), h7, 6, 0, 0, 5, half, .closeLane h7 6, by decide +kernel⟩

theorem witness_LaneOrdersChangeTheLane_6 : ∃ (s : State) (lane : Nat) (l : Lane) (p : PairHalf),
    s.link.used < 64
      ∧ numbered 6 lane = some l
      ∧ s.screen.pairSlots[l] = some p :=
  ⟨wall.setPair 0 (some half), 1, 0, half, by decide +kernel⟩

theorem witness_ConfirmedOperationsAreCarriedOut_1 : ∃ (s : State) (h : Sender) (c : Console) (b : Binding) (half : MgmtHalf) (cassette : Nat) (k : CassetteId),
    s.soundTables = true
      ∧ numbered 8 cassette = some k
      ∧ s.confirmable h c b Rights.cashAdmin (.exchangeCassette k) half
      ∧ s.alarm.lockdown = false
      ∧ s.cash.exchange = none
      ∧ (s.cassette k).out = false
      ∧ s.workInFlight k = false :=
  ⟨awaiting (.exchangeCassette 0), h1, 0, ⟨11, 0⟩, halfOf (.exchangeCassette 0), 1, 0, by decide +kernel⟩

theorem witness_ConfirmedOperationsAreCarriedOut_1b : ∃ (s : State) (h : Sender) (c : Console) (b : Binding) (half : MgmtHalf) (cassette : Nat) (k : CassetteId),
    s.soundTables = true
      ∧ numbered 8 cassette = some k
      ∧ s.confirmable h c b Rights.cashAdmin (.exchangeCassette k) half
      ∧ s.alarm.lockdown = false
      ∧ s.cash.exchange = none
      ∧ (s.cassette k).out = false
      ∧ s.workInFlight k = false :=
  ⟨awaiting (.exchangeCassette 7), h1, 0, ⟨11, 0⟩, halfOf (.exchangeCassette 7), 8, 7, by decide +kernel⟩

theorem witness_ConfirmedOperationsAreCarriedOut_2 : ∃ (s : State) (h : Sender) (c : Console) (b : Binding) (half : MgmtHalf),
    s.soundTables = true
      ∧ s.confirmable h c b Rights.cashAdmin .emptyDepository half
      ∧ s.alarm.lockdown = false
      ∧ s.envelope.safe = none
      ∧ s.inProgress = 0 :=
  ⟨awaiting .emptyDepository, h1, 0, ⟨11, 0⟩, halfOf .emptyDepository, by decide +kernel⟩

theorem witness_ConfirmedOperationsAreCarriedOut_3 : ∃ (s : State) (h : Sender) (c : Console) (b : Binding) (half : MgmtHalf) (m : ModuleId),
    s.soundTables = true
      ∧ s.confirmable h c b Rights.clear .clearLockdown half
      ∧ s.alarm.lockdown = true
      ∧ (∀ i : LoopId, (s.loop i).applied .lockdown = false)
      ∧ s.cash.workQueue = []
      ∧ s.tube.requests = []
      ∧ s.recyclerEntry = some m
      ∧ s.bus.outgoing.length < 48 :=
  ⟨(awaiting .clearLockdown).setLockdownLatch true, h1, 0, ⟨11, 0⟩, halfOf .clearLockdown, 0, by decide +kernel⟩

theorem witness_SettingsAreStoredWithinTheirRanges_1 : ∃ (s : State) (h : Sender),
    s.supervised h :=
  ⟨wall, h7, by decide +kernel⟩

theorem witness_SettingsAreStoredWithinTheirRanges_1b : ∃ (s : State) (h : Sender),
    s.supervised h :=
  ⟨wall, h7, by decide +kernel⟩

theorem witness_SettingsAreStoredWithinTheirRanges_2 : ∃ (s : State) (h : Sender),
    s.supervised h :=
  ⟨wall, h7, by decide +kernel⟩

theorem witness_SettingsAreStoredWithinTheirRanges_2b : ∃ (s : State) (h : Sender),
    s.supervised h :=
  ⟨wall, h7, by decide +kernel⟩

theorem witness_SettingsAreStoredWithinTheirRanges_3 : ∃ (s : State) (h : Sender),
    s.supervised h :=
  ⟨wall, h7, by decide +kernel⟩

theorem witness_SettingsAreStoredWithinTheirRanges_3b : ∃ (s : State) (h : Sender),
    s.supervised h :=
  ⟨wall, h7, by decide +kernel⟩

theorem witness_SettingsAreStoredWithinTheirRanges_4 : ∃ (s : State) (h : Sender),
    s.supervised h :=
  ⟨wall, h7, by decide +kernel⟩

theorem witness_SettingsAreStoredWithinTheirRanges_4b : ∃ (s : State) (h : Sender),
    s.supervised h :=
  ⟨wall, h7, by decide +kernel⟩

theorem witness_SettingsAreStoredWithinTheirRanges_5 : ∃ (s : State) (h : Sender),
    s.supervised h :=
  ⟨wall, h7, by decide +kernel⟩

theorem witness_SettingsAreStoredWithinTheirRanges_6 : ∃ (s : State) (h : Sender),
    s.supervised h :=
  ⟨wall, h7, by decide +kernel⟩

theorem witness_SettingsAreStoredWithinTheirRanges_6b : ∃ (s : State) (h : Sender),
    s.supervised h :=
  ⟨wall, h7, by decide +kernel⟩

theorem witness_SettingsAreStoredWithinTheirRanges_7 : ∃ (s : State) (h : Sender),
    s.supervised h :=
  ⟨wall, h7, by decide +kernel⟩

theorem witness_SettingsAreStoredWithinTheirRanges_7b : ∃ (s : State) (h : Sender),
    s.supervised h :=
  ⟨wall.mapEnvelope fun e => { e with count := 300 }, h7, by decide +kernel⟩

theorem witness_LanePolicyWriteStoresTheCopy : ∃ (s : State) (h : Sender) (w : LanePolicyWrite) (l : Lane),
    s.soundTables = true
      ∧ s.supervised h
      ∧ numbered 6 w.lane = some l
      ∧ 1 ≤ w.singleLimit ∧ w.singleLimit ≤ 999999
      ∧ 1 ≤ w.dualThreshold ∧ w.dualThreshold ≤ 999999
      ∧ w.duressCap ≤ 999999
      ∧ (∀ n ∈ w.serving, 1 ≤ n ∧ n ≤ 4) :=
  ⟨wall, h7, ⟨1, false, 1, 999999, 0, true, 500, [1, 4]⟩, 0, by decide +kernel⟩

theorem witness_LanePolicyWriteStoresTheCopyb : ∃ (s : State) (h : Sender) (w : LanePolicyWrite) (l : Lane),
    s.soundTables = true
      ∧ s.supervised h
      ∧ numbered 6 w.lane = some l
      ∧ 1 ≤ w.singleLimit ∧ w.singleLimit ≤ 999999
      ∧ 1 ≤ w.dualThreshold ∧ w.dualThreshold ≤ 999999
      ∧ w.duressCap ≤ 999999
      ∧ (∀ n ∈ w.serving, 1 ≤ n ∧ n ≤ 4) :=
  ⟨wall.mapLanes fun k => { k with writeSelect := .night }, h7, ⟨6, true, 999999, 1, 999999, true, 0, []⟩, 5,
      by decide +kernel⟩

theorem witness_AuthorityEntriesAreWrittenAndShiftsReset_1 : ∃ (s : State) (h : Sender) (w : AuthorityWrite) (i : AuthId) (rights : Rights),
    s.supervised h
      ∧ numbered 32 w.index = some i
      ∧ w.rights = some rights
      ∧ 1 ≤ w.perDispense ∧ w.perDispense ≤ 999999
      ∧ w.shiftLimit ≤ 99999999
      ∧ (∀ c : Console, s.binding c = none) :=
  ⟨(wall.setBinding 0 none).setBinding 1 none, h7, ⟨1, 11, some allRights, 1, 0⟩, 0, allRights, by decide +kernel⟩

theorem witness_AuthorityEntriesAreWrittenAndShiftsReset_1b : ∃ (s : State) (h : Sender) (w : AuthorityWrite) (i : AuthId) (rights : Rights),
    s.supervised h
      ∧ numbered 32 w.index = some i
      ∧ w.rights = some rights
      ∧ 1 ≤ w.perDispense ∧ w.perDispense ≤ 999999
      ∧ w.shiftLimit ≤ 99999999
      ∧ (∀ c : Console, s.binding c = none) :=
  ⟨(wall.setBinding 0 none).setBinding 1 none, h7, ⟨32, 5, some {}, 999999, 99999999⟩, 31, {}, by decide +kernel⟩

theorem witness_AuthorityEntriesAreWrittenAndShiftsReset_2 : ∃ (s : State) (h : Sender) (w : AuthorityWrite) (i : AuthId) (rights : Rights) (c : Console) (b : Binding),
    s.supervised h
      ∧ numbered 32 w.index = some i
      ∧ w.rights = some rights
      ∧ 1 ≤ w.perDispense ∧ w.perDispense ≤ 999999
      ∧ w.shiftLimit ≤ 99999999
      ∧ s.binding c = some b
      ∧ b.index = i
      ∧ b.credential ≠ w.credential :=
  ⟨wall, h7, ⟨1, 12, some {}, 1, 0⟩, 0, {}, 0, ⟨11, 0⟩, by decide +kernel⟩

theorem witness_AuthorityEntriesAreWrittenAndShiftsReset_2b : ∃ (s : State) (h : Sender) (w : AuthorityWrite) (i : AuthId) (rights : Rights) (c : Console) (b : Binding),
    s.supervised h
      ∧ numbered 32 w.index = some i
      ∧ w.rights = some rights
      ∧ 1 ≤ w.perDispense ∧ w.perDispense ≤ 999999
      ∧ w.shiftLimit ≤ 99999999
      ∧ s.binding c = some b
      ∧ b.index = i
      ∧ b.credential ≠ w.credential :=
  ⟨(paying (paid .picking)).setPair 4 (some half), h7, ⟨1, 12, some {}, 1, 0⟩, 0, {}, 0, ⟨11, 0⟩, by decide +kernel⟩

theorem witness_AuthorityEntriesAreWrittenAndShiftsReset_3 : ∃ (s : State) (h : Sender) (n : Nat) (i : AuthId),
    s.soundTables = true
      ∧ s.supervised h
      ∧ numbered 32 n = some i :=
  ⟨wall, h7, 1, 0, by decide +kernel⟩

theorem witness_AuthorityEntriesAreWrittenAndShiftsReset_3b : ∃ (s : State) (h : Sender) (n : Nat) (i : AuthId),
    s.soundTables = true
      ∧ s.supervised h
      ∧ numbered 32 n = some i :=
  ⟨wall, h7, 32, 31, by decide +kernel⟩

theorem witness_AuthorityEntriesAreWrittenAndShiftsReset_4 : ∃ (s : State) (h : Sender),
    s.soundTables = true
      ∧ s.supervised h :=
  ⟨wall, h7, by decide +kernel⟩

theorem witness_CashTableWritesStoreTheirEntries_1 : ∃ (s : State) (h : Sender) (index : Nat) (value : Nat) (i : DenomId),
    s.supervised h
      ∧ numbered 8 index = some i
      ∧ value ≤ 10000
      ∧ s.mgmt.partState ≠ .inService
      ∧ s.dispenses = []
      ∧ s.sessions = [] :=
  ⟨wall.mapMgmt fun m => { m with partState := .suspended }, h7, 8, 10000, 7, by decide +kernel⟩

theorem witness_CashTableWritesStoreTheirEntries_2 : ∃ (s : State) (h : Sender) (cassette : Nat) (lowMark : Nat) (i : Fin 6) (c : CassetteId),
    s.supervised h
      ∧ numbered 6 cassette = some i
      ∧ c.val = i.val
      ∧ lowMark ≤ 500
      ∧ s.cash.workQueue = [] :=
  ⟨wall, h7, 1, 500, 0, 0, by decide +kernel⟩

theorem witness_CashTableWritesStoreTheirEntries_2b : ∃ (s : State) (h : Sender) (cassette : Nat) (lowMark : Nat) (i : Fin 6) (c : CassetteId),
    s.supervised h
      ∧ numbered 6 cassette = some i
      ∧ c.val = i.val
      ∧ lowMark ≤ 500
      ∧ s.cash.workQueue = [] :=
  ⟨wall, h7, 6, 0, 5, 5, by decide +kernel⟩

theorem witness_LoopWriteRestartsTheLoop : ∃ (s : State) (h : Sender) (w : LoopWrite) (i : LoopId) (kind : LoopKind) (arm : ArmMode) (response : Response),
    s.supervised h
      ∧ numbered 16 w.loop = some i
      ∧ w.kind = some kind
      ∧ w.armMode = some arm
      ∧ w.response = some response
      ∧ w.lane ≤ 6
      ∧ ¬(response = .laneHold ∧ w.lane = 0)
      ∧ (s.loop i).tripped = false
      ∧ s.envelope.safe = none
      ∧ s.cash.workQueue = [] :=
  ⟨wall, h7, ⟨1, some .holdup, 6, 19, some .always, some .duress⟩, 0, .holdup, .always, .duress, by decide +kernel⟩

theorem witness_LoopWriteRestartsTheLoopb : ∃ (s : State) (h : Sender) (w : LoopWrite) (i : LoopId) (kind : LoopKind) (arm : ArmMode) (response : Response),
    s.supervised h
      ∧ numbered 16 w.loop = some i
      ∧ w.kind = some kind
      ∧ w.armMode = some arm
      ∧ w.response = some response
      ∧ w.lane ≤ 6
      ∧ ¬(response = .laneHold ∧ w.lane = 0)
      ∧ (s.loop i).tripped = false
      ∧ s.envelope.safe = none
      ∧ s.cash.workQueue = [] :=
  ⟨wall, h7, ⟨16, some .lane, 0, 2001, some .onOrder, some .notify⟩, 15, .lane, .onOrder, .notify, by decide +kernel⟩

theorem witness_LoopWriteRestartsTheLoopc : ∃ (s : State) (h : Sender) (w : LoopWrite) (i : LoopId) (kind : LoopKind) (arm : ArmMode) (response : Response),
    s.supervised h
      ∧ numbered 16 w.loop = some i
      ∧ w.kind = some kind
      ∧ w.armMode = some arm
      ∧ w.response = some response
      ∧ w.lane ≤ 6
      ∧ ¬(response = .laneHold ∧ w.lane = 0)
      ∧ (s.loop i).tripped = false
      ∧ s.envelope.safe = none
      ∧ s.cash.workQueue = [] :=
  ⟨wall, h7, ⟨2, some .none, 0, 50, some .always, some .notify⟩, 1, .none, .always, .notify, by decide +kernel⟩

theorem witness_ModuleWriteConfiguresTheEntry : ∃ (s : State) (h : Sender) (entry : Nat) (node : Nat) (lane : Nat) (kind : ModuleKind) (m : ModuleId),
    s.supervised h
      ∧ numbered 16 entry = some m
      ∧ node ≤ 30
      ∧ (kind = .laneStation → 1 ≤ lane ∧ lane ≤ 6)
      ∧ s.mgmt.partState ≠ .inService
      ∧ (node ≠ 0 → ∀ i : ModuleId, i ≠ m → (s.module i).node ≠ node)
      ∧ ((node ≠ 0 → kind ≠ .laneStation → ∀ i : ModuleId, i ≠ m → (s.module i).node = 0 ∨ (s.module i).kind ≠ kind))
      ∧ s.moduleQuiet m = true
      ∧ s.bus.restores = []
      ∧ s.tube.requests = []
      ∧ s.cash.workQueue = [] :=
  ⟨wall.mapMgmt fun m => { m with partState := .suspended }, h7, 3, 0, 6, .laneStation, 2, by decide +kernel⟩

theorem witness_ModuleWriteConfiguresTheEntryb : ∃ (s : State) (h : Sender) (entry : Nat) (node : Nat) (lane : Nat) (kind : ModuleKind) (m : ModuleId),
    s.supervised h
      ∧ numbered 16 entry = some m
      ∧ node ≤ 30
      ∧ (kind = .laneStation → 1 ≤ lane ∧ lane ≤ 6)
      ∧ s.mgmt.partState ≠ .inService
      ∧ (node ≠ 0 → ∀ i : ModuleId, i ≠ m → (s.module i).node ≠ node)
      ∧ ((node ≠ 0 → kind ≠ .laneStation → ∀ i : ModuleId, i ≠ m → (s.module i).node = 0 ∨ (s.module i).kind ≠ kind))
      ∧ s.moduleQuiet m = true
      ∧ s.bus.restores = []
      ∧ s.tube.requests = []
      ∧ s.cash.workQueue = [] :=
  ⟨State.reset, h7, 16, 30, 1, .recycler, 15, by decide +kernel⟩

theorem witness_ReadEntryReturnsTheStoredValues_1 : ∃ (s : State) (h : Sender) (ref : TableRef) (d : EntryData),
    s.soundTables = true
      ∧ s.supervised h
      ∧ s.entryOf ref = some d :=
  ⟨wall, h7, .authority 32, .authority {}, by decide +kernel⟩

theorem witness_ReadEntryReturnsTheStoredValues_1b : ∃ (s : State) (h : Sender) (ref : TableRef) (d : EntryData),
    s.soundTables = true
      ∧ s.supervised h
      ∧ s.entryOf ref = some d :=
  ⟨wall, h7, .lanePolicy 6 (some .night), .lanePolicy {}, by decide +kernel⟩

theorem witness_ReadEntryReturnsTheStoredValues_1c : ∃ (s : State) (h : Sender) (ref : TableRef) (d : EntryData),
    s.soundTables = true
      ∧ s.supervised h
      ∧ s.entryOf ref = some d :=
  ⟨wall, h7, .cassette 8, .cassette {}, by decide +kernel⟩

theorem witness_ReadEntryReturnsTheStoredValues_2 : ∃ (s : State) (h : Sender) (ref : TableRef),
    s.supervised h
      ∧ s.entryOf ref = none :=
  ⟨wall, h7, .loop 17, by decide +kernel⟩

theorem witness_ReadEntryReturnsTheStoredValues_2b : ∃ (s : State) (h : Sender) (ref : TableRef),
    s.supervised h
      ∧ s.entryOf ref = none :=
  ⟨wall, h7, .module 0, by decide +kernel⟩

theorem witness_ReadEntryReturnsTheStoredValues_2c : ∃ (s : State) (h : Sender) (ref : TableRef),
    s.supervised h
      ∧ s.entryOf ref = none :=
  ⟨wall, h7, .lanePolicy 1 none, by decide +kernel⟩

theorem witness_ReadEntryReturnsTheStoredValues_3 : ∃ (s : State) (h : Sender),
    s.supervised h :=
  ⟨wall, h7, by decide +kernel⟩

theorem witness_SelectProfileChoosesTheCopies_1 : ∃ (s : State) (h : Sender),
    s.supervised h :=
  ⟨wall, h7, by decide +kernel⟩

theorem witness_SelectProfileChoosesTheCopies_2 : ∃ (s : State) (h : Sender),
    s.supervised h :=
  ⟨paying (paid .taken), h7, by decide +kernel⟩

theorem witness_SelectProfileChoosesTheCopies_3 : ∃ (s : State) (h : Sender),
    s.soundTables = true
      ∧ s.supervised h :=
  ⟨paying (paid .taken), h7, by decide +kernel⟩

theorem witness_SelectProfileChoosesTheCopies_3b : ∃ (s : State) (h : Sender),
    s.soundTables = true
      ∧ s.supervised h :=
  ⟨(paying (paid .taken)).mapLanes fun k => { k with
          nightCopies := Vector.replicate 6 copy
          records := k.records.map fun r => { r with switchPending := true } }, h7, by decide +kernel⟩

theorem witness_CassettesAreAccountedAndExchanged_1 : ∃ (s : State) (h : Sender) (cassette : Nat) (denom : Option Nat) (c : CassetteId) (d : Option DenomId),
    s.soundTables = true
      ∧ s.supervised h
      ∧ numbered 8 cassette = some c
      ∧ loadDenom c denom = some d
      ∧ ((s.cassette c).reinserted = true ∨ (s.cassette c).out = false ∧
              ((s.cassette c).count = 0 ∨ (s.cassette c).unreconciled = true))
      ∧ s.workInFlight c = false
      ∧ s.cash.workQueue = []
      ∧ s.bus.outgoing.length < 48 :=
  ⟨wall, h7, 3, some 1, 2, some 0, by decide +kernel⟩

theorem witness_CassettesAreAccountedAndExchanged_1b : ∃ (s : State) (h : Sender) (cassette : Nat) (denom : Option Nat) (c : CassetteId) (d : Option DenomId),
    s.soundTables = true
      ∧ s.supervised h
      ∧ numbered 8 cassette = some c
      ∧ loadDenom c denom = some d
      ∧ ((s.cassette c).reinserted = true ∨ (s.cassette c).out = false ∧
              ((s.cassette c).count = 0 ∨ (s.cassette c).unreconciled = true))
      ∧ s.workInFlight c = false
      ∧ s.cash.workQueue = []
      ∧ s.bus.outgoing.length < 48 :=
  ⟨wall, h7, 8, none, 7, none, by decide +kernel⟩

theorem witness_CassettesAreAccountedAndExchanged_2 : ∃ (s : State) (h : Sender) (cassette : Nat) (c : CassetteId),
    s.soundTables = true
      ∧ s.supervised h
      ∧ numbered 8 cassette = some c
      ∧ (s.cassette c).unreconciled = true
      ∧ (s.cassette c).out = false
      ∧ (s.cassette c).reinserted = false
      ∧ s.workInFlight c = false
      ∧ s.cash.workQueue = []
      ∧ s.bus.outgoing.length < 48 :=
  ⟨wall.markUnreconciled 0, h7, 1, 0, by decide +kernel⟩

theorem witness_CassettesAreAccountedAndExchanged_2b : ∃ (s : State) (h : Sender) (cassette : Nat) (c : CassetteId),
    s.soundTables = true
      ∧ s.supervised h
      ∧ numbered 8 cassette = some c
      ∧ (s.cassette c).unreconciled = true
      ∧ (s.cassette c).out = false
      ∧ (s.cassette c).reinserted = false
      ∧ s.workInFlight c = false
      ∧ s.cash.workQueue = []
      ∧ s.bus.outgoing.length < 48 :=
  ⟨wall.markUnreconciled 7, h7, 8, 7, by decide +kernel⟩

theorem witness_CassettesAreAccountedAndExchanged_3 : ∃ (s : State) (x : Exchange) (m : ModuleId) (r : BusReply) (cond : Nat) (c : CassetteId) (a : ExchangeAuth),
    s.polled x m r cond [.cassetteOut c]
      ∧ (s.module m).kind = .recycler
      ∧ s.cash.exchange = some a
      ∧ a.cassette = c
      ∧ (s.cassette c).out = false
      ∧ s.cash.workQueue = [] :=
  ⟨polling (wall.mapCash fun k => { k with exchange := some ⟨7, due⟩ }) 1, asked 1, 0, pollReply 1 [.cassetteOut 7], 1, 7,
      ⟨7, due⟩, by decide +kernel⟩

theorem witness_CassettesAreAccountedAndExchanged_4 : ∃ (s : State) (x : Exchange) (m : ModuleId) (r : BusReply) (cond : Nat) (c : CassetteId),
    s.polled x m r cond [.cassetteOut c]
      ∧ (s.module m).kind = .recycler
      ∧ (s.cassette c).out = true
      ∧ (s.cash.workQueue = [] ∨ s.cash.recycler ≠ .ready) :=
  ⟨polling (wall.mapCash fun k => { k with cassettes := k.cassettes.set 0 { stock 0 with out := true } }) 1, asked 1, 0,
      pollReply 1 [.cassetteOut 0], 1, 0, by decide +kernel⟩

theorem witness_CassettesAreAccountedAndExchanged_5 : ∃ (s : State) (x : Exchange) (m : ModuleId) (r : BusReply) (cond : Nat) (c : CassetteId),
    s.polled x m r cond [.cassetteOut c]
      ∧ (s.module m).kind = .recycler
      ∧ (∀ a ∈ s.cash.exchange, a.cassette ≠ c)
      ∧ (s.cassette c).out = false
      ∧ s.alarm.lockdown = false :=
  ⟨polling wall 1, asked 1, 0, pollReply 1 [.cassetteOut 0], 1, 0, by decide +kernel⟩

theorem witness_CassettesAreAccountedAndExchanged_6 : ∃ (s : State) (x : Exchange) (m : ModuleId) (r : BusReply) (cond : Nat) (c : CassetteId) (a : ExchangeAuth),
    s.polled x m r cond [.cassetteIn c]
      ∧ (s.module m).kind = .recycler
      ∧ s.cash.exchange = some a
      ∧ a.cassette = c
      ∧ s.cash.workQueue = [] :=
  ⟨polling (wall.mapCash fun k => { k with
              exchange := some ⟨0, due⟩
              cassettes := k.cassettes.set 0 { stock 0 with out := true, causes := { exchange := true } } }) 1, asked 1,
      0, pollReply 1 [.cassetteIn 0], 1, 0, ⟨0, due⟩, by decide +kernel⟩

theorem witness_CassettesAreAccountedAndExchanged_6b : ∃ (s : State) (x : Exchange) (m : ModuleId) (r : BusReply) (cond : Nat) (c : CassetteId) (a : ExchangeAuth),
    s.polled x m r cond [.cassetteIn c]
      ∧ (s.module m).kind = .recycler
      ∧ s.cash.exchange = some a
      ∧ a.cassette = c
      ∧ s.cash.workQueue = [] :=
  ⟨polling (wall.mapCash fun k => { k with exchange := some ⟨7, due⟩ }) 1, asked 1, 0, pollReply 1 [.cassetteIn 7], 1, 7,
      ⟨7, due⟩, by decide +kernel⟩

theorem witness_CassettesAreAccountedAndExchanged_7 : ∃ (s : State) (x : Exchange) (m : ModuleId) (r : BusReply) (cond : Nat) (c : CassetteId),
    s.polled x m r cond [.cassetteIn c]
      ∧ (s.module m).kind = .recycler
      ∧ (∀ a ∈ s.cash.exchange, a.cassette ≠ c)
      ∧ s.cash.workQueue = [] :=
  ⟨polling (wall.mapCash fun k => { k with cassettes := k.cassettes.set 0 { stock 0 with out := true } }) 1, asked 1, 0,
      pollReply 1 [.cassetteIn 0], 1, 0, by decide +kernel⟩

theorem witness_ManagementHalvesAreStored_1 : ∃ (s : State) (h : Sender) (cassette : Nat) (c : CassetteId),
    s.soundTables = true
      ∧ s.supervised h
      ∧ numbered 8 cassette = some c :=
  ⟨wall, h7, 8, 7, by decide +kernel⟩

theorem witness_ManagementHalvesAreStored_1b : ∃ (s : State) (h : Sender) (cassette : Nat) (c : CassetteId),
    s.soundTables = true
      ∧ s.supervised h
      ∧ numbered 8 cassette = some c :=
  ⟨awaiting .emptyDepository, h7, 1, 0, by decide +kernel⟩

theorem witness_ManagementHalvesAreStored_2 : ∃ (s : State) (h : Sender),
    s.soundTables = true
      ∧ s.supervised h :=
  ⟨wall, h7, by decide +kernel⟩

theorem witness_ManagementHalvesAreStored_3 : ∃ (s : State) (h : Sender),
    s.soundTables = true
      ∧ s.supervised h :=
  ⟨wall, h7, by decide +kernel⟩

theorem witness_ClearConditionClearsTheDuressLatch : ∃ (s : State) (h : Sender),
    s.supervised h
      ∧ s.alarm.duress = true
      ∧ (∀ i : LoopId, ¬((s.loop i).tripped = true ∧ ((s.loop i).kind = .holdup ∨ (s.loop i).applied .duress = true))) :=
  ⟨wall.setDuressLatch true, h7, by decide +kernel⟩

theorem witness_LoopOrdersMoveTheLoop_1 : ∃ (s : State) (h : Sender) (loop : Nat) (i : LoopId),
    s.soundTables = true
      ∧ s.supervised h
      ∧ numbered 16 loop = some i
      ∧ (s.loop i).kind ≠ .none
      ∧ (s.loop i).armMode = .onOrder
      ∧ (s.loop i).state = .disarmed :=
  ⟨watched { loopOf .general .disarmed with armMode := .onOrder }, h7, 1, 0, by decide +kernel⟩

theorem witness_LoopOrdersMoveTheLoop_2 : ∃ (s : State) (h : Sender) (loop : Nat) (i : LoopId),
    s.soundTables = true
      ∧ s.supervised h
      ∧ numbered 16 loop = some i
      ∧ (s.loop i).kind ≠ .none
      ∧ (s.loop i).armMode = .onOrder
      ∧ ((s.loop i).state = .arming ∨ (s.loop i).state = .watching ∨ (s.loop i).state = .qualifying) :=
  ⟨watched { loopOf .general .watching with armMode := .onOrder }, h7, 1, 0, by decide +kernel⟩

theorem witness_LoopOrdersMoveTheLoop_3 : ∃ (s : State) (h : Sender) (loop : Nat) (i : LoopId),
    s.supervised h
      ∧ numbered 16 loop = some i
      ∧ (s.loop i).state = .tripped
      ∧ (s.loop i).band = some .secure
      ∧ s.cash.workQueue = [] :=
  ⟨(watched { loopOf .general .tripped with trip := some ⟨.active, [.suspendCassettes], 0⟩ }).suspendFor 0, h7, 1, 0,
      by decide +kernel⟩

theorem witness_RestoreAndResumeBringModulesBack_1 : ∃ (s : State) (h : Sender) (node : Nat) (m : ModuleId),
    s.supervised h
      ∧ 1 ≤ node ∧ node ≤ 30
      ∧ s.nodeEntry node = some m
      ∧ (s.module m).health = .isolated
      ∧ (s.module m).check.faulted = false
      ∧ (∀ r ∈ s.bus.restores, r.node ≠ node)
      ∧ s.bus.outgoing.length < 48 :=
  ⟨wall.mapModule 2 fun e => { e with health := .isolated }, h7, 3, 2, by decide +kernel⟩

theorem witness_RestoreAndResumeBringModulesBack_2 : ∃ (s : State) (h : Sender),
    s.supervised h
      ∧ s.cash.recycler = .faulted
      ∧ s.healthOf s.recyclerEntry ≠ some .isolated
      ∧ s.cash.condition = .clear
      ∧ s.cash.workQueue = [] :=
  ⟨wall.mapCash fun k => { k with recycler := .faulted }, h7, by decide +kernel⟩

theorem witness_RestoreAndResumeBringModulesBack_3 : ∃ (s : State) (x : Exchange) (e : Restore) (r : BusReply),
    s.bus.outstanding = some x
      ∧ x.frame.content = .probe
      ∧ (s.bus.restores.find? fun y => y.node = x.frame.node) = some e
      ∧ x.window.past s.now = false
      ∧ replyAnswers r x
      ∧ r.cls = 4
      ∧ r.body ≠ .unreadable
      ∧ e.run < 7
      ∧ e.probes < 31
      ∧ s.bus.outgoing.length < 48 :=
  ⟨((wall.mapModule 2 fun e => { e with health := .isolated, orderErrors := 256 }).mapBus fun b => { b with
              outstanding := some ⟨⟨3, .probe, .bus, true⟩, false, ⟨999995#32, 10⟩, {}⟩
              restores := [⟨3, 6, 30, 9⟩] }), ⟨⟨3, .probe, .bus, true⟩, false, ⟨999995#32, 10⟩, {}⟩, ⟨3, 6, 30, 9⟩,
      ⟨true, 0, 3, 4, 0, .plain⟩, by decide +kernel⟩

theorem witness_RestoreAndResumeBringModulesBack_4 : ∃ (s : State) (x : Exchange) (e : Restore),
    s.bus.outstanding = some x
      ∧ x.frame.content = .probe
      ∧ (s.bus.restores.find? fun y => y.node = x.frame.node) = some e
      ∧ timerDue (some x.window) s.now = true
      ∧ e.probes < 31
      ∧ s.bus.outgoing.length < 48 :=
  ⟨((wall.mapModule 2 fun e => { e with health := .isolated, orderErrors := 256 }).mapBus fun b => { b with
              outstanding := some ⟨⟨3, .probe, .bus, true⟩, false, ⟨999995#32, 10⟩, {}⟩
              restores := [⟨3, 6, 30, 9⟩] }).mapMgmt fun m => { m with timeBase := 1000005#32 },
      ⟨⟨3, .probe, .bus, true⟩, false, ⟨999995#32, 10⟩, {}⟩, ⟨3, 6, 30, 9⟩, by decide +kernel⟩

theorem witness_RestoreAndResumeBringModulesBack_5 : ∃ (s : State) (x : Exchange) (e : Restore) (r : BusReply) (m : ModuleId),
    s.bus.outstanding = some x
      ∧ x.frame.content = .probe
      ∧ (s.bus.restores.find? fun y => y.node = x.frame.node) = some e
      ∧ x.window.past s.now = false
      ∧ replyAnswers r x
      ∧ r.cls = 4
      ∧ r.body ≠ .unreadable
      ∧ 7 ≤ e.run
      ∧ s.nodeEntry x.frame.node = some m
      ∧ (s.module m).check.faulted = false
      ∧ (s.module m).health = .isolated
      ∧ s.cash.workQueue = []
      ∧ s.tube.requests = [] :=
  ⟨((wall.mapModule 2 fun e => { e with health := .isolated, orderErrors := 256 }).mapBus fun b => { b with
              outstanding := some ⟨⟨3, .probe, .bus, true⟩, false, ⟨999995#32, 10⟩, {}⟩
              restores := [⟨3, 7, 31, 9⟩] }), ⟨⟨3, .probe, .bus, true⟩, false, ⟨999995#32, 10⟩, {}⟩, ⟨3, 7, 31, 9⟩,
      ⟨true, 0, 3, 4, 0, .plain⟩, 2, by decide +kernel⟩

theorem witness_RestoreAndResumeBringModulesBack_6 : ∃ (s : State) (x : Exchange) (e : Restore) (r : BusReply) (m : ModuleId),
    s.bus.outstanding = some x
      ∧ x.frame.content = .probe
      ∧ (s.bus.restores.find? fun y => y.node = x.frame.node) = some e
      ∧ x.window.past s.now = false
      ∧ replyAnswers r x
      ∧ r.cls = 4
      ∧ r.body ≠ .unreadable
      ∧ 7 ≤ e.run
      ∧ s.nodeEntry x.frame.node = some m
      ∧ (s.module m).check.faulted = true :=
  ⟨((wall.mapModule 2 fun e => { e with health := .isolated, check := { faulted := true } }).mapBus fun b =>
            { b with
              outstanding := some ⟨⟨3, .probe, .bus, true⟩, false, ⟨999995#32, 10⟩, {}⟩
              restores := [⟨3, 7, 20, 9⟩] }), ⟨⟨3, .probe, .bus, true⟩, false, ⟨999995#32, 10⟩, {}⟩, ⟨3, 7, 20, 9⟩,
      ⟨true, 0, 3, 4, 0, .plain⟩, 2, by decide +kernel⟩

theorem witness_RestoreAndResumeBringModulesBack_7 : ∃ (s : State) (x : Exchange) (e : Restore),
    s.bus.outstanding = some x
      ∧ x.frame.content = .probe
      ∧ (s.bus.restores.find? fun y => y.node = x.frame.node) = some e
      ∧ timerDue (some x.window) s.now = true
      ∧ 31 ≤ e.probes :=
  ⟨((wall.mapModule 2 fun e => { e with health := .isolated, orderErrors := 256 }).mapBus fun b => { b with
              outstanding := some ⟨⟨3, .probe, .bus, true⟩, false, ⟨999995#32, 10⟩, {}⟩
              restores := [⟨3, 6, 31, 9⟩] }).mapMgmt fun m => { m with timeBase := 1000005#32 },
      ⟨⟨3, .probe, .bus, true⟩, false, ⟨999995#32, 10⟩, {}⟩, ⟨3, 6, 31, 9⟩, by decide +kernel⟩

theorem witness_MovementsEndLostOrAtATerminal_1 : ∃ (s : State) (h : Sender) (lane : Nat) (l : Lane),
    s.soundTables = true
      ∧ s.supervised h
      ∧ numbered 6 lane = some l
      ∧ (s.carrier l).moving = true
      ∧ (s.carrier l).timer = none
      ∧ s.tube.requests = []
      ∧ s.bus.outgoing.length < 48 :=
  ⟨(wall.mapCarrier 0 fun c => { c with location := .outbound, seated := false }).mapTube fun t =>
        { t with blower := .moving 0 }, h7, 1, 0, by decide +kernel⟩

theorem witness_MovementsEndLostOrAtATerminal_2 : ∃ (s : State) (l : Lane),
    s.soundTables = true
      ∧ (s.carrier l).moving = true
      ∧ timerDue (s.carrier l).timer s.now = true
      ∧ s.tube.requests = []
      ∧ s.bus.outgoing.length < 48 :=
  ⟨(wall.mapCarrier 0 fun c => { c with location := .inbound, seated := false, timer := some due }).mapTube fun t =>
        { t with blower := .moving 0 }, 0, by decide +kernel⟩

theorem witness_MovementsEndLostOrAtATerminal_3 : ∃ (s : State) (x : Exchange) (m : ModuleId) (r : BusReply) (cond : Nat) (l : Lane) (e : TubeEnd),
    s.soundTables = true
      ∧ s.polled x m r cond [.arrived l]
      ∧ s.reportsEnd m l e
      ∧ (s.carrier l).moving = true
      ∧ (e = .teller → (s.carrier l).bound = none)
      ∧ s.tube.requests = [] :=
  ⟨polling ((wall.mapCarrier 0 fun c => { c with location := .outbound, seated := false, bound := some 7 }).mapTube fun t
            => { t with blower := .moving 0 }) 3, asked 3, 2, pollReply 3 [.arrived 0], 1, 0, .lane, by decide +kernel⟩

theorem witness_MovementsEndLostOrAtATerminal_3b : ∃ (s : State) (x : Exchange) (m : ModuleId) (r : BusReply) (cond : Nat) (l : Lane) (e : TubeEnd),
    s.soundTables = true
      ∧ s.polled x m r cond [.arrived l]
      ∧ s.reportsEnd m l e
      ∧ (s.carrier l).moving = true
      ∧ (e = .teller → (s.carrier l).bound = none)
      ∧ s.tube.requests = [] :=
  ⟨polling ((wall.mapCarrier 0 fun c => { c with location := .outbound, seated := false }).mapTube fun t =>
            { t with blower := .moving 0 }) 2, asked 2, 1, pollReply 2 [.arrived 0], 1, 0, .teller, by decide +kernel⟩

theorem witness_MovementsEndLostOrAtATerminal_4 : ∃ (s : State) (x : Exchange) (m : ModuleId) (r : BusReply) (cond : Nat) (l : Lane) (e : TubeEnd),
    s.polled x m r cond [.carrierSeated l]
      ∧ s.reportsEnd m l e
      ∧ (s.carrier l).location = e.place
      ∧ s.tube.requests = [] :=
  ⟨polling (wall.mapCarrier 0 fun c => { c with seated := false }) 2, asked 2, 1, pollReply 2 [.carrierSeated 0], 1, 0,
      .teller, by decide +kernel⟩

theorem witness_MovementsEndLostOrAtATerminal_5 : ∃ (s : State) (x : Exchange) (m : ModuleId) (r : BusReply) (cond : Nat) (l : Lane) (e : TubeEnd),
    s.polled x m r cond [.carrierLifted l]
      ∧ s.reportsEnd m l e
      ∧ (s.carrier l).location = e.place
      ∧ (e = .lane → (s.carrier l).bound = none)
      ∧ s.tube.requests = [] :=
  ⟨polling (wall.mapCarrier 0 fun c => { c with location := .lane }) 3, asked 3, 2, pollReply 3 [.carrierLifted 0], 1, 0,
      .lane, by decide +kernel⟩

theorem witness_MovementsEndLostOrAtATerminal_6 : ∃ (s : State) (x : Exchange) (m : ModuleId) (r : BusReply) (cond : Nat) (l : Lane) (id : Nat) (i : DispenseSlot) (p : DispenseRecord),
    s.polled x m r cond [.carrierLifted l]
      ∧ s.reportsEnd m l .lane
      ∧ (s.carrier l).location = .lane
      ∧ (s.carrier l).bound = some id
      ∧ s.dispenseOf id = some i
      ∧ s.dispense.records[i] = some p
      ∧ p.state = .inTransit
      ∧ p.lane = l
      ∧ p.decided = none
      ∧ s.tube.requests = [] :=
  ⟨polling ((paying (paid .inTransit)).mapCarrier 0 fun c => { c with location := .lane, bound := some 7 }) 3, asked 3, 2,
      pollReply 3 [.carrierLifted 0], 1, 0, 7, 0, paid .inTransit, by decide +kernel⟩

theorem witness_StatusAndJournalAreRead_1 : ∃ (s : State) (h : Sender),
    s.soundTables = true
      ∧ s.supervised h :=
  ⟨wall.raiseNodeWatch, h7, by decide +kernel⟩

theorem witness_StatusAndJournalAreRead_1b : ∃ (s : State) (h : Sender),
    s.soundTables = true
      ∧ s.supervised h :=
  ⟨wall, h7, by decide +kernel⟩

theorem witness_StatusAndJournalAreRead_2 : ∃ (s : State) (h : Sender) (start : Nat) (before : List JournalRecord) (rest : List JournalRecord) (r : JournalRecord),
    s.supervised h
      ∧ s.journal.ring = before ++ r :: rest
      ∧ (∀ x ∈ before, x.seq ≠ start)
      ∧ r.seq = start :=
  ⟨wall.record { kind := .reset }, h7, 1, [], [], ⟨1, 1000000#32, { kind := .reset }⟩, by decide +kernel⟩

theorem witness_StatusAndJournalAreRead_3 : ∃ (s : State) (h : Sender) (start : Nat),
    s.supervised h
      ∧ (∀ x ∈ s.journal.ring, x.seq ≠ start) :=
  ⟨wall.record { kind := .reset }, h7, 0, by decide +kernel⟩

theorem witness_StatusAndJournalAreRead_4 : ∃ (s : State) (h : Sender) (seq : Nat) (before : List JournalRecord) (rest : List JournalRecord) (r : JournalRecord),
    s.supervised h
      ∧ s.journal.ring = before ++ r :: rest
      ∧ (∀ x ∈ before, x.seq ≠ seq)
      ∧ r.seq = seq :=
  ⟨wall.record { kind := .reset }, h7, 1, [], [], ⟨1, 1000000#32, { kind := .reset }⟩, by decide +kernel⟩

theorem witness_StatusAndJournalAreRead_5 : ∃ (s : State) (h : Sender) (seq : Nat) (r : JournalRecord) (rest : List JournalRecord),
    s.supervised h
      ∧ s.journal.ring = r :: rest
      ∧ (∀ x ∈ s.journal.ring, x.seq ≠ seq)
      ∧ r.seq ≤ 4294967295
      ∧ ((seq : Int) - r.seq) % 4294967295 < 2147483648 :=
  ⟨wall.record { kind := .reset }, h7, 2, ⟨1, 1000000#32, { kind := .reset }⟩, [], by decide +kernel⟩

theorem witness_StatusAndJournalAreRead_5b : ∃ (s : State) (h : Sender) (seq : Nat) (r : JournalRecord) (rest : List JournalRecord),
    s.supervised h
      ∧ s.journal.ring = r :: rest
      ∧ (∀ x ∈ s.journal.ring, x.seq ≠ seq)
      ∧ r.seq ≤ 4294967295
      ∧ ((seq : Int) - r.seq) % 4294967295 < 2147483648 :=
  ⟨wall.record { kind := .reset }, h7, 2147483648, ⟨1, 1000000#32, { kind := .reset }⟩, [], by decide +kernel⟩

theorem witness_StatusAndJournalAreRead_6 : ∃ (s : State) (h : Sender) (seq : Nat) (r : JournalRecord) (rest : List JournalRecord),
    s.supervised h
      ∧ s.journal.ring = r :: rest
      ∧ (∀ x ∈ s.journal.ring, x.seq ≠ seq)
      ∧ r.seq ≤ 4294967295
      ∧ 2147483648 ≤ ((seq : Int) - r.seq) % 4294967295 :=
  ⟨wall.record { kind := .reset }, h7, 2147483649, ⟨1, 1000000#32, { kind := .reset }⟩, [], by decide +kernel⟩

theorem witness_StatusAndJournalAreRead_6b : ∃ (s : State) (h : Sender) (seq : Nat) (r : JournalRecord) (rest : List JournalRecord),
    s.supervised h
      ∧ s.journal.ring = r :: rest
      ∧ (∀ x ∈ s.journal.ring, x.seq ≠ seq)
      ∧ r.seq ≤ 4294967295
      ∧ 2147483648 ≤ ((seq : Int) - r.seq) % 4294967295 :=
  ⟨(wall.mapJournal fun j => { j with nextSeq := 5 }).record { kind := .reset }, h7, 4,
      ⟨5, 1000000#32, { kind := .reset }⟩, [], by decide +kernel⟩

theorem witness_StatusAndJournalAreRead_7 : ∃ (s : State) (h : Sender),
    s.supervised h
      ∧ s.journal.ring = [] :=
  ⟨wall, h7, by decide +kernel⟩

theorem witness_GoServiceAndSuspend_1 : ∃ (s : State) (h : Sender) (m : ModuleId),
    s.soundTables = true
      ∧ s.supervised h
      ∧ s.mgmt.partState ≠ .inService
      ∧ s.mgmt.goPending = false
      ∧ (∃ i : DenomId, 0 < (s.cash.denominations[i]).value)
      ∧ s.recyclerEntry = some m
      ∧ (s.module m).health ≠ .isolated
      ∧ s.entryReachable s.blowerEntry = true
      ∧ workCassettes.any s.servesCash = true
      ∧ (∀ l : Lane, (s.policy l).isOpen = true → (s.stationEntry l).isSome = true)
      ∧ s.bus.outgoing.length < 48 :=
  ⟨wall.mapMgmt fun m => { m with partState := .unconfigured }, h7, 0, by decide +kernel⟩

theorem witness_GoServiceAndSuspend_2 : ∃ (s : State) (h : Sender),
    s.supervised h
      ∧ s.mgmt.partState ≠ .suspended :=
  ⟨wall, h7, by decide +kernel⟩

theorem witness_GoServiceAndSuspend_3 : ∃ (s : State) (h : Sender),
    s.supervised h
      ∧ s.mgmt.partState = .suspended :=
  ⟨wall.mapMgmt fun m => { m with partState := .suspended, goPending := true }, h7, by decide +kernel⟩

theorem witness_GoServiceAndSuspend_4 : ∃ (s : State) (x : Exchange) (m : ModuleId) (vs : List Nat) (r : BusReply),
    s.awaits x m
      ∧ x.frame.content = .order (.denominations vs)
      ∧ x.frame.live = true
      ∧ s.mgmt.goPending = true
      ∧ x.window.past s.now = false
      ∧ acknowledges r x (.denominations vs)
      ∧ s.cash.workQueue = [] :=
  ⟨(wall.mapBus fun b => { b with
              outstanding := some
                ⟨⟨1, .order (.denominations [20, 5]), .management, true⟩, false, ⟨999995#32, 10⟩, {}⟩ }).mapMgmt fun m =>
        { m with partState := .suspended, goPending := true, timeBase := 1000000#32 },
      ⟨⟨1, .order (.denominations [20, 5]), .management, true⟩, false, ⟨999995#32, 10⟩, {}⟩, 0, [20, 5],
      ⟨true, 0, 1, 4, 14, .plain⟩, by decide +kernel⟩

theorem witness_GoServiceAndSuspend_4b : ∃ (s : State) (x : Exchange) (m : ModuleId) (vs : List Nat) (r : BusReply),
    s.awaits x m
      ∧ x.frame.content = .order (.denominations vs)
      ∧ x.frame.live = true
      ∧ s.mgmt.goPending = true
      ∧ x.window.past s.now = false
      ∧ acknowledges r x (.denominations vs)
      ∧ s.cash.workQueue = [] :=
  ⟨(wall.mapBus fun b => { b with
              outstanding := some
                ⟨⟨1, .order (.denominations [20, 5]), .management, true⟩, true, ⟨999995#32, 10⟩, {}⟩ }).mapMgmt fun m =>
        { m with partState := .suspended, goPending := true, timeBase := 1000000#32 },
      ⟨⟨1, .order (.denominations [20, 5]), .management, true⟩, true, ⟨999995#32, 10⟩, {}⟩, 0, [20, 5],
      ⟨true, 0, 1, 4, 14, .plain⟩, by decide +kernel⟩

theorem witness_GoServiceAndSuspend_5 : ∃ (s : State) (x : Exchange) (m : ModuleId) (vs : List Nat) (r : BusReply) (reason : Nat),
    s.awaits x m
      ∧ x.frame.content = .order (.denominations vs)
      ∧ x.frame.live = true
      ∧ s.mgmt.goPending = true
      ∧ x.window.past s.now = false
      ∧ replyAnswers r x
      ∧ r.cls = 7
      ∧ r.kind = BusOrder.number (.denominations vs)
      ∧ r.body = .refusal reason :=
  ⟨(wall.mapBus fun b => { b with
              outstanding := some
                ⟨⟨1, .order (.denominations [20, 5]), .management, true⟩, false, ⟨999995#32, 10⟩, {}⟩ }).mapMgmt fun m =>
        { m with partState := .suspended, goPending := true, timeBase := 1000000#32 },
      ⟨⟨1, .order (.denominations [20, 5]), .management, true⟩, false, ⟨999995#32, 10⟩, {}⟩, 0, [20, 5],
      ⟨true, 0, 1, 7, 14, .refusal 9⟩, 9, by decide +kernel⟩

theorem witness_GoServiceAndSuspend_6 : ∃ (s : State) (x : Exchange) (m : ModuleId) (vs : List Nat),
    s.awaits x m
      ∧ x.frame.content = .order (.denominations vs)
      ∧ x.frame.live = true
      ∧ s.mgmt.goPending = true
      ∧ timerDue (some x.window) s.now = true
      ∧ x.isResend = true
      ∧ (s.module m).orderErrors + 8 < 96 :=
  ⟨(wall.mapBus fun b => { b with
              outstanding := some
                ⟨⟨1, .order (.denominations [20, 5]), .management, true⟩, true, ⟨999995#32, 10⟩, {}⟩ }).mapMgmt fun m =>
        { m with partState := .suspended, goPending := true, timeBase := 1000005#32 },
      ⟨⟨1, .order (.denominations [20, 5]), .management, true⟩, true, ⟨999995#32, 10⟩, {}⟩, 0, [20, 5], by decide +kernel⟩

theorem witness_GoServiceAndSuspend_7 : ∃ (s : State) (x : Exchange) (m : ModuleId) (vs : List Nat) (r : BusReply),
    s.awaits x m
      ∧ x.frame.content = .order (.denominations vs)
      ∧ x.frame.live = true
      ∧ s.mgmt.goPending = true
      ∧ x.window.past s.now = false
      ∧ damages r x
      ∧ x.isResend = true
      ∧ (s.module m).replyErrors + 1 < 96 :=
  ⟨(wall.mapBus fun b => { b with
              outstanding := some
                ⟨⟨1, .order (.denominations [20, 5]), .management, true⟩, true, ⟨999995#32, 10⟩, {}⟩ }).mapMgmt fun m =>
        { m with partState := .suspended, goPending := true, timeBase := 1000000#32 },
      ⟨⟨1, .order (.denominations [20, 5]), .management, true⟩, true, ⟨999995#32, 10⟩, {}⟩, 0, [20, 5],
      ⟨false, 0, 1, 4, 14, .plain⟩, by decide +kernel⟩

theorem witness_GoServiceAndSuspend_8 : ∃ (s : State) (x : Exchange) (m : ModuleId),
    s.bus.outstanding = some x
      ∧ x.frame.content = .poll
      ∧ s.nodeEntry x.frame.node = some m
      ∧ (s.module m).health ≠ .isolated
      ∧ timerDue (some x.window) s.now = true
      ∧ (s.module m).orderErrors < 256
      ∧ 256 ≤ (s.module m).orderErrors + 8
      ∧ (s.module m).kind = .recycler
      ∧ s.mgmt.goPending = true
      ∧ s.bus.outgoing.any (fun f => f.node == x.frame.node && f.content.isDenominations && f.live) = true
      ∧ s.dispenses = []
      ∧ s.sessions = []
      ∧ s.cash.workQueue = [] :=
  ⟨(wall.mapModule 0 fun e => { e with orderErrors := 250, health := .restricted }).mapBus (fun b => { b with
              outstanding := some ⟨⟨1, .poll, .bus, true⟩, false, ⟨999995#32, 10⟩, {}⟩
              outgoing := [⟨1, .order (.denominations [20]), .management, true⟩] }) |>.mapMgmt fun m =>
        { m with partState := .suspended, goPending := true, timeBase := 1000005#32 },
      ⟨⟨1, .poll, .bus, true⟩, false, ⟨999995#32, 10⟩, {}⟩, 0, by decide +kernel⟩

theorem witness_GoServiceAndSuspend_9 : ∃ (s : State) (h : Sender),
    s.supervised h :=
  ⟨wall.mapMgmt fun m => { m with partState := .unconfigured, goPending := true }, h7, by decide +kernel⟩

theorem witness_RestartResolvesEverything_1 : ∃ (s : State) (h : Sender),
    s.supervised h :=
  ⟨(paying (paid .presented)).setDuressLatch true, h7, by decide +kernel⟩

theorem witness_RestartResolvesEverything_2 : ∃ (s : State) (h : Sender),
    s.supervised h :=
  ⟨wall.raiseNodeWatch, h7, by decide +kernel⟩

theorem witness_RestartResolvesEverything_2b : ∃ (s : State) (h : Sender),
    s.supervised h :=
  ⟨(wall.mapJournal fun j => { j with reserved := 512 }).raiseOverrun, h7, by decide +kernel⟩

theorem witness_RestartResolvesEverything_3 : ∃ (s : State) (h : Sender),
    s.supervised h :=
  ⟨(wall.mapTube fun t => { t with blower := .moving 3 }).mapCarrier 3 fun c =>
        { c with location := .outbound, seated := false }, h7, by decide +kernel⟩

theorem witness_RestartResolvesEverything_4 : ∃ (s : State) (h : Sender),
    s.supervised h :=
  ⟨paying (paid .presented), h7, by decide +kernel⟩

theorem witness_ExpiriesNotDueChangeNothing_1 : ∃ (s : State) (l : Lane),
    (s.screen.pairSlots[l]).all (fun p => !timerDue (some p.timer) s.now) = true :=
  ⟨wall.setPair 0 (some half), 0, by decide +kernel⟩

theorem witness_ExpiriesNotDueChangeNothing_2 : ∃ (s : State),
    s.screen.managementSlot.all (fun p => !timerDue (some p.timer) s.now) = true :=
  ⟨awaiting .clearLockdown, by decide +kernel⟩

theorem witness_ExpiriesNotDueChangeNothing_3 : ∃ (s : State) (id : Nat),
    s.dueDispense id .picking DispenseRecord.reportTimer = none :=
  ⟨paying (paid .picking), 7, by decide +kernel⟩

theorem witness_ExpiriesNotDueChangeNothing_4 : ∃ (s : State) (id : Nat),
    s.dueDispense id .presented DispenseRecord.reportTimer = none :=
  ⟨paying (paid .presented), 7, by decide +kernel⟩

theorem witness_ExpiriesNotDueChangeNothing_5 : ∃ (s : State) (id : Nat),
    s.dueDispense id .presented DispenseRecord.presentTimer = none :=
  ⟨paying (paid .presented), 7, by decide +kernel⟩

theorem witness_ExpiriesNotDueChangeNothing_6 : ∃ (s : State),
    timerDue (s.cash.exchange.map ExchangeAuth.expiry) s.now = false :=
  ⟨wall.mapCash fun k => { k with exchange := some ⟨0, ⟨1000000#32, 300000⟩⟩ }, by decide +kernel⟩

theorem witness_ExpiriesNotDueChangeNothing_7 : ∃ (s : State) (l : Lane),
    (s.session l).all (fun x => x.state != .active || !timerDue x.idleTimer s.now) = true :=
  ⟨banking (accepting .active), 0, by decide +kernel⟩

theorem witness_ExpiriesNotDueChangeNothing_8 : ∃ (s : State) (l : Lane),
    (s.session l).all (fun x => x.state != .ending || !timerDue x.endTimer s.now) = true :=
  ⟨banking (accepting .active), 0, by decide +kernel⟩

theorem witness_ExpiriesNotDueChangeNothing_9 : ∃ (s : State) (l : Lane),
    (s.capture l).all (fun c => !timerDue (some c.timer) s.now) = true :=
  ⟨wall, 0, by decide +kernel⟩

theorem witness_ExpiriesNotDueChangeNothing_10 : ∃ (s : State),
    (match s.envelope.safe with | some (.waiting tm) => timerDue (some tm) s.now | _ => false) = false :=
  ⟨wall.mapEnvelope fun e => { e with safe := some (.waiting ⟨999000#32, 300000⟩) }, by decide +kernel⟩

theorem witness_ExpiriesNotDueChangeNothing_11 : ∃ (s : State),
    (match s.tube.blower with | .resting tm => timerDue (some tm) s.now | _ => false) = false :=
  ⟨wall.mapTube fun t => { t with blower := .resting ⟨999990#32, 300⟩ }, by decide +kernel⟩

theorem witness_ExpiriesNotDueChangeNothing_12 : ∃ (s : State) (l : Lane),
    (s.carrier l).moving = false ∨ timerDue (s.carrier l).timer s.now = false :=
  ⟨wall, 0, by decide +kernel⟩

theorem witness_ExpiriesNotDueChangeNothing_13 : ∃ (s : State) (i : LoopId),
    (s.loop i).state ≠ .arming ∨ timerDue (s.loop i).armTimer s.now = false :=
  ⟨wall, 0, by decide +kernel⟩

theorem witness_ExpiriesNotDueChangeNothing_14 : ∃ (s : State) (i : LoopId),
    (s.loop i).state ≠ .qualifying ∨ timerDue (s.loop i).qualifyTimer s.now = false :=
  ⟨wall, 0, by decide +kernel⟩

theorem witness_ExpiriesNotDueChangeNothing_15 : ∃ (s : State),
    timerDue (s.bus.outstanding.map Exchange.window) s.now = false :=
  ⟨asking ⟨1, .poll, .bus, true⟩, by decide +kernel⟩

theorem witness_PairHalvesExpire_1 : ∃ (s : State) (l : Lane) (p : PairHalf),
    s.screen.pairSlots[l] = some p
      ∧ 1000 * p.window ≤ age s.now p.arrival :=
  ⟨(wall.setPair 0 (some half)).mapMgmt fun m => { m with timeBase := 1010000#32 }, 0, half, by decide +kernel⟩

theorem witness_PairHalvesExpire_2 : ∃ (s : State) (p : MgmtHalf),
    s.screen.managementSlot = some p
      ∧ 1000 * p.window ≤ age s.now p.arrival :=
  ⟨(awaiting .emptyDepository).mapMgmt fun m => { m with timeBase := 1010000#32 }, halfOf .emptyDepository,
      by decide +kernel⟩

theorem witness_DispenseTimersAndQueriesMoveTheDispense_1 : ∃ (s : State) (id : Nat) (i : DispenseSlot) (r : DispenseRecord) (m : ModuleId),
    s.dueDispense id .presented DispenseRecord.presentTimer = some i
      ∧ s.dispense.records[i] = some r
      ∧ s.recyclerEntry = some m
      ∧ s.bus.outgoing.length < 48 :=
  ⟨paying { paid .presented with presentTimer := some due }, 7, 0, { paid .presented with presentTimer := some due }, 0,
      by decide +kernel⟩

theorem witness_DispenseTimersAndQueriesMoveTheDispense_2 : ∃ (s : State) (id : Nat) (i : DispenseSlot) (r : DispenseRecord) (m : ModuleId),
    s.dueDispense id .picking DispenseRecord.reportTimer = some i
      ∧ s.dispense.records[i] = some r
      ∧ r.recovery = .notUnderWay
      ∧ r.queryCount < 3
      ∧ s.recyclerEntry = some m
      ∧ s.bus.outgoing.length < 48
      ∧ s.cash.recycler = .busy :=
  ⟨(paying { paid .picking with reportTimer := some due }).mapCash fun k => { k with recycler := .busy }, 7, 0,
      { paid .picking with reportTimer := some due }, 0, by decide +kernel⟩

theorem witness_DispenseTimersAndQueriesMoveTheDispense_3 : ∃ (s : State) (id : Nat) (i : DispenseSlot) (r : DispenseRecord) (m : ModuleId),
    s.dueDispense id .picking DispenseRecord.reportTimer = some i
      ∧ s.dispense.records[i] = some r
      ∧ r.recovery = .waiting
      ∧ r.queryCount < 3
      ∧ s.recyclerEntry = some m
      ∧ s.bus.outgoing.length < 48
      ∧ s.cash.recycler = .busy :=
  ⟨(paying { paid .picking with reportTimer := some due, recovery := .waiting, queryCount := 1 }).mapCash fun k =>
        { k with recycler := .busy }, 7, 0,
      { paid .picking with reportTimer := some due, recovery := .waiting, queryCount := 1 }, 0, by decide +kernel⟩

theorem witness_DispenseTimersAndQueriesMoveTheDispense_4 : ∃ (s : State) (id : Nat) (i : DispenseSlot) (r : DispenseRecord),
    s.dueDispense id .picking DispenseRecord.reportTimer = some i
      ∧ s.dispense.records[i] = some r
      ∧ r.recovery = .waiting
      ∧ 3 ≤ r.queryCount
      ∧ s.bus.outgoing.length < 48 :=
  ⟨(paying { paid .picking with reportTimer := some due, recovery := .waiting, queryCount := 3 }).mapCash fun k =>
        { k with recycler := .busy, workQueue := [⟨.pick 7 [⟨0, 2⟩] false, true⟩] }, 7, 0,
      { paid .picking with reportTimer := some due, recovery := .waiting, queryCount := 3 }, by decide +kernel⟩

theorem witness_DispenseTimersAndQueriesMoveTheDispense_5 : ∃ (s : State) (id : Nat) (i : DispenseSlot) (r : DispenseRecord),
    s.dueDispense id .presented DispenseRecord.reportTimer = some i
      ∧ s.dispense.records[i] = some r
      ∧ (∀ e ∈ s.cash.workQueue, e.isPickOf r.id = false)
      ∧ s.bus.outgoing.length < 48 :=
  ⟨(paying { paid .presented with reportTimer := some due }).mapCash fun k =>
        { k with workQueue := [{ work := .accept 3 }] }, 7, 0, { paid .presented with reportTimer := some due },
      by decide +kernel⟩

theorem witness_DispenseTimersAndQueriesMoveTheDispense_6 : ∃ (s : State) (id : Nat) (i : DispenseSlot) (r : DispenseRecord),
    s.dueDispense id .presented DispenseRecord.reportTimer = some i
      ∧ s.dispense.records[i] = some r
      ∧ s.cash.workQueue = [] :=
  ⟨paying { paid .presented with reportTimer := some due }, 7, 0, { paid .presented with reportTimer := some due },
      by decide +kernel⟩

theorem witness_DispenseTimersAndQueriesMoveTheDispense_7 : ∃ (s : State) (x : Exchange) (m : ModuleId) (r : BusReply) (i : DispenseSlot) (p : DispenseRecord) (tag : Nat) (reason : Nat),
    s.awaits x m
      ∧ x.frame.content = .order (.retract tag)
      ∧ x.window.past s.now = false
      ∧ replyAnswers r x
      ∧ r.cls = 7
      ∧ r.kind = 2
      ∧ r.body = .refusal reason
      ∧ s.findDispense (fun q => q.state == .presented && q.trayTag == tag && q.flags.retractOrdered) = some i
      ∧ s.dispense.records[i] = some p
      ∧ s.cash.workQueue = [] :=
  ⟨(paying { paid .presented with flags := { retractOrdered := true }, reportTimer := some ⟨999000#32, 30000⟩ }).mapBus
        (fun b => { b with outstanding := some ⟨⟨1, .order (.retract 3), .dispense, true⟩, false, ⟨999995#32, 10⟩, {}⟩ }),
      ⟨⟨1, .order (.retract 3), .dispense, true⟩, false, ⟨999995#32, 10⟩, {}⟩, 0, ⟨true, 0, 1, 7, 2, .refusal 5⟩, 0,
      { paid .presented with flags := { retractOrdered := true }, reportTimer := some ⟨999000#32, 30000⟩ }, 3, 5,
      by decide +kernel⟩

theorem witness_DispenseTimersAndQueriesMoveTheDispense_8 : ∃ (s : State) (x : Exchange) (m : ModuleId) (r : BusReply) (i : DispenseSlot) (p : DispenseRecord) (tag : Nat) (status : Nat) (n : Nat) (q : Nat) (c : Fin 6) (k : CassetteId),
    s.queries x m i p tag
      ∧ answersQuery r x 1 (some ⟨tag, status, [⟨numberOf c, n, q⟩]⟩)
      ∧ (status = 1 ∨ status = 2)
      ∧ s.takesPick i p tag c k n q
      ∧ s.worthAfter p c n = p.amount
      ∧ s.alarm.lockdown = false :=
  ⟨((paying { paid .picking with recovery := .querying, queryCount := 1 }).mapCash fun k =>
            { k with recycler := .busy, workQueue := [⟨.pick 7 [⟨0, 2⟩] false, true⟩] }).mapBus (fun b =>
            { b with outstanding := some ⟨⟨1, .order (.statusQuery 3), .dispense, true⟩, false, ⟨999995#32, 10⟩, {}⟩ }),
      ⟨⟨1, .order (.statusQuery 3), .dispense, true⟩, false, ⟨999995#32, 10⟩, {}⟩, 0,
      ⟨true, 0, 1, 5, 3, .answer 1 (some ⟨3, 1, [⟨1, 2, 0⟩]⟩)⟩, 0,
      { paid .picking with recovery := .querying, queryCount := 1 }, 3, 1, 2, 0, 0, 0, by decide +kernel⟩

theorem witness_DispenseTimersAndQueriesMoveTheDispense_9 : ∃ (s : State) (x : Exchange) (m : ModuleId) (r : BusReply) (i : DispenseSlot) (p : DispenseRecord) (tag : Nat),
    s.queries x m i p tag
      ∧ answersQuery r x 2 none :=
  ⟨((paying { paid .picking with recovery := .querying, queryCount := 1 }).mapCash fun k =>
            { k with recycler := .busy, workQueue := [⟨.pick 7 [⟨0, 2⟩] false, true⟩] }).mapBus (fun b =>
            { b with outstanding := some ⟨⟨1, .order (.statusQuery 3), .dispense, true⟩, false, ⟨999995#32, 10⟩, {}⟩ }),
      ⟨⟨1, .order (.statusQuery 3), .dispense, true⟩, false, ⟨999995#32, 10⟩, {}⟩, 0, ⟨true, 0, 1, 5, 3, .answer 2 none⟩,
      0, { paid .picking with recovery := .querying, queryCount := 1 }, 3, by decide +kernel⟩

theorem witness_DispenseTimersAndQueriesMoveTheDispense_10 : ∃ (s : State) (x : Exchange) (m : ModuleId) (r : BusReply) (i : DispenseSlot) (p : DispenseRecord) (tag : Nat),
    s.queries x m i p tag
      ∧ answersQuery r x 3 none
      ∧ p.reissued = false
      ∧ s.cassettesAllow p.currentPlan = true
      ∧ s.recyclerEntry = some m
      ∧ s.bus.outgoing.length < 48
      ∧ s.cash.recycler = .busy :=
  ⟨((paying { paid .picking with recovery := .querying, queryCount := 1 }).mapCash fun k =>
            { k with recycler := .busy, workQueue := [⟨.pick 7 [⟨0, 2⟩] false, true⟩] }).mapBus (fun b =>
            { b with outstanding := some ⟨⟨1, .order (.statusQuery 3), .dispense, true⟩, false, ⟨999995#32, 10⟩, {}⟩ }),
      ⟨⟨1, .order (.statusQuery 3), .dispense, true⟩, false, ⟨999995#32, 10⟩, {}⟩, 0, ⟨true, 0, 1, 5, 3, .answer 3 none⟩,
      0, { paid .picking with recovery := .querying, queryCount := 1 }, 3, by decide +kernel⟩

theorem witness_DispenseTimersAndQueriesMoveTheDispense_11 : ∃ (s : State) (x : Exchange) (m : ModuleId) (r : BusReply) (i : DispenseSlot) (p : DispenseRecord) (tag : Nat),
    s.queries x m i p tag
      ∧ answersQuery r x 3 none
      ∧ p.reissued = false
      ∧ p.topUp = none
      ∧ s.cassettesAllow p.plan = false
      ∧ s.runsOnly p.id
      ∧ (∀ e ∈ s.cash.workQueue, e.work = .pick p.id p.plan false) :=
  ⟨((paying { paid .picking with recovery := .querying, queryCount := 1 }).mapCash fun k => { k with
              recycler := .busy
              workQueue := [⟨.pick 7 [⟨0, 2⟩] false, true⟩]
              cassettes := k.cassettes.set 0 { stock 0 with unreconciled := true } }).mapBus (fun b =>
            { b with outstanding := some ⟨⟨1, .order (.statusQuery 3), .dispense, true⟩, false, ⟨999995#32, 10⟩, {}⟩ }),
      ⟨⟨1, .order (.statusQuery 3), .dispense, true⟩, false, ⟨999995#32, 10⟩, {}⟩, 0, ⟨true, 0, 1, 5, 3, .answer 3 none⟩,
      0, { paid .picking with recovery := .querying, queryCount := 1 }, 3, by decide +kernel⟩

theorem witness_DispenseTimersAndQueriesMoveTheDispense_12 : ∃ (s : State) (x : Exchange) (m : ModuleId) (r : BusReply) (i : DispenseSlot) (p : DispenseRecord) (tag : Nat),
    s.queries x m i p tag
      ∧ answersQuery r x 3 none
      ∧ p.reissued = true
      ∧ s.bus.outgoing.length < 48 :=
  ⟨((paying { paid .picking with recovery := .querying, queryCount := 1, reissued := true }).mapCash fun k =>
            { k with recycler := .busy, workQueue := [⟨.pick 7 [⟨0, 2⟩] false, true⟩] }).mapBus (fun b =>
            { b with outstanding := some ⟨⟨1, .order (.statusQuery 3), .dispense, true⟩, false, ⟨999995#32, 10⟩, {}⟩ }),
      ⟨⟨1, .order (.statusQuery 3), .dispense, true⟩, false, ⟨999995#32, 10⟩, {}⟩, 0, ⟨true, 0, 1, 5, 3, .answer 3 none⟩,
      0, { paid .picking with recovery := .querying, queryCount := 1, reissued := true }, 3, by decide +kernel⟩

theorem witness_DispenseTimersAndQueriesMoveTheDispense_13 : ∃ (s : State) (x : Exchange) (m : ModuleId) (r : BusReply) (i : DispenseSlot) (p : DispenseRecord) (tag : Nat) (reason : Nat),
    s.queries x m i p tag
      ∧ replyAnswers r x
      ∧ r.cls = 7
      ∧ r.kind = 3
      ∧ r.body = .refusal reason
      ∧ p.queryCount < 3
      ∧ s.recyclerEntry = some m
      ∧ s.bus.outgoing.length < 48
      ∧ s.cash.recycler = .busy :=
  ⟨((paying { paid .picking with recovery := .querying, queryCount := 1 }).mapCash fun k =>
            { k with recycler := .busy, workQueue := [⟨.pick 7 [⟨0, 2⟩] false, true⟩] }).mapBus (fun b =>
            { b with outstanding := some ⟨⟨1, .order (.statusQuery 3), .dispense, true⟩, false, ⟨999995#32, 10⟩, {}⟩ }),
      ⟨⟨1, .order (.statusQuery 3), .dispense, true⟩, false, ⟨999995#32, 10⟩, {}⟩, 0, ⟨true, 0, 1, 7, 3, .refusal 4⟩, 0,
      { paid .picking with recovery := .querying, queryCount := 1 }, 3, 4, by decide +kernel⟩

theorem witness_DispenseTimersAndQueriesMoveTheDispense_14 : ∃ (s : State) (x : Exchange) (m : ModuleId) (i : DispenseSlot) (p : DispenseRecord) (tag : Nat),
    s.awaits x m
      ∧ x.frame.content = .order (.statusQuery tag)
      ∧ x.isResend = true
      ∧ timerDue (some x.window) s.now = true
      ∧ (s.module m).orderErrors + 8 < 96
      ∧ s.findDispense (fun r => r.state == .picking && r.pickTag == some tag && r.recovery == .querying) = some i
      ∧ s.dispense.records[i] = some p
      ∧ p.queryCount < 3
      ∧ s.recyclerEntry = some m
      ∧ s.bus.outgoing.length < 48
      ∧ s.cash.recycler = .busy :=
  ⟨(((paying { paid .picking with recovery := .querying, queryCount := 1 }).mapCash fun k =>
                { k with recycler := .busy, workQueue := [⟨.pick 7 [⟨0, 2⟩] false, true⟩] }).mapBus (fun b =>
                { b with
                  outstanding := some
                    ⟨⟨1, .order (.statusQuery 3), .dispense, true⟩, true, ⟨999995#32, 10⟩, {}⟩ })).mapMgmt fun m =>
        { m with timeBase := 1000005#32 }, ⟨⟨1, .order (.statusQuery 3), .dispense, true⟩, true, ⟨999995#32, 10⟩, {}⟩, 0,
      0, { paid .picking with recovery := .querying, queryCount := 1 }, 3, by decide +kernel⟩

theorem witness_DispenseTimersAndQueriesMoveTheDispense_15 : ∃ (s : State) (x : Exchange) (m : ModuleId) (r : BusReply) (i : DispenseSlot) (p : DispenseRecord) (tag : Nat) (reason : Nat),
    s.queries x m i p tag
      ∧ replyAnswers r x
      ∧ r.cls = 7
      ∧ r.kind = 3
      ∧ r.body = .refusal reason
      ∧ 3 ≤ p.queryCount
      ∧ s.bus.outgoing.length < 48 :=
  ⟨((paying { paid .picking with recovery := .querying, queryCount := 3 }).mapCash fun k =>
            { k with recycler := .busy, workQueue := [⟨.pick 7 [⟨0, 2⟩] false, true⟩] }).mapBus (fun b =>
            { b with outstanding := some ⟨⟨1, .order (.statusQuery 3), .dispense, true⟩, false, ⟨999995#32, 10⟩, {}⟩ }),
      ⟨⟨1, .order (.statusQuery 3), .dispense, true⟩, false, ⟨999995#32, 10⟩, {}⟩, 0, ⟨true, 0, 1, 7, 3, .refusal 4⟩, 0,
      { paid .picking with recovery := .querying, queryCount := 3 }, 3, 4, by decide +kernel⟩

theorem witness_AuthorisationsAndCapturesExpire_1 : ∃ (s : State) (a : ExchangeAuth),
    s.soundTables = true
      ∧ s.cash.exchange = some a
      ∧ timerDue (some a.expiry) s.now = true
      ∧ s.cash.workQueue = [] :=
  ⟨wall.mapCash fun k => { k with
          exchange := some ⟨0, due⟩
          cassettes := k.cassettes.set 0 { stock 0 with causes := { exchange := true } } }, ⟨0, due⟩, by decide +kernel⟩

theorem witness_AuthorisationsAndCapturesExpire_2 : ∃ (s : State) (tm : Timer),
    s.envelope.safe = some (.waiting tm)
      ∧ timerDue (some tm) s.now = true :=
  ⟨wall.mapEnvelope fun e => { e with safe := some (.waiting due) }, due, by decide +kernel⟩

theorem witness_AuthorisationsAndCapturesExpire_3 : ∃ (s : State) (l : Lane) (c : Capture),
    s.capture l = some c
      ∧ timerDue (some c.timer) s.now = true :=
  ⟨dropping, 0, ⟨4, .printing, 985000#32, ⟨985000#32, 15000⟩, 3, false, false⟩, by decide +kernel⟩

theorem witness_DepositTimersExpire_1 : ∃ (s : State) (l : Lane) (x : Session) (m : ModuleId),
    s.session l = some x
      ∧ x.state = .active
      ∧ timerDue x.idleTimer s.now = true
      ∧ s.recyclerEntry = some m
      ∧ s.bus.outgoing.length < 48 :=
  ⟨banking { accepting .active with idleTimer := some due }, 0, { accepting .active with idleTimer := some due }, 0,
      by decide +kernel⟩

theorem witness_DepositTimersExpire_2 : ∃ (s : State) (l : Lane) (x : Session),
    s.session l = some x
      ∧ x.state = .ending
      ∧ timerDue x.endTimer s.now = true
      ∧ x.transit = []
      ∧ s.bus.outgoing.length < 48 :=
  ⟨banking { accepting .ending with endTimer := some due, value := 60 }, 0,
      { accepting .ending with endTimer := some due, value := 60 }, by decide +kernel⟩

theorem witness_LoopReadingsAndTimersMoveTheLoop_1 : ∃ (s : State) (i : LoopId) (n : Nat),
    (s.loop i).kind ≠ .none
      ∧ (s.loop i).state = .watching
      ∧ 150 ≤ n ∧ n ≤ 399 :=
  ⟨watched (loopOf .general .watching), 0, 150, by decide +kernel⟩

theorem witness_LoopReadingsAndTimersMoveTheLoop_1b : ∃ (s : State) (i : LoopId) (n : Nat),
    (s.loop i).kind ≠ .none
      ∧ (s.loop i).state = .watching
      ∧ 150 ≤ n ∧ n ≤ 399 :=
  ⟨watched (loopOf .general .watching), 0, 399, by decide +kernel⟩

theorem witness_LoopReadingsAndTimersMoveTheLoop_2 : ∃ (s : State) (i : LoopId) (n : Nat),
    s.soundTables = true
      ∧ (s.loop i).kind ≠ .none
      ∧ (s.loop i).state = .watching
      ∧ 400 ≤ n ∧ n ≤ 799 :=
  ⟨watched (loopOf .general .watching), 0, 400, by decide +kernel⟩

theorem witness_LoopReadingsAndTimersMoveTheLoop_2b : ∃ (s : State) (i : LoopId) (n : Nat),
    s.soundTables = true
      ∧ (s.loop i).kind ≠ .none
      ∧ (s.loop i).state = .watching
      ∧ 400 ≤ n ∧ n ≤ 799 :=
  ⟨watched (loopOf .general .watching), 0, 799, by decide +kernel⟩

theorem witness_LoopReadingsAndTimersMoveTheLoop_3 : ∃ (s : State) (i : LoopId) (n : Nat),
    s.soundTables = true
      ∧ (s.loop i).kind ≠ .none
      ∧ (s.loop i).state = .watching
      ∧ (n < 150 ∨ 800 ≤ n) :=
  ⟨watched (loopOf .general .watching), 0, 149, by decide +kernel⟩

theorem witness_LoopReadingsAndTimersMoveTheLoop_3b : ∃ (s : State) (i : LoopId) (n : Nat),
    s.soundTables = true
      ∧ (s.loop i).kind ≠ .none
      ∧ (s.loop i).state = .watching
      ∧ (n < 150 ∨ 800 ≤ n) :=
  ⟨watched (loopOf .general .watching), 0, 800, by decide +kernel⟩

theorem witness_LoopReadingsAndTimersMoveTheLoop_4 : ∃ (s : State) (i : LoopId) (n : Nat),
    (s.loop i).kind ≠ .none
      ∧ (s.loop i).state = .qualifying
      ∧ 150 ≤ n ∧ n ≤ 399 :=
  ⟨watched { loopOf .general .qualifying with
          candidate := some (.active, 999000#32)
          qualifyTimer := some ⟨999900#32, 200⟩ }, 0, 150, by decide +kernel⟩

theorem witness_LoopReadingsAndTimersMoveTheLoop_4b : ∃ (s : State) (i : LoopId) (n : Nat),
    (s.loop i).kind ≠ .none
      ∧ (s.loop i).state = .qualifying
      ∧ 150 ≤ n ∧ n ≤ 399 :=
  ⟨watched
        { loopOf .general .qualifying with candidate := some (.fault, 999000#32), qualifyTimer := some ⟨999900#32, 200⟩ },
      0, 399, by decide +kernel⟩

theorem witness_LoopReadingsAndTimersMoveTheLoop_5 : ∃ (s : State) (i : LoopId) (n : Nat) (start : Time),
    (s.loop i).kind ≠ .none
      ∧ (s.loop i).state = .qualifying
      ∧ ((s.loop i).candidate = some (.active, start) ∧ 400 ≤ n ∧ n ≤ 799 ∨ (s.loop i).candidate = some (.fault, start) ∧
              (n < 150 ∨ 800 ≤ n)) :=
  ⟨watched { loopOf .general .qualifying with
          candidate := some (.active, 999000#32)
          qualifyTimer := some ⟨999900#32, 200⟩ }, 0, 400, 999000#32, by decide +kernel⟩

theorem witness_LoopReadingsAndTimersMoveTheLoop_5b : ∃ (s : State) (i : LoopId) (n : Nat) (start : Time),
    (s.loop i).kind ≠ .none
      ∧ (s.loop i).state = .qualifying
      ∧ ((s.loop i).candidate = some (.active, start) ∧ 400 ≤ n ∧ n ≤ 799 ∨ (s.loop i).candidate = some (.fault, start) ∧
              (n < 150 ∨ 800 ≤ n)) :=
  ⟨watched
        { loopOf .general .qualifying with candidate := some (.fault, 999000#32), qualifyTimer := some ⟨999900#32, 200⟩ },
      0, 149, 999000#32, by decide +kernel⟩

theorem witness_LoopReadingsAndTimersMoveTheLoop_5c : ∃ (s : State) (i : LoopId) (n : Nat) (start : Time),
    (s.loop i).kind ≠ .none
      ∧ (s.loop i).state = .qualifying
      ∧ ((s.loop i).candidate = some (.active, start) ∧ 400 ≤ n ∧ n ≤ 799 ∨ (s.loop i).candidate = some (.fault, start) ∧
              (n < 150 ∨ 800 ≤ n)) :=
  ⟨watched
        { loopOf .general .qualifying with candidate := some (.fault, 999000#32), qualifyTimer := some ⟨999900#32, 200⟩ },
      0, 800, 999000#32, by decide +kernel⟩

theorem witness_LoopReadingsAndTimersMoveTheLoop_6 : ∃ (s : State) (i : LoopId) (n : Nat) (start : Time),
    s.soundTables = true
      ∧ (s.loop i).kind ≠ .none
      ∧ (s.loop i).state = .qualifying
      ∧ (s.loop i).candidate = some (.fault, start)
      ∧ 400 ≤ n ∧ n ≤ 799 :=
  ⟨watched
        { loopOf .general .qualifying with candidate := some (.fault, 999000#32), qualifyTimer := some ⟨999900#32, 200⟩ },
      0, 799, 999000#32, by decide +kernel⟩

theorem witness_LoopReadingsAndTimersMoveTheLoop_7 : ∃ (s : State) (i : LoopId) (n : Nat) (start : Time),
    s.soundTables = true
      ∧ (s.loop i).kind ≠ .none
      ∧ (s.loop i).state = .qualifying
      ∧ (s.loop i).candidate = some (.active, start)
      ∧ (n < 150 ∨ 800 ≤ n) :=
  ⟨watched { loopOf .general .qualifying with
          candidate := some (.active, 999000#32)
          qualifyTimer := some ⟨999900#32, 200⟩ }, 0, 149, 999000#32, by decide +kernel⟩

theorem witness_LoopReadingsAndTimersMoveTheLoop_7b : ∃ (s : State) (i : LoopId) (n : Nat) (start : Time),
    s.soundTables = true
      ∧ (s.loop i).kind ≠ .none
      ∧ (s.loop i).state = .qualifying
      ∧ (s.loop i).candidate = some (.active, start)
      ∧ (n < 150 ∨ 800 ≤ n) :=
  ⟨watched { loopOf .general .qualifying with
          candidate := some (.active, 999000#32)
          qualifyTimer := some ⟨999900#32, 200⟩ }, 0, 800, 999000#32, by decide +kernel⟩

theorem witness_LoopReadingsAndTimersMoveTheLoop_8 : ∃ (s : State) (i : LoopId) (n : Nat),
    (s.loop i).kind ≠ .none
      ∧ (s.loop i).state = .tripped
      ∧ ((s.loop i).kind ≠ .safeDoor ∨ n < 150 ∨ 400 ≤ n ∨ (s.loop i).band = some .secure) :=
  ⟨watched { loopOf .general .tripped with trip := some ⟨.active, [.notify], 0⟩ }, 0, 399, by decide +kernel⟩

theorem witness_LoopReadingsAndTimersMoveTheLoop_8b : ∃ (s : State) (i : LoopId) (n : Nat),
    (s.loop i).kind ≠ .none
      ∧ (s.loop i).state = .tripped
      ∧ ((s.loop i).kind ≠ .safeDoor ∨ n < 150 ∨ 400 ≤ n ∨ (s.loop i).band = some .secure) :=
  ⟨watched { loopOf .safeDoor .tripped with trip := some ⟨.active, [.notify], 0⟩ }, 0, 400, by decide +kernel⟩

theorem witness_LoopReadingsAndTimersMoveTheLoop_9 : ∃ (s : State) (i : LoopId) (n : Nat),
    (s.loop i).kind = .safeDoor
      ∧ (s.loop i).state = .tripped
      ∧ 150 ≤ n ∧ n ≤ 399
      ∧ (s.loop i).band ≠ some .secure
      ∧ s.envelope.safe = some (.opened [i]) :=
  ⟨(watched { loopOf .safeDoor .tripped with band := some .active, trip := some ⟨.active, [.notify], 0⟩ }).mapEnvelope fun
        e => { e with count := 40, safe := some (.opened [0]) }, 0, 200, by decide +kernel⟩

theorem witness_LoopReadingsAndTimersMoveTheLoop_10 : ∃ (s : State) (i : LoopId) (n : Nat),
    (s.loop i).kind ≠ .none
      ∧ (s.loop i).state = .arming
      ∧ 150 ≤ n ∧ n ≤ 399 :=
  ⟨watched (loopOf .holdup .arming), 0, 200, by decide +kernel⟩

theorem witness_LoopReadingsAndTimersMoveTheLoop_11 : ∃ (s : State) (i : LoopId),
    (s.loop i).kind = .none :=
  ⟨wall, 0, by decide +kernel⟩

theorem witness_LoopReadingsAndTimersMoveTheLoop_12 : ∃ (s : State) (i : LoopId),
    (s.loop i).state = .arming
      ∧ timerDue (s.loop i).armTimer s.now = true :=
  ⟨watched { loopOf .general .arming with armTimer := some ⟨985000#32, 10000⟩ }, 0, by decide +kernel⟩

theorem witness_LoopReadingsAndTimersMoveTheLoop_13 : ∃ (s : State) (i : LoopId) (start : Time),
    s.soundTables = true
      ∧ (s.loop i).state = .qualifying
      ∧ timerDue (s.loop i).qualifyTimer s.now = true
      ∧ (s.loop i).candidate = some (.active, start)
      ∧ ((s.loop i).kind = .safeDoor → s.envelope.safe = none)
      ∧ ((s.loop i).response = .notify ∨ (s.loop i).response = .duress ∧ s.alarm.duress = true ∨ (s.loop i).response =
              .lockdown ∧ s.alarm.lockdown = true) :=
  ⟨watched { loopOf .general .qualifying with candidate := some (.active, 999000#32), qualifyTimer := some due }, 0,
      999000#32, by decide +kernel⟩

theorem witness_LoopReadingsAndTimersMoveTheLoop_13b : ∃ (s : State) (i : LoopId) (start : Time),
    s.soundTables = true
      ∧ (s.loop i).state = .qualifying
      ∧ timerDue (s.loop i).qualifyTimer s.now = true
      ∧ (s.loop i).candidate = some (.active, start)
      ∧ ((s.loop i).kind = .safeDoor → s.envelope.safe = none)
      ∧ ((s.loop i).response = .notify ∨ (s.loop i).response = .duress ∧ s.alarm.duress = true ∨ (s.loop i).response =
              .lockdown ∧ s.alarm.lockdown = true) :=
  ⟨watched { loopOf .safeDoor .qualifying with candidate := some (.active, 999000#32), qualifyTimer := some due }, 0,
      999000#32, by decide +kernel⟩

theorem witness_LoopReadingsAndTimersMoveTheLoop_13c : ∃ (s : State) (i : LoopId) (start : Time),
    s.soundTables = true
      ∧ (s.loop i).state = .qualifying
      ∧ timerDue (s.loop i).qualifyTimer s.now = true
      ∧ (s.loop i).candidate = some (.active, start)
      ∧ ((s.loop i).kind = .safeDoor → s.envelope.safe = none)
      ∧ ((s.loop i).response = .notify ∨ (s.loop i).response = .duress ∧ s.alarm.duress = true ∨ (s.loop i).response =
              .lockdown ∧ s.alarm.lockdown = true) :=
  ⟨(watched { loopOf .holdup .qualifying with
              candidate := some (.active, 999000#32)
              qualifyTimer := some due
              response := .duress }).setDuressLatch true, 0, 999000#32, by decide +kernel⟩

theorem witness_LoopReadingsAndTimersMoveTheLoop_13d : ∃ (s : State) (i : LoopId) (start : Time),
    s.soundTables = true
      ∧ (s.loop i).state = .qualifying
      ∧ timerDue (s.loop i).qualifyTimer s.now = true
      ∧ (s.loop i).candidate = some (.active, start)
      ∧ ((s.loop i).kind = .safeDoor → s.envelope.safe = none)
      ∧ ((s.loop i).response = .notify ∨ (s.loop i).response = .duress ∧ s.alarm.duress = true ∨ (s.loop i).response =
              .lockdown ∧ s.alarm.lockdown = true) :=
  ⟨(watched { loopOf .general .qualifying with
              candidate := some (.active, 999000#32)
              qualifyTimer := some due
              response := .lockdown }).setLockdownLatch true, 0, 999000#32, by decide +kernel⟩

theorem witness_LoopReadingsAndTimersMoveTheLoop_14 : ∃ (s : State) (i : LoopId) (start : Time),
    s.soundTables = true
      ∧ (s.loop i).state = .qualifying
      ∧ timerDue (s.loop i).qualifyTimer s.now = true
      ∧ (s.loop i).candidate = some (.fault, start)
      ∧ (s.loop i).kind ≠ .tamper
      ∧ (s.loop i).kind ≠ .safeDoor
      ∧ (s.loop i).lane = 0 :=
  ⟨watched { loopOf .general .qualifying with
          candidate := some (.fault, 999000#32)
          qualifyTimer := some due
          lane := 0
          response := .lockdown }, 0, 999000#32, by decide +kernel⟩

theorem witness_LoopReadingsAndTimersMoveTheLoop_15 : ∃ (s : State) (i : LoopId) (start : Time),
    s.soundTables = true
      ∧ (s.loop i).state = .qualifying
      ∧ timerDue (s.loop i).qualifyTimer s.now = true
      ∧ (s.loop i).candidate = some (.active, start)
      ∧ ((s.loop i).kind = .safeDoor → s.envelope.safe = none)
      ∧ (s.loop i).response = .duress
      ∧ s.alarm.duress = false :=
  ⟨watched { loopOf .holdup .qualifying with
          candidate := some (.active, 999000#32)
          qualifyTimer := some due
          response := .duress }, 0, 999000#32, by decide +kernel⟩

theorem witness_LoopReadingsAndTimersMoveTheLoop_16 : ∃ (s : State) (i : LoopId) (start : Time),
    s.soundTables = true
      ∧ (s.loop i).state = .qualifying
      ∧ timerDue (s.loop i).qualifyTimer s.now = true
      ∧ (s.loop i).candidate = some (.active, start)
      ∧ ((s.loop i).kind = .safeDoor → s.envelope.safe = none)
      ∧ (s.loop i).response = .suspendCassettes :=
  ⟨watched { loopOf .general .qualifying with
          candidate := some (.active, 999000#32)
          qualifyTimer := some due
          response := .suspendCassettes }, 0, 999000#32, by decide +kernel⟩

theorem witness_LoopReadingsAndTimersMoveTheLoop_17 : ∃ (s : State) (i : LoopId) (start : Time),
    s.soundTables = true
      ∧ (s.loop i).state = .qualifying
      ∧ timerDue (s.loop i).qualifyTimer s.now = true
      ∧ (s.loop i).candidate = some (.active, start)
      ∧ ((s.loop i).kind = .safeDoor → s.envelope.safe = none)
      ∧ (s.loop i).response = .lockdown
      ∧ s.alarm.lockdown = false :=
  ⟨(paying (paid .presented)).mapAlarm fun a => { a with
          loops := a.loops.set 0 { loopOf .general .qualifying with
              response := .lockdown
              candidate := some (.active, 999000#32)
              qualifyTimer := some due } }, 0, 999000#32, by decide +kernel⟩

theorem witness_LoopReadingsAndTimersMoveTheLoop_18 : ∃ (s : State) (i : LoopId) (start : Time) (g : BandGroup) (applied : List Response) (l : Lane),
    s.soundTables = true
      ∧ (s.loop i).state = .qualifying
      ∧ timerDue (s.loop i).qualifyTimer s.now = true
      ∧ (s.loop i).candidate = some (g, start)
      ∧ (g = .active ∧ (s.loop i).response = .laneHold ∧ ((s.loop i).kind = .safeDoor → s.envelope.safe = none) ∧ applied
              = [.laneHold] ∨ g = .fault ∧ (s.loop i).kind ≠ .tamper ∧ (s.loop i).kind ≠ .safeDoor ∧ applied =
              [.notify, .laneHold])
      ∧ (s.loop i).lane = numberOf l
      ∧ (s.laneRec l).holds.loop = false :=
  ⟨watched { loopOf .general .qualifying with
          candidate := some (.active, 999000#32)
          qualifyTimer := some due
          response := .laneHold }, 0, 999000#32, .active, [.laneHold], 0, by decide +kernel⟩

theorem witness_LoopReadingsAndTimersMoveTheLoop_18b : ∃ (s : State) (i : LoopId) (start : Time) (g : BandGroup) (applied : List Response) (l : Lane),
    s.soundTables = true
      ∧ (s.loop i).state = .qualifying
      ∧ timerDue (s.loop i).qualifyTimer s.now = true
      ∧ (s.loop i).candidate = some (g, start)
      ∧ (g = .active ∧ (s.loop i).response = .laneHold ∧ ((s.loop i).kind = .safeDoor → s.envelope.safe = none) ∧ applied
              = [.laneHold] ∨ g = .fault ∧ (s.loop i).kind ≠ .tamper ∧ (s.loop i).kind ≠ .safeDoor ∧ applied =
              [.notify, .laneHold])
      ∧ (s.loop i).lane = numberOf l
      ∧ (s.laneRec l).holds.loop = false :=
  ⟨watched { loopOf .lane .qualifying with candidate := some (.fault, 999000#32), qualifyTimer := some due }, 0,
      999000#32, .fault, [.notify, .laneHold], 0, by decide +kernel⟩

theorem witness_LoopReadingsAndTimersMoveTheLoop_19 : ∃ (s : State) (i : LoopId) (start : Time) (a : SafeOpening),
    s.soundTables = true
      ∧ (s.loop i).state = .qualifying
      ∧ timerDue (s.loop i).qualifyTimer s.now = true
      ∧ (s.loop i).candidate = some (.active, start)
      ∧ (s.loop i).kind = .safeDoor
      ∧ s.envelope.safe = some a :=
  ⟨(watched { loopOf .safeDoor .qualifying with
              candidate := some (.active, 999000#32)
              qualifyTimer := some due
              response := .lockdown }).mapEnvelope fun e => { e with safe := some (.waiting due) }, 0, 999000#32,
      .waiting due, by decide +kernel⟩

theorem witness_LoopReadingsAndTimersMoveTheLoop_19b : ∃ (s : State) (i : LoopId) (start : Time) (a : SafeOpening),
    s.soundTables = true
      ∧ (s.loop i).state = .qualifying
      ∧ timerDue (s.loop i).qualifyTimer s.now = true
      ∧ (s.loop i).candidate = some (.active, start)
      ∧ (s.loop i).kind = .safeDoor
      ∧ s.envelope.safe = some a :=
  ⟨(watched { loopOf .safeDoor .qualifying with
              candidate := some (.active, 999000#32)
              qualifyTimer := some due
              response := .lockdown }).mapEnvelope fun e => { e with safe := some (.opened [3]) }, 0, 999000#32,
      .opened [3], by decide +kernel⟩

theorem witness_TamperFaultLocksTheWallDown : ∃ (s : State) (i : LoopId) (start : Time),
    s.soundTables = true
      ∧ (s.loop i).state = .qualifying
      ∧ timerDue (s.loop i).qualifyTimer s.now = true
      ∧ (s.loop i).candidate = some (.fault, start)
      ∧ (s.loop i).kind = .tamper
      ∧ s.alarm.lockdown = false :=
  ⟨(paying (paid .presented)).mapAlarm fun a => { a with
          loops := a.loops.set 0
            { loopOf .tamper .qualifying with candidate := some (.fault, 999000#32), qualifyTimer := some due } }, 0,
      999000#32, by decide +kernel⟩

theorem witness_ExchangesBeginInOrderOrAreWithdrawn_1 : ∃ (s : State) (f : Frame) (o : BusOrder) (m : ModuleId),
    s.soundTables = true
      ∧ s.choosesNext f m
      ∧ f.content = .order o
      ∧ (s.module m).health ≠ .isolated
      ∧ s.withdraws o (s.module m).health = false :=
  ⟨wall.mapBus fun b =>
        { b with outgoing := [⟨1, .order .lockBays, .cash, true⟩, ⟨1, .order (.route 4 .toCustomer), .deposit, true⟩] },
      ⟨1, .order (.route 4 .toCustomer), .deposit, true⟩, .route 4 .toCustomer, 0, by decide +kernel⟩

theorem witness_ExchangesBeginInOrderOrAreWithdrawn_1b : ∃ (s : State) (f : Frame) (o : BusOrder) (m : ModuleId),
    s.soundTables = true
      ∧ s.choosesNext f m
      ∧ f.content = .order o
      ∧ (s.module m).health ≠ .isolated
      ∧ s.withdraws o (s.module m).health = false :=
  ⟨wall.mapBus fun b => { b with outgoing := [⟨1, .order .lockBays, .cash, true⟩, ⟨1, .order .unlockBays, .cash, true⟩] },
      ⟨1, .order .lockBays, .cash, true⟩, .lockBays, 0, by decide +kernel⟩

theorem witness_ExchangesBeginInOrderOrAreWithdrawn_2 : ∃ (s : State) (f : Frame) (m : ModuleId),
    s.soundTables = true
      ∧ s.choosesNext f m
      ∧ f.content = .probe :=
  ⟨(wall.mapBus fun b => { b with outgoing := [⟨3, .probe, .bus, true⟩] }).mapModule 2 fun e =>
        { e with health := .isolated }, ⟨3, .probe, .bus, true⟩, 2, by decide +kernel⟩

theorem witness_ExchangesBeginInOrderOrAreWithdrawn_3 : ∃ (s : State) (f : Frame) (o : BusOrder) (m : ModuleId),
    s.soundTables = true
      ∧ s.bus.outstanding = none
      ∧ s.bus.resend = some f
      ∧ f.content = .order o
      ∧ s.nodeEntry f.node = some m
      ∧ (s.module m).health ≠ .isolated
      ∧ s.withdraws o (s.module m).health = false :=
  ⟨wall.mapBus fun b => { b with
          resend := some ⟨1, .order .lockBays, .cash, true⟩
          outgoing := [⟨1, .order (.route 4 .toCustomer), .deposit, true⟩] }, ⟨1, .order .lockBays, .cash, true⟩,
      .lockBays, 0, by decide +kernel⟩

theorem witness_ExchangesBeginInOrderOrAreWithdrawn_4 : ∃ (s : State) (f : Frame) (o : BusOrder) (m : ModuleId),
    s.soundTables = true
      ∧ s.choosesNext f m
      ∧ f.content = .order o
      ∧ (s.module m).health = .isolated
      ∧ o.handedBack = false :=
  ⟨(wall.mapBus fun b => { b with outgoing := [⟨3, .order (.eject 0), .envelope, true⟩] }).mapModule 2 fun e =>
        { e with health := .isolated }, ⟨3, .order (.eject 0), .envelope, true⟩, .eject 0, 2, by decide +kernel⟩

theorem witness_ExchangesBeginInOrderOrAreWithdrawn_5 : ∃ (s : State) (n : Nat) (m : ModuleId),
    s.soundTables = true
      ∧ s.bus.outstanding = none
      ∧ s.bus.resend = none
      ∧ s.bus.outgoing = []
      ∧ s.nodeEntry n = some m
      ∧ n ≠ 0
      ∧ (s.module m).health ≠ .isolated
      ∧ s.pollsNext n :=
  ⟨wall.mapBus fun b => { b with ringPos := 8 }, 1, 0, by decide +kernel⟩

theorem witness_ExchangesBeginInOrderOrAreWithdrawn_5b : ∃ (s : State) (n : Nat) (m : ModuleId),
    s.soundTables = true
      ∧ s.bus.outstanding = none
      ∧ s.bus.resend = none
      ∧ s.bus.outgoing = []
      ∧ s.nodeEntry n = some m
      ∧ n ≠ 0
      ∧ (s.module m).health ≠ .isolated
      ∧ s.pollsNext n :=
  ⟨wall.mapBus fun b => { b with ringPos := 3 }, 4, 3, by decide +kernel⟩

theorem witness_ExchangesBeginInOrderOrAreWithdrawn_6 : ∃ (s : State) (f : Frame) (m : ModuleId) (tag : Nat) (items : List PlanItem) (i : DispenseSlot) (p : DispenseRecord),
    s.soundTables = true
      ∧ s.choosesNext f m
      ∧ f.content = .order (.pick tag items)
      ∧ s.recyclerEntry = some m
      ∧ (s.module m).health = .restricted
      ∧ s.alarm.lockdown = false
      ∧ s.pickingWith tag = some i
      ∧ s.dispense.records[i] = some p
      ∧ p.topUp = none
      ∧ s.runsOnly p.id :=
  ⟨(((paying (paid .picking)).mapCash fun k =>
                { k with recycler := .busy, workQueue := [⟨.pick 7 [⟨0, 2⟩] false, true⟩, ⟨.accept 3, false⟩] }).mapBus
            fun b => { b with outgoing := [⟨1, .order (.pick 3 [⟨0, 2⟩]), .dispense, true⟩] }).mapModule 0 fun e =>
        { e with health := .restricted, orderErrors := 130 }, ⟨1, .order (.pick 3 [⟨0, 2⟩]), .dispense, true⟩, 0, 3,
      [⟨0, 2⟩], 0, paid .picking, by decide +kernel⟩

theorem witness_ExchangesBeginInOrderOrAreWithdrawn_7 : ∃ (s : State) (f : Frame) (m : ModuleId) (tag : Nat) (items : List PlanItem) (i : DispenseSlot) (p : DispenseRecord),
    s.soundTables = true
      ∧ s.choosesNext f m
      ∧ f.content = .order (.pick tag items)
      ∧ (s.module m).health ≠ .isolated
      ∧ s.alarm.lockdown = true
      ∧ s.pickingWith tag = some i
      ∧ s.dispense.records[i] = some p
      ∧ p.topUp = none
      ∧ s.runsOnly p.id
      ∧ (s.authority p.index).credential = p.credential :=
  ⟨((paying (paid .picking)).mapCash fun k =>
            { k with recycler := .busy, workQueue := [⟨.pick 7 [⟨0, 2⟩] false, true⟩] }).mapBus
        (fun b => { b with outgoing := [⟨1, .order (.pick 3 [⟨0, 2⟩]), .dispense, true⟩] }) |>.setLockdownLatch true,
      ⟨1, .order (.pick 3 [⟨0, 2⟩]), .dispense, true⟩, 0, 3, [⟨0, 2⟩], 0, paid .picking, by decide +kernel⟩

theorem witness_ExchangesBeginInOrderOrAreWithdrawn_8 : ∃ (s : State) (f : Frame) (m : ModuleId) (l : Lane) (y : Session),
    s.soundTables = true
      ∧ s.choosesNext f m
      ∧ f.content = .order (.acceptBegin l)
      ∧ f.live = true
      ∧ s.recyclerEntry = some m
      ∧ (s.module m).health = .restricted
      ∧ s.alarm.lockdown = false
      ∧ s.session l = some y
      ∧ y.endCause ≠ some .close
      ∧ s.cash.recycler = .busy
      ∧ (s.cash.workQueue.any fun e => e.running) = true
      ∧ (∀ e ∈ s.cash.workQueue, (e.running = true ↔ e.isAcceptOf l = true)) :=
  ⟨((banking (accepting .queued)).mapBus fun b =>
            { b with outgoing := [⟨1, .order (.acceptBegin 0), .deposit, true⟩] }).mapModule 0 fun e =>
        { e with health := .restricted, orderErrors := 130 }, ⟨1, .order (.acceptBegin 0), .deposit, true⟩, 0, 0,
      accepting .queued, by decide +kernel⟩

theorem witness_ExchangesBeginInOrderOrAreWithdrawn_9 : ∃ (s : State) (f : Frame) (m : ModuleId) (l : Lane) (y : Session),
    s.soundTables = true
      ∧ s.choosesNext f m
      ∧ f.content = .order (.acceptBegin l)
      ∧ f.live = true
      ∧ (s.module m).health ≠ .isolated
      ∧ s.alarm.lockdown = true
      ∧ s.session l = some y
      ∧ s.cash.recycler = .busy
      ∧ (s.cash.workQueue.any fun e => e.running) = true
      ∧ (∀ e ∈ s.cash.workQueue, (e.running = true ↔ e.isAcceptOf l = true)) :=
  ⟨((banking (accepting .queued)).mapBus fun b =>
            { b with outgoing := [⟨1, .order (.acceptBegin 0), .deposit, true⟩] }).setLockdownLatch true,
      ⟨1, .order (.acceptBegin 0), .deposit, true⟩, 0, 0, accepting .queued, by decide +kernel⟩

theorem witness_ExchangesBeginInOrderOrAreWithdrawn_10 : ∃ (s : State) (f : Frame) (m : ModuleId) (l : Lane) (c : Capture),
    s.soundTables = true
      ∧ s.choosesNext f m
      ∧ f.content = .order (.capture l c.number)
      ∧ (s.module m).health ≠ .isolated
      ∧ ((s.module m).health = .restricted ∨ s.alarm.lockdown = true)
      ∧ s.capture l = some c
      ∧ c.node = f.node
      ∧ (s.bus.outgoing.erase f).length < 48 :=
  ⟨(dropping.mapBus fun b => { b with outgoing := [⟨3, .order (.capture 0 4), .envelope, true⟩] }).mapModule 2 fun e =>
        { e with health := .restricted, orderErrors := 130 }, ⟨3, .order (.capture 0 4), .envelope, true⟩, 2, 0,
      ⟨4, .printing, 985000#32, ⟨985000#32, 15000⟩, 3, false, false⟩, by decide +kernel⟩

theorem witness_ExchangesBeginInOrderOrAreWithdrawn_10b : ∃ (s : State) (f : Frame) (m : ModuleId) (l : Lane) (c : Capture),
    s.soundTables = true
      ∧ s.choosesNext f m
      ∧ f.content = .order (.capture l c.number)
      ∧ (s.module m).health ≠ .isolated
      ∧ ((s.module m).health = .restricted ∨ s.alarm.lockdown = true)
      ∧ s.capture l = some c
      ∧ c.node = f.node
      ∧ (s.bus.outgoing.erase f).length < 48 :=
  ⟨(dropping.mapBus fun b => { b with outgoing := [⟨3, .order (.capture 0 4), .envelope, true⟩] }).setLockdownLatch true,
      ⟨3, .order (.capture 0 4), .envelope, true⟩, 2, 0, ⟨4, .printing, 985000#32, ⟨985000#32, 15000⟩, 3, false, false⟩,
      by decide +kernel⟩

theorem witness_ExchangesBeginInOrderOrAreWithdrawn_11 : ∃ (s : State) (f : Frame) (m : ModuleId) (l : Lane) (d : Direction) (e : TubeEnd),
    s.soundTables = true
      ∧ s.choosesNext f m
      ∧ f.content = .order (.blowerMove l d)
      ∧ f.live = true
      ∧ (s.module m).health ≠ .isolated
      ∧ ((s.module m).health = .restricted ∨ d = .toLane ∧ s.alarm.lockdown = true)
      ∧ ((s.carrier l).location = .outbound ∧ e = .teller ∨ (s.carrier l).location = .inbound ∧ e = .lane)
      ∧ (e = .teller → (s.carrier l).bound = none)
      ∧ s.tube.requests = [] :=
  ⟨(((wall.mapCarrier 0 fun c => { c with location := .outbound, seated := false }).mapTube fun t =>
                { t with blower := .moving 0 }).mapBus fun b =>
            { b with outgoing := [⟨2, .order (.blowerMove 0 .toLane), .tube, true⟩] }).setLockdownLatch true,
      ⟨2, .order (.blowerMove 0 .toLane), .tube, true⟩, 1, 0, .toLane, .teller, by decide +kernel⟩

theorem witness_ExchangesBeginInOrderOrAreWithdrawn_11b : ∃ (s : State) (f : Frame) (m : ModuleId) (l : Lane) (d : Direction) (e : TubeEnd),
    s.soundTables = true
      ∧ s.choosesNext f m
      ∧ f.content = .order (.blowerMove l d)
      ∧ f.live = true
      ∧ (s.module m).health ≠ .isolated
      ∧ ((s.module m).health = .restricted ∨ d = .toLane ∧ s.alarm.lockdown = true)
      ∧ ((s.carrier l).location = .outbound ∧ e = .teller ∨ (s.carrier l).location = .inbound ∧ e = .lane)
      ∧ (e = .teller → (s.carrier l).bound = none)
      ∧ s.tube.requests = [] :=
  ⟨(((wall.mapCarrier 0 fun c => { c with location := .inbound, seated := false }).mapTube fun t =>
                { t with blower := .moving 0 }).mapBus fun b =>
            { b with outgoing := [⟨2, .order (.blowerMove 0 .toTeller), .tube, true⟩] }).mapModule 1 fun e =>
        { e with health := .restricted, orderErrors := 130 }, ⟨2, .order (.blowerMove 0 .toTeller), .tube, true⟩, 1, 0,
      .toTeller, .lane, by decide +kernel⟩

theorem witness_ExchangesBeginInOrderOrAreWithdrawn_12 : ∃ (s : State) (tm : Timer),
    s.tube.blower = .resting tm
      ∧ timerDue (some tm) s.now = true
      ∧ s.tube.requests = [] :=
  ⟨wall.mapTube fun t => { t with blower := .resting due }, due, by decide +kernel⟩

theorem witness_ExchangesEndByTheirResult_1 : ∃ (s : State) (x : Exchange) (m : ModuleId) (r : BusReply) (o : BusOrder),
    s.awaits x m
      ∧ x.frame.content = .order o
      ∧ x.window.past s.now = false
      ∧ acknowledges r x o
      ∧ o.unheeded = true :=
  ⟨(wall.mapBus fun b => { b with outstanding := some ⟨⟨1, .order .lockBays, .cash, true⟩, false, ⟨999995#32, 10⟩, {}⟩ }),
      ⟨⟨1, .order .lockBays, .cash, true⟩, false, ⟨999995#32, 10⟩, {}⟩, 0, ⟨true, 0, 1, 4, 12, .plain⟩, .lockBays,
      by decide +kernel⟩

theorem witness_ExchangesEndByTheirResult_1b : ∃ (s : State) (x : Exchange) (m : ModuleId) (r : BusReply) (o : BusOrder),
    s.awaits x m
      ∧ x.frame.content = .order o
      ∧ x.window.past s.now = false
      ∧ acknowledges r x o
      ∧ o.unheeded = true :=
  ⟨(wall.mapBus fun b => { b with
              outstanding := some ⟨⟨1, .order (.route 4 .toCustomer), .deposit, true⟩, true, ⟨999995#32, 10⟩, {}⟩ }),
      ⟨⟨1, .order (.route 4 .toCustomer), .deposit, true⟩, true, ⟨999995#32, 10⟩, {}⟩, 0, ⟨true, 0, 1, 4, 5, .plain⟩,
      .route 4 .toCustomer, by decide +kernel⟩

theorem witness_ExchangesEndByTheirResult_2 : ∃ (s : State) (x : Exchange) (m : ModuleId) (r : BusReply) (o : BusOrder),
    s.awaits x m
      ∧ x.frame.content = .order o
      ∧ x.window.past s.now = false
      ∧ acknowledges r x o
      ∧ s.bus.resend = none :=
  ⟨(wall.mapBus fun b =>
            { b with outstanding := some ⟨⟨1, .order (.pick 3 [⟨0, 2⟩]), .dispense, true⟩, false, ⟨999995#32, 10⟩, {}⟩ }),
      ⟨⟨1, .order (.pick 3 [⟨0, 2⟩]), .dispense, true⟩, false, ⟨999995#32, 10⟩, {}⟩, 0, ⟨true, 0, 1, 4, 1, .plain⟩,
      .pick 3 [⟨0, 2⟩], by decide +kernel⟩

theorem witness_ExchangesEndByTheirResult_2b : ∃ (s : State) (x : Exchange) (m : ModuleId) (r : BusReply) (o : BusOrder),
    s.awaits x m
      ∧ x.frame.content = .order o
      ∧ x.window.past s.now = false
      ∧ acknowledges r x o
      ∧ s.bus.resend = none :=
  ⟨(wall.mapBus fun b => { b with
              outstanding := some ⟨⟨1, .order (.denominations []), .management, true⟩, false, ⟨999995#32, 10⟩, {}⟩ }),
      ⟨⟨1, .order (.denominations []), .management, true⟩, false, ⟨999995#32, 10⟩, {}⟩, 0, ⟨true, 0, 1, 4, 14, .plain⟩,
      .denominations [], by decide +kernel⟩

theorem witness_ExchangesEndByTheirResult_3 : ∃ (s : State) (x : Exchange) (m : ModuleId) (r : BusReply) (o : BusOrder) (reason : Nat),
    s.awaits x m
      ∧ x.frame.content = .order o
      ∧ x.window.past s.now = false
      ∧ replyAnswers r x
      ∧ r.cls = 7
      ∧ r.kind = o.number
      ∧ r.body = .refusal reason
      ∧ o.unheeded = true :=
  ⟨(wall.mapBus fun b => { b with outstanding := some ⟨⟨1, .order .lockBays, .cash, true⟩, false, ⟨999995#32, 10⟩, {}⟩ }),
      ⟨⟨1, .order .lockBays, .cash, true⟩, false, ⟨999995#32, 10⟩, {}⟩, 0, ⟨true, 0, 1, 7, 12, .refusal 9⟩, .lockBays, 9,
      by decide +kernel⟩

theorem witness_ExchangesEndByTheirResult_4 : ∃ (s : State) (x : Exchange) (m : ModuleId) (r : BusReply) (o : BusOrder) (reason : Nat),
    s.awaits x m
      ∧ x.frame.content = .order o
      ∧ x.window.past s.now = false
      ∧ replyAnswers r x
      ∧ r.cls = 7
      ∧ r.kind = o.number
      ∧ r.body = .refusal reason
      ∧ s.bus.resend = none :=
  ⟨(wall.mapBus fun b => { b with
              outstanding := some ⟨⟨2, .order (.blowerMove 0 .toLane), .tube, true⟩, false, ⟨999995#32, 10⟩, {}⟩ }),
      ⟨⟨2, .order (.blowerMove 0 .toLane), .tube, true⟩, false, ⟨999995#32, 10⟩, {}⟩, 1, ⟨true, 0, 2, 7, 9, .refusal 9⟩,
      .blowerMove 0 .toLane, 9, by decide +kernel⟩

theorem witness_ExchangesEndByTheirResult_5 : ∃ (s : State) (x : Exchange) (m : ModuleId) (o : BusOrder),
    s.awaits x m
      ∧ x.frame.content = .order o
      ∧ o.isMoney = false
      ∧ x.isResend = false
      ∧ timerDue (some x.window) s.now = true
      ∧ (s.module m).orderErrors + 8 < 96 :=
  ⟨((wall.mapBus fun b =>
                { b with outstanding := some ⟨⟨1, .order .lockBays, .cash, true⟩, false, ⟨999995#32, 10⟩, {}⟩ }).mapMgmt
            fun m => { m with timeBase := 1000005#32 }), ⟨⟨1, .order .lockBays, .cash, true⟩, false, ⟨999995#32, 10⟩, {}⟩,
      0, .lockBays, by decide +kernel⟩

theorem witness_ExchangesEndByTheirResult_5b : ∃ (s : State) (x : Exchange) (m : ModuleId) (o : BusOrder),
    s.awaits x m
      ∧ x.frame.content = .order o
      ∧ o.isMoney = false
      ∧ x.isResend = false
      ∧ timerDue (some x.window) s.now = true
      ∧ (s.module m).orderErrors + 8 < 96 :=
  ⟨((wall.mapBus fun b => { b with
                  outstanding := some
                    ⟨⟨1, .order (.statusQuery 3), .dispense, true⟩, false, ⟨999995#32, 10⟩, {}⟩ }).mapMgmt fun m =>
            { m with timeBase := 1000005#32 }),
      ⟨⟨1, .order (.statusQuery 3), .dispense, true⟩, false, ⟨999995#32, 10⟩, {}⟩, 0, .statusQuery 3, by decide +kernel⟩

theorem witness_ExchangesEndByTheirResult_6 : ∃ (s : State) (x : Exchange) (m : ModuleId) (r : BusReply) (o : BusOrder),
    s.awaits x m
      ∧ x.frame.content = .order o
      ∧ o.isMoney = false
      ∧ x.isResend = false
      ∧ x.window.past s.now = false
      ∧ damages r x
      ∧ (s.module m).replyErrors + 1 < 96 :=
  ⟨(wall.mapBus fun b => { b with outstanding := some ⟨⟨1, .order .lockBays, .cash, true⟩, false, ⟨999995#32, 10⟩, {}⟩ }),
      ⟨⟨1, .order .lockBays, .cash, true⟩, false, ⟨999995#32, 10⟩, {}⟩, 0, ⟨false, 0, 1, 4, 12, .plain⟩, .lockBays,
      by decide +kernel⟩

theorem witness_ExchangesEndByTheirResult_6b : ∃ (s : State) (x : Exchange) (m : ModuleId) (r : BusReply) (o : BusOrder),
    s.awaits x m
      ∧ x.frame.content = .order o
      ∧ o.isMoney = false
      ∧ x.isResend = false
      ∧ x.window.past s.now = false
      ∧ damages r x
      ∧ (s.module m).replyErrors + 1 < 96 :=
  ⟨(wall.mapBus fun b =>
            { b with outstanding := some ⟨⟨1, .order (.retract 3), .dispense, true⟩, false, ⟨999995#32, 10⟩, {}⟩ }),
      ⟨⟨1, .order (.retract 3), .dispense, true⟩, false, ⟨999995#32, 10⟩, {}⟩, 0, ⟨true, 0, 2, 4, 2, .plain⟩, .retract 3,
      by decide +kernel⟩

theorem witness_ExchangesEndByTheirResult_7 : ∃ (s : State) (x : Exchange) (m : ModuleId) (o : BusOrder),
    s.awaits x m
      ∧ x.frame.content = .order o
      ∧ o.unheeded = true
      ∧ x.isResend = true
      ∧ timerDue (some x.window) s.now = true
      ∧ (s.module m).orderErrors + 8 < 96 :=
  ⟨((wall.mapBus fun b =>
                { b with outstanding := some ⟨⟨1, .order .lockBays, .cash, true⟩, true, ⟨999995#32, 10⟩, {}⟩ }).mapMgmt
            fun m => { m with timeBase := 1000005#32 }), ⟨⟨1, .order .lockBays, .cash, true⟩, true, ⟨999995#32, 10⟩, {}⟩,
      0, .lockBays, by decide +kernel⟩

theorem witness_ExchangesEndByTheirResult_8 : ∃ (s : State) (x : Exchange) (m : ModuleId) (r : BusReply) (o : BusOrder),
    s.awaits x m
      ∧ x.frame.content = .order o
      ∧ o.unheeded = true
      ∧ x.isResend = true
      ∧ x.window.past s.now = false
      ∧ damages r x
      ∧ (s.module m).replyErrors + 1 < 96 :=
  ⟨(wall.mapBus fun b => { b with outstanding := some ⟨⟨1, .order .lockBays, .cash, true⟩, true, ⟨999995#32, 10⟩, {}⟩ }),
      ⟨⟨1, .order .lockBays, .cash, true⟩, true, ⟨999995#32, 10⟩, {}⟩, 0, ⟨true, 5, 1, 4, 12, .plain⟩, .lockBays,
      by decide +kernel⟩

theorem witness_ExchangesEndByTheirResult_9 : ∃ (s : State) (x : Exchange) (m : ModuleId) (o : BusOrder),
    s.awaits x m
      ∧ x.frame.content = .order o
      ∧ (o.isMoney = true ∨ x.isResend = true)
      ∧ timerDue (some x.window) s.now = true
      ∧ (s.module m).orderErrors + 8 < 96
      ∧ s.bus.resend = none :=
  ⟨((wall.mapBus fun b => { b with
                  outstanding := some
                    ⟨⟨1, .order (.pick 3 [⟨0, 2⟩]), .dispense, true⟩, false, ⟨999995#32, 10⟩, {}⟩ }).mapMgmt fun m =>
            { m with timeBase := 1000005#32 }),
      ⟨⟨1, .order (.pick 3 [⟨0, 2⟩]), .dispense, true⟩, false, ⟨999995#32, 10⟩, {}⟩, 0, .pick 3 [⟨0, 2⟩],
      by decide +kernel⟩

theorem witness_ExchangesEndByTheirResult_9b : ∃ (s : State) (x : Exchange) (m : ModuleId) (o : BusOrder),
    s.awaits x m
      ∧ x.frame.content = .order o
      ∧ (o.isMoney = true ∨ x.isResend = true)
      ∧ timerDue (some x.window) s.now = true
      ∧ (s.module m).orderErrors + 8 < 96
      ∧ s.bus.resend = none :=
  ⟨((wall.mapBus fun b => { b with
                  outstanding := some
                    ⟨⟨1, .order (.acceptBegin 0), .deposit, true⟩, false, ⟨999995#32, 10⟩, {}⟩ }).mapMgmt fun m =>
            { m with timeBase := 1000005#32 }),
      ⟨⟨1, .order (.acceptBegin 0), .deposit, true⟩, false, ⟨999995#32, 10⟩, {}⟩, 0, .acceptBegin 0, by decide +kernel⟩

theorem witness_ExchangesEndByTheirResult_9c : ∃ (s : State) (x : Exchange) (m : ModuleId) (o : BusOrder),
    s.awaits x m
      ∧ x.frame.content = .order o
      ∧ (o.isMoney = true ∨ x.isResend = true)
      ∧ timerDue (some x.window) s.now = true
      ∧ (s.module m).orderErrors + 8 < 96
      ∧ s.bus.resend = none :=
  ⟨((wall.mapBus fun b => { b with
                  outstanding := some ⟨⟨3, .order (.capture 0 4), .envelope, true⟩, false, ⟨999995#32, 10⟩, {}⟩ }).mapMgmt
            fun m => { m with timeBase := 1000005#32 }),
      ⟨⟨3, .order (.capture 0 4), .envelope, true⟩, false, ⟨999995#32, 10⟩, {}⟩, 2, .capture 0 4, by decide +kernel⟩

theorem witness_ExchangesEndByTheirResult_9d : ∃ (s : State) (x : Exchange) (m : ModuleId) (o : BusOrder),
    s.awaits x m
      ∧ x.frame.content = .order o
      ∧ (o.isMoney = true ∨ x.isResend = true)
      ∧ timerDue (some x.window) s.now = true
      ∧ (s.module m).orderErrors + 8 < 96
      ∧ s.bus.resend = none :=
  ⟨((wall.mapBus fun b => { b with
                  outstanding := some
                    ⟨⟨2, .order (.blowerMove 0 .toLane), .tube, true⟩, false, ⟨999995#32, 10⟩, {}⟩ }).mapMgmt fun m =>
            { m with timeBase := 1000005#32 }),
      ⟨⟨2, .order (.blowerMove 0 .toLane), .tube, true⟩, false, ⟨999995#32, 10⟩, {}⟩, 1, .blowerMove 0 .toLane,
      by decide +kernel⟩

theorem witness_ExchangesEndByTheirResult_9e : ∃ (s : State) (x : Exchange) (m : ModuleId) (o : BusOrder),
    s.awaits x m
      ∧ x.frame.content = .order o
      ∧ (o.isMoney = true ∨ x.isResend = true)
      ∧ timerDue (some x.window) s.now = true
      ∧ (s.module m).orderErrors + 8 < 96
      ∧ s.bus.resend = none :=
  ⟨((wall.mapBus fun b => { b with
                  outstanding := some
                    ⟨⟨1, .order (.statusQuery 3), .dispense, true⟩, true, ⟨999995#32, 10⟩, {}⟩ }).mapMgmt fun m =>
            { m with timeBase := 1000005#32 }),
      ⟨⟨1, .order (.statusQuery 3), .dispense, true⟩, true, ⟨999995#32, 10⟩, {}⟩, 0, .statusQuery 3, by decide +kernel⟩

theorem witness_ExchangesEndByTheirResult_10 : ∃ (s : State) (x : Exchange) (m : ModuleId) (r : BusReply) (o : BusOrder),
    s.awaits x m
      ∧ x.frame.content = .order o
      ∧ (o.isMoney = true ∨ x.isResend = true)
      ∧ x.window.past s.now = false
      ∧ damages r x
      ∧ (s.module m).replyErrors + 1 < 96
      ∧ s.bus.resend = none :=
  ⟨(wall.mapBus fun b =>
            { b with outstanding := some ⟨⟨1, .order (.pick 3 [⟨0, 2⟩]), .dispense, true⟩, false, ⟨999995#32, 10⟩, {}⟩ }),
      ⟨⟨1, .order (.pick 3 [⟨0, 2⟩]), .dispense, true⟩, false, ⟨999995#32, 10⟩, {}⟩, 0, ⟨false, 0, 1, 4, 1, .plain⟩,
      .pick 3 [⟨0, 2⟩], by decide +kernel⟩

theorem witness_ExchangesEndByTheirResult_11 : ∃ (s : State) (x : Exchange) (m : ModuleId),
    s.awaits x m
      ∧ x.frame.content = .poll
      ∧ timerDue (some x.window) s.now = true
      ∧ (s.module m).orderErrors + 8 < 96 :=
  ⟨((wall.mapBus fun b => { b with outstanding := some ⟨⟨1, .poll, .bus, true⟩, false, ⟨999995#32, 10⟩, {}⟩ }).mapMgmt fun
            m => { m with timeBase := 1000005#32 }), ⟨⟨1, .poll, .bus, true⟩, false, ⟨999995#32, 10⟩, {}⟩, 0,
      by decide +kernel⟩

theorem witness_ExchangesEndByTheirResult_12 : ∃ (s : State) (x : Exchange) (m : ModuleId) (r : BusReply),
    s.awaits x m
      ∧ x.frame.content = .poll
      ∧ x.window.past s.now = false
      ∧ damages r x
      ∧ (s.module m).replyErrors + 1 < 96 :=
  ⟨(wall.mapBus fun b => { b with outstanding := some ⟨⟨1, .poll, .bus, true⟩, false, ⟨999995#32, 10⟩, {}⟩ }),
      ⟨⟨1, .poll, .bus, true⟩, false, ⟨999995#32, 10⟩, {}⟩, 0, ⟨false, 0, 1, 6, 0, .poll 1 [.taken 3]⟩, by decide +kernel⟩

theorem witness_ExchangesEndByTheirResult_13 : ∃ (s : State) (x : Exchange) (m : ModuleId) (mark : Nat),
    s.bus.outstanding = some x
      ∧ x.frame.content = .poll
      ∧ s.nodeEntry x.frame.node = some m
      ∧ (s.module m).health ≠ .isolated
      ∧ timerDue (some x.window) s.now = true
      ∧ (mark = 96 ∨ mark = 128 ∨ mark = 256)
      ∧ (s.module m).orderErrors < mark
      ∧ mark ≤ (s.module m).orderErrors + 8
      ∧ (s.module m).mark mark = false :=
  ⟨(((wall).mapModule 3 fun e => { e with orderErrors := 88 }).mapBus fun b =>
            { b with outstanding := some ⟨⟨4, .poll, .bus, true⟩, false, ⟨999995#32, 10⟩, {}⟩ }).mapMgmt fun m =>
        { m with timeBase := 1000005#32 }, ⟨⟨4, .poll, .bus, true⟩, false, ⟨999995#32, 10⟩, {}⟩, 3, 96, by decide +kernel⟩

theorem witness_ExchangesEndByTheirResult_13b : ∃ (s : State) (x : Exchange) (m : ModuleId) (mark : Nat),
    s.bus.outstanding = some x
      ∧ x.frame.content = .poll
      ∧ s.nodeEntry x.frame.node = some m
      ∧ (s.module m).health ≠ .isolated
      ∧ timerDue (some x.window) s.now = true
      ∧ (mark = 96 ∨ mark = 128 ∨ mark = 256)
      ∧ (s.module m).orderErrors < mark
      ∧ mark ≤ (s.module m).orderErrors + 8
      ∧ (s.module m).mark mark = false :=
  ⟨(((wall).mapModule 0 fun e => { e with orderErrors := 127, health := .watch, mark96 := true }).mapBus fun b =>
            { b with outstanding := some ⟨⟨1, .poll, .bus, true⟩, false, ⟨999995#32, 10⟩, {}⟩ }).mapMgmt fun m =>
        { m with timeBase := 1000005#32 }, ⟨⟨1, .poll, .bus, true⟩, false, ⟨999995#32, 10⟩, {}⟩, 0, 128,
      by decide +kernel⟩

theorem witness_ExchangesEndByTheirResult_13c : ∃ (s : State) (x : Exchange) (m : ModuleId) (mark : Nat),
    s.bus.outstanding = some x
      ∧ x.frame.content = .poll
      ∧ s.nodeEntry x.frame.node = some m
      ∧ (s.module m).health ≠ .isolated
      ∧ timerDue (some x.window) s.now = true
      ∧ (mark = 96 ∨ mark = 128 ∨ mark = 256)
      ∧ (s.module m).orderErrors < mark
      ∧ mark ≤ (s.module m).orderErrors + 8
      ∧ (s.module m).mark mark = false :=
  ⟨(((wall).mapModule 1 fun e =>
                { e with orderErrors := 255, health := .restricted, mark96 := true, mark128 := true }).mapBus fun b =>
            { b with outstanding := some ⟨⟨2, .poll, .bus, true⟩, false, ⟨999995#32, 10⟩, {}⟩ }).mapMgmt fun m =>
        { m with timeBase := 1000005#32 }, ⟨⟨2, .poll, .bus, true⟩, false, ⟨999995#32, 10⟩, {}⟩, 1, 256,
      by decide +kernel⟩

theorem witness_ExchangesEndByTheirResult_14 : ∃ (s : State) (x : Exchange) (m : ModuleId) (r : BusReply) (mark : Nat),
    s.bus.outstanding = some x
      ∧ x.frame.content = .poll
      ∧ s.nodeEntry x.frame.node = some m
      ∧ (s.module m).health ≠ .isolated
      ∧ x.window.past s.now = false
      ∧ damages r x
      ∧ (mark = 96 ∨ mark = 128)
      ∧ (s.module m).replyErrors + 1 = mark
      ∧ (s.module m).orderErrors < 256
      ∧ (s.module m).mark mark = false :=
  ⟨((wall.mapModule 3 fun e => { e with replyErrors := 95 }).mapBus fun b =>
            { b with outstanding := some ⟨⟨4, .poll, .bus, true⟩, false, ⟨999995#32, 10⟩, {}⟩ }),
      ⟨⟨4, .poll, .bus, true⟩, false, ⟨999995#32, 10⟩, {}⟩, 3, ⟨false, 0, 4, 6, 0, .poll 1 []⟩, 96, by decide +kernel⟩

theorem witness_ExchangesEndByTheirResult_14b : ∃ (s : State) (x : Exchange) (m : ModuleId) (r : BusReply) (mark : Nat),
    s.bus.outstanding = some x
      ∧ x.frame.content = .poll
      ∧ s.nodeEntry x.frame.node = some m
      ∧ (s.module m).health ≠ .isolated
      ∧ x.window.past s.now = false
      ∧ damages r x
      ∧ (mark = 96 ∨ mark = 128)
      ∧ (s.module m).replyErrors + 1 = mark
      ∧ (s.module m).orderErrors < 256
      ∧ (s.module m).mark mark = false :=
  ⟨((wall.mapModule 0 fun e => { e with replyErrors := 127, health := .watch, mark96 := true }).mapBus fun b =>
            { b with outstanding := some ⟨⟨1, .poll, .bus, true⟩, false, ⟨999995#32, 10⟩, {}⟩ }),
      ⟨⟨1, .poll, .bus, true⟩, false, ⟨999995#32, 10⟩, {}⟩, 0, ⟨false, 0, 1, 6, 0, .poll 1 []⟩, 128, by decide +kernel⟩

theorem witness_ExchangesEndByTheirResult_15 : ∃ (s : State) (x : Exchange) (m : ModuleId),
    s.bus.outstanding = some x
      ∧ x.frame.content = .poll
      ∧ s.nodeEntry x.frame.node = some m
      ∧ (s.module m).health ≠ .isolated
      ∧ timerDue (some x.window) s.now = true
      ∧ (s.module m).orderErrors < 96
      ∧ 96 ≤ (s.module m).orderErrors + 8
      ∧ (s.module m).replyErrors < 128
      ∧ (s.module m).mark96 = true
      ∧ (s.module m).health ≠ .restricted
      ∧ (s.module m).kind ≠ .laneStation
      ∧ s.cash.workQueue = []
      ∧ s.tube.requests = [] :=
  ⟨(((wall).mapModule 0 fun e => { e with orderErrors := 90, mark96 := true }).mapBus fun b =>
            { b with outstanding := some ⟨⟨1, .poll, .bus, true⟩, false, ⟨999995#32, 10⟩, {}⟩ }).mapMgmt fun m =>
        { m with timeBase := 1000005#32 }, ⟨⟨1, .poll, .bus, true⟩, false, ⟨999995#32, 10⟩, {}⟩, 0, by decide +kernel⟩

theorem witness_ExchangesEndByTheirResult_16 : ∃ (s : State) (x : Exchange) (m : ModuleId) (l : Lane),
    s.bus.outstanding = some x
      ∧ x.frame.content = .poll
      ∧ s.nodeEntry x.frame.node = some m
      ∧ (s.module m).health ≠ .isolated
      ∧ timerDue (some x.window) s.now = true
      ∧ (s.module m).orderErrors < 128
      ∧ 128 ≤ (s.module m).orderErrors + 8
      ∧ (s.module m).health ≠ .restricted
      ∧ s.stationEntry l = some m :=
  ⟨(((wall).mapModule 2 fun e => { e with orderErrors := 120, health := .watch, mark96 := true }).mapBus fun b =>
            { b with outstanding := some ⟨⟨3, .poll, .bus, true⟩, false, ⟨999995#32, 10⟩, {}⟩ }).mapMgmt fun m =>
        { m with timeBase := 1000005#32 }, ⟨⟨3, .poll, .bus, true⟩, false, ⟨999995#32, 10⟩, {}⟩, 2, 0, by decide +kernel⟩

theorem witness_ExchangesEndByTheirResult_17 : ∃ (s : State) (x : Exchange) (m : ModuleId) (l : Lane),
    s.bus.outstanding = some x
      ∧ x.frame.content = .poll
      ∧ s.nodeEntry x.frame.node = some m
      ∧ (s.module m).health ≠ .isolated
      ∧ timerDue (some x.window) s.now = true
      ∧ (s.module m).orderErrors < 256
      ∧ 256 ≤ (s.module m).orderErrors + 8
      ∧ s.stationEntry l = some m
      ∧ s.mgmt.goPending = false :=
  ⟨(((dropping.mapBus fun b => { b with
                      outgoing :=
                        [⟨3, .order (.eject 0), .envelope, true⟩, ⟨4, .order (.eject 1), .envelope, true⟩] }).mapModule 2
                fun e => { e with orderErrors := 250, health := .restricted }).mapBus fun b =>
            { b with outstanding := some ⟨⟨3, .poll, .bus, true⟩, false, ⟨999995#32, 10⟩, {}⟩ }).mapMgmt fun m =>
        { m with timeBase := 1000005#32 }, ⟨⟨3, .poll, .bus, true⟩, false, ⟨999995#32, 10⟩, {}⟩, 2, 0, by decide +kernel⟩

theorem witness_ExchangesEndByTheirResult_18 : ∃ (s : State) (x : Exchange) (m : ModuleId),
    s.bus.outstanding = some x
      ∧ x.frame.content = .poll
      ∧ s.nodeEntry x.frame.node = some m
      ∧ (s.module m).health ≠ .isolated
      ∧ timerDue (some x.window) s.now = true
      ∧ (s.module m).orderErrors < 256
      ∧ 256 ≤ (s.module m).orderErrors + 8
      ∧ (s.module m).kind = .blower
      ∧ s.mgmt.goPending = false :=
  ⟨((((wall.mapCarrier 0 fun c => { c with location := .outbound, seated := false, bound := some 7 }).mapTube fun t =>
                    { t with blower := .moving 0, requests := [⟨3, .toLane, .customer, 5#32⟩] }).mapModule 1 fun e =>
                { e with orderErrors := 250, health := .restricted }).mapBus fun b =>
            { b with outstanding := some ⟨⟨2, .poll, .bus, true⟩, false, ⟨999995#32, 10⟩, {}⟩ }).mapMgmt fun m =>
        { m with timeBase := 1000005#32 }, ⟨⟨2, .poll, .bus, true⟩, false, ⟨999995#32, 10⟩, {}⟩, 1, by decide +kernel⟩

theorem witness_ExchangesEndByTheirResult_19 : ∃ (s : State) (x : Exchange) (m : ModuleId),
    s.bus.outstanding = some x
      ∧ x.frame.content = .poll
      ∧ s.nodeEntry x.frame.node = some m
      ∧ (s.module m).health ≠ .isolated
      ∧ timerDue (some x.window) s.now = true
      ∧ (s.module m).orderErrors < 256
      ∧ 256 ≤ (s.module m).orderErrors + 8
      ∧ s.recyclerEntry = some m
      ∧ s.cash.recycler ≠ .faulted
      ∧ (∀ e ∈ s.cash.workQueue, e.running = true) :=
  ⟨(((((paying (paid .presented)).setDispense 1 (some { paid .picking with id := 8, lane := 1 })).setDispense 2
                    (some { paid .taken with id := 9, lane := 2 }) |>.mapCash fun k =>
                    { k with recycler := .busy, workQueue := [⟨.pick 8 [⟨0, 2⟩] false, true⟩] }).mapModule 0 fun e =>
                { e with orderErrors := 250, health := .restricted }).mapBus fun b =>
            { b with outstanding := some ⟨⟨1, .poll, .bus, true⟩, false, ⟨999995#32, 10⟩, {}⟩ }).mapMgmt fun m =>
        { m with timeBase := 1000005#32 }, ⟨⟨1, .poll, .bus, true⟩, false, ⟨999995#32, 10⟩, {}⟩, 0, by decide +kernel⟩

theorem witness_EnvelopeReportsMoveTheCapture_1 : ∃ (s : State) (x : Exchange) (m : ModuleId) (r : BusReply) (cond : Nat) (l : Lane) (k : Lane),
    s.polled x m r cond [.envelopeInserted k]
      ∧ (s.module m).kind = .laneStation
      ∧ (s.module m).lane = numberOf l
      ∧ s.soundTables = true
      ∧ s.mgmt.partState = .inService
      ∧ s.alarm.lockdown = false
      ∧ s.envelope.safe = none
      ∧ (s.policy l).envelopeDrop = true
      ∧ (s.laneRec l).holds.envelope = false
      ∧ s.capture l = none
      ∧ s.envelope.count + s.inProgress < s.envelope.setting.value
      ∧ s.journalAdmits = true
      ∧ s.bus.outgoing.length < 48 :=
  ⟨polling wall 3, asked 3, 2, pollReply 3 [.envelopeInserted 0], 1, 0, 0, by decide +kernel⟩

theorem witness_EnvelopeReportsMoveTheCapture_2 : ∃ (s : State) (x : Exchange) (m : ModuleId) (r : BusReply) (cond : Nat) (l : Lane) (k : Lane) (c : Capture),
    s.polled x m r cond [.printed k c.number]
      ∧ (s.module m).kind = .laneStation
      ∧ (s.module m).lane = numberOf l
      ∧ s.capture l = some c :=
  ⟨polling dropping 3, asked 3, 2, pollReply 3 [.printed 0 4], 1, 0, 0,
      ⟨4, .printing, 985000#32, ⟨985000#32, 15000⟩, 3, false, false⟩, by decide +kernel⟩

theorem witness_EnvelopeReportsMoveTheCapture_3 : ∃ (s : State) (x : Exchange) (m : ModuleId) (r : BusReply) (cond : Nat) (l : Lane) (k : Lane) (c : Capture),
    s.polled x m r cond [.captured k c.number]
      ∧ (s.module m).kind = .laneStation
      ∧ (s.module m).lane = numberOf l
      ∧ s.capture l = some c :=
  ⟨polling dropping 3, asked 3, 2, pollReply 3 [.captured 0 4], 1, 0, 0,
      ⟨4, .printing, 985000#32, ⟨985000#32, 15000⟩, 3, false, false⟩, by decide +kernel⟩

theorem witness_EnvelopeReportsMoveTheCapture_4 : ∃ (s : State) (x : Exchange) (m : ModuleId) (r : BusReply) (cond : Nat) (l : Lane) (k : Lane) (c : Capture),
    s.polled x m r cond [.ejected k (some c.number)]
      ∧ (s.module m).kind = .laneStation
      ∧ (s.module m).lane = numberOf l
      ∧ s.capture l = some c :=
  ⟨polling dropping 3, asked 3, 2, pollReply 3 [.ejected 0 (some 4)], 1, 0, 0,
      ⟨4, .printing, 985000#32, ⟨985000#32, 15000⟩, 3, false, false⟩, by decide +kernel⟩

theorem witness_EnvelopeReportsMoveTheCapture_5 : ∃ (s : State) (x : Exchange) (m : ModuleId) (r : BusReply) (cond : Nat) (l : Lane) (k : Lane) (c : Capture),
    s.polled x m r cond [.jammed k c.number]
      ∧ (s.module m).kind = .laneStation
      ∧ (s.module m).lane = numberOf l
      ∧ s.capture l = some c :=
  ⟨polling dropping 3, asked 3, 2, pollReply 3 [.jammed 0 4], 1, 0, 0,
      ⟨4, .printing, 985000#32, ⟨985000#32, 15000⟩, 3, false, false⟩, by decide +kernel⟩

theorem witness_NoteReportsAreCounted_1 : ∃ (s : State) (x : Exchange) (m : ModuleId) (r : BusReply) (cond : Nat) (l : Lane) (y : Session) (before : List Transit) (rest : List Transit) (n : Transit) (d : StackDest) (i : DenomId) (byDefault : Bool),
    s.polled x m r cond [.noteStacked l n.note d byDefault]
      ∧ (s.module m).kind = .recycler
      ∧ s.soundTables = true
      ∧ s.session l = some y
      ∧ y.state = .active
      ∧ y.transit = before ++ n :: rest
      ∧ (∀ e ∈ before, e.note ≠ n.note)
      ∧ n.dest = .store d
      ∧ n.denom = numberOf i
      ∧ 1 ≤ (s.cash.denominations[i]).value
      ∧ y.committed < 500
      ∧ y.value + (s.cash.denominations[i]).value ≤ max32
      ∧ s.cash.recycler = .busy
      ∧ (s.cassette (stackCassette d)).out = false
      ∧ (s.cassette (stackCassette d)).unreconciled = false
      ∧ (s.cassette (stackCassette d)).count < capacity (stackCassette d)
      ∧ (s.cassette (stackCassette d)).stacked < max32 :=
  ⟨polling ((banking { accepting .active with transit := [⟨6, 1, .store 0⟩] }).raiseInbound 0) 1, asked 1, 0,
      pollReply 1 [.noteStacked 0 6 0 false], 1, 0, { accepting .active with transit := [⟨6, 1, .store 0⟩] }, [], [],
      ⟨6, 1, .store 0⟩, 0, 0, false, by decide +kernel⟩

theorem witness_NoteReportsAreCounted_1b : ∃ (s : State) (x : Exchange) (m : ModuleId) (r : BusReply) (cond : Nat) (l : Lane) (y : Session) (before : List Transit) (rest : List Transit) (n : Transit) (d : StackDest) (i : DenomId) (byDefault : Bool),
    s.polled x m r cond [.noteStacked l n.note d byDefault]
      ∧ (s.module m).kind = .recycler
      ∧ s.soundTables = true
      ∧ s.session l = some y
      ∧ y.state = .active
      ∧ y.transit = before ++ n :: rest
      ∧ (∀ e ∈ before, e.note ≠ n.note)
      ∧ n.dest = .store d
      ∧ n.denom = numberOf i
      ∧ 1 ≤ (s.cash.denominations[i]).value
      ∧ y.committed < 500
      ∧ y.value + (s.cash.denominations[i]).value ≤ max32
      ∧ s.cash.recycler = .busy
      ∧ (s.cassette (stackCassette d)).out = false
      ∧ (s.cassette (stackCassette d)).unreconciled = false
      ∧ (s.cassette (stackCassette d)).count < capacity (stackCassette d)
      ∧ (s.cassette (stackCassette d)).stacked < max32 :=
  ⟨polling ((banking { accepting .active with
                  transit := [⟨5, 2, .toCustomer⟩, ⟨6, 1, .store 0⟩, ⟨6, 2, .store 1⟩] }).raiseInbound 0) 1, asked 1, 0,
      pollReply 1 [.noteStacked 0 6 0 false], 1, 0,
      { accepting .active with transit := [⟨5, 2, .toCustomer⟩, ⟨6, 1, .store 0⟩, ⟨6, 2, .store 1⟩] },
      [⟨5, 2, .toCustomer⟩], [⟨6, 2, .store 1⟩], ⟨6, 1, .store 0⟩, 0, 0, false, by decide +kernel⟩

theorem witness_NoteReportsAreCounted_2 : ∃ (s : State) (x : Exchange) (m : ModuleId) (r : BusReply) (cond : Nat) (l : Lane) (y : Session) (before : List Transit) (rest : List Transit) (n : Transit) (d : StackDest) (i : DenomId) (byDefault : Bool),
    s.polled x m r cond [.noteStacked l n.note d byDefault]
      ∧ (s.module m).kind = .recycler
      ∧ s.soundTables = true
      ∧ s.session l = some y
      ∧ y.state = .active
      ∧ y.transit = before ++ n :: rest
      ∧ (∀ e ∈ before, e.note ≠ n.note)
      ∧ n.dest ≠ .store d
      ∧ n.denom = numberOf i
      ∧ 1 ≤ (s.cash.denominations[i]).value
      ∧ (if n.dest = .toCustomer then y.committed + 1 else y.committed) < 500
      ∧ y.value + (s.cash.denominations[i]).value ≤ max32
      ∧ s.cash.recycler = .busy
      ∧ (s.cassette (stackCassette d)).out = false
      ∧ (s.cassette (stackCassette d)).unreconciled = false
      ∧ (s.cassette (stackCassette d)).count < capacity (stackCassette d)
      ∧ (s.cassette (stackCassette d)).stacked < max32 :=
  ⟨polling ((banking { accepting .active with transit := [⟨6, 1, .store 0⟩] }).raiseInbound 0) 1, asked 1, 0,
      pollReply 1 [.noteStacked 0 6 6 true], 1, 0, { accepting .active with transit := [⟨6, 1, .store 0⟩] }, [], [],
      ⟨6, 1, .store 0⟩, 6, 0, true, by decide +kernel⟩

theorem witness_NoteReportsAreCounted_2b : ∃ (s : State) (x : Exchange) (m : ModuleId) (r : BusReply) (cond : Nat) (l : Lane) (y : Session) (before : List Transit) (rest : List Transit) (n : Transit) (d : StackDest) (i : DenomId) (byDefault : Bool),
    s.polled x m r cond [.noteStacked l n.note d byDefault]
      ∧ (s.module m).kind = .recycler
      ∧ s.soundTables = true
      ∧ s.session l = some y
      ∧ y.state = .active
      ∧ y.transit = before ++ n :: rest
      ∧ (∀ e ∈ before, e.note ≠ n.note)
      ∧ n.dest ≠ .store d
      ∧ n.denom = numberOf i
      ∧ 1 ≤ (s.cash.denominations[i]).value
      ∧ (if n.dest = .toCustomer then y.committed + 1 else y.committed) < 500
      ∧ y.value + (s.cash.denominations[i]).value ≤ max32
      ∧ s.cash.recycler = .busy
      ∧ (s.cassette (stackCassette d)).out = false
      ∧ (s.cassette (stackCassette d)).unreconciled = false
      ∧ (s.cassette (stackCassette d)).count < capacity (stackCassette d)
      ∧ (s.cassette (stackCassette d)).stacked < max32 :=
  ⟨polling (banking { accepting .active with transit := [⟨6, 1, .toCustomer⟩] }) 1, asked 1, 0,
      pollReply 1 [.noteStacked 0 6 6 true], 1, 0, { accepting .active with transit := [⟨6, 1, .toCustomer⟩] }, [], [],
      ⟨6, 1, .toCustomer⟩, 6, 0, true, by decide +kernel⟩

theorem witness_NoteReportsAreCounted_3 : ∃ (s : State) (x : Exchange) (m : ModuleId) (r : BusReply) (cond : Nat) (l : Lane) (y : Session) (before : List Transit) (rest : List Transit) (n : Transit) (d : StackDest) (own : Bool),
    s.polled x m r cond [.noteReturned l n.note own]
      ∧ (s.module m).kind = .recycler
      ∧ s.soundTables = true
      ∧ s.session l = some y
      ∧ y.state = .active
      ∧ y.transit = before ++ n :: rest
      ∧ (∀ e ∈ before, e.note ≠ n.note)
      ∧ n.dest = .store d
      ∧ y.returned < 65535
      ∧ s.cash.recycler = .busy :=
  ⟨polling ((banking { accepting .active with transit := [⟨6, 1, .store 0⟩], committed := 1 }).raiseInbound 0) 1, asked 1,
      0, pollReply 1 [.noteReturned 0 6 true], 1, 0,
      { accepting .active with transit := [⟨6, 1, .store 0⟩], committed := 1 }, [], [], ⟨6, 1, .store 0⟩, 0, true,
      by decide +kernel⟩

theorem witness_NoteReportsAreCounted_4 : ∃ (s : State) (x : Exchange) (m : ModuleId) (r : BusReply) (cond : Nat) (l : Lane) (y : Session) (n : Nat) (d : StackDest) (i : DenomId),
    s.polled x m r cond [.noteValidated l n (numberOf i)]
      ∧ (s.module m).kind = .recycler
      ∧ s.recyclerEntry = some m
      ∧ s.soundTables = true
      ∧ s.session l = some y
      ∧ y.state = .active
      ∧ y.transit.length < 8
      ∧ y.committed + 1 < 500
      ∧ 1 ≤ (s.cash.denominations[i]).value
      ∧ s.recycles i (stackCassette d) = true
      ∧ isWork (stackCassette d) = true
      ∧ (∀ k : CassetteId,
            isWork k = true → s.recycles i k = true → k ≠ stackCassette d → (s.cassette (stackCassette d)).count +
              (s.cassette (stackCassette d)).inbound < (s.cassette k).count + (s.cassette k).inbound ∨
              (s.cassette (stackCassette d)).count + (s.cassette (stackCassette d)).inbound = (s.cassette k).count +
              (s.cassette k).inbound ∧ stackCassette d < k)
      ∧ s.bus.outgoing.length < 48 :=
  ⟨polling (banking (accepting .active)) 1, asked 1, 0, pollReply 1 [.noteValidated 0 6 2], 1, 0, accepting .active, 6, 1,
      1, by decide +kernel⟩

theorem witness_NoteReportsAreCounted_5 : ∃ (s : State) (x : Exchange) (m : ModuleId) (r : BusReply) (cond : Nat) (l : Lane) (y : Session) (n : Nat) (d : Nat),
    s.polled x m r cond [.noteValidated l n d]
      ∧ (s.module m).kind = .recycler
      ∧ s.recyclerEntry = some m
      ∧ s.session l = some y
      ∧ y.state = .ending
      ∧ y.transit.length < 8
      ∧ s.bus.outgoing.length < 48 :=
  ⟨polling (banking (accepting .ending)) 1, asked 1, 0, pollReply 1 [.noteValidated 0 6 99], 1, 0, accepting .ending, 6,
      99, by decide +kernel⟩

theorem witness_NoteReportsAreCounted_6 : ∃ (s : State) (x : Exchange) (m : ModuleId) (r : BusReply) (cond : Nat) (l : Lane) (y : Session) (before : List Transit) (rest : List Transit) (n : Transit) (own : Bool),
    s.polled x m r cond [.noteReturned l n.note own]
      ∧ (s.module m).kind = .recycler
      ∧ s.soundTables = true
      ∧ s.session l = some y
      ∧ y.state = .active
      ∧ y.transit = before ++ n :: rest
      ∧ (∀ e ∈ before, e.note ≠ n.note)
      ∧ n.dest = .toCustomer
      ∧ y.returned < 65535
      ∧ s.cash.recycler = .busy :=
  ⟨polling (banking { accepting .active with transit := [⟨6, 1, .toCustomer⟩] }) 1, asked 1, 0,
      pollReply 1 [.noteReturned 0 6 false], 1, 0, { accepting .active with transit := [⟨6, 1, .toCustomer⟩] }, [], [],
      ⟨6, 1, .toCustomer⟩, false, by decide +kernel⟩

theorem witness_NoteReportsAreCounted_7 : ∃ (s : State) (x : Exchange) (m : ModuleId) (r : BusReply) (cond : Nat) (l : Lane) (n : Nat) (d : StackDest) (byDefault : Bool),
    s.polled x m r cond [.noteStacked l n d byDefault]
      ∧ (s.module m).kind = .recycler
      ∧ s.soundTables = true
      ∧ (∀ y ∈ s.session l, y.state = .queued ∧ y.transit = [])
      ∧ s.cash.recycler = .busy :=
  ⟨polling (banking (accepting .queued)) 1, asked 1, 0, pollReply 1 [.noteStacked 0 6 0 false], 1, 0, 6, 0, false,
      by decide +kernel⟩

theorem witness_NoteReportsAreCounted_7b : ∃ (s : State) (x : Exchange) (m : ModuleId) (r : BusReply) (cond : Nat) (l : Lane) (n : Nat) (d : StackDest) (byDefault : Bool),
    s.polled x m r cond [.noteStacked l n d byDefault]
      ∧ (s.module m).kind = .recycler
      ∧ s.soundTables = true
      ∧ (∀ y ∈ s.session l, y.state = .queued ∧ y.transit = [])
      ∧ s.cash.recycler = .busy :=
  ⟨polling (banking (accepting .queued)) 1, asked 1, 0, pollReply 1 [.noteStacked 3 6 6 true], 1, 3, 6, 6, true,
      by decide +kernel⟩

theorem witness_NoteReportsAreCounted_8 : ∃ (s : State) (x : Exchange) (m : ModuleId) (r : BusReply) (cond : Nat) (l : Lane) (n : Nat) (own : Bool),
    s.polled x m r cond [.noteReturned l n own]
      ∧ (s.module m).kind = .recycler
      ∧ s.soundTables = true
      ∧ (∀ y ∈ s.session l, y.state = .queued ∧ y.transit = [])
      ∧ s.cash.recycler = .busy :=
  ⟨polling (banking (accepting .queued)) 1, asked 1, 0, pollReply 1 [.noteReturned 0 6 true], 1, 0, 6, true,
      by decide +kernel⟩

theorem witness_NoteReportsAreCounted_9 : ∃ (s : State) (x : Exchange) (m : ModuleId) (r : BusReply) (cond : Nat) (l : Lane) (y : Session),
    s.polled x m r cond [.noteRejected l]
      ∧ (s.module m).kind = .recycler
      ∧ s.soundTables = true
      ∧ s.session l = some y
      ∧ (y.state = .active ∨ y.state = .ending)
      ∧ y.returned < 65535 :=
  ⟨polling (banking (accepting .active)) 1, asked 1, 0, pollReply 1 [.noteRejected 0], 1, 0, accepting .active,
      by decide +kernel⟩

theorem witness_NoteReportsAreCounted_9b : ∃ (s : State) (x : Exchange) (m : ModuleId) (r : BusReply) (cond : Nat) (l : Lane) (y : Session),
    s.polled x m r cond [.noteRejected l]
      ∧ (s.module m).kind = .recycler
      ∧ s.soundTables = true
      ∧ s.session l = some y
      ∧ (y.state = .active ∨ y.state = .ending)
      ∧ y.returned < 65535 :=
  ⟨polling (banking (accepting .ending)) 1, asked 1, 0, pollReply 1 [.noteRejected 0], 1, 0, accepting .ending,
      by decide +kernel⟩

theorem witness_NoteReportsAreCounted_10 : ∃ (s : State) (x : Exchange) (m : ModuleId) (r : BusReply) (cond : Nat) (l : Lane) (y : Session),
    s.polled x m r cond [.acceptEnded l]
      ∧ (s.module m).kind = .recycler
      ∧ s.session l = some y
      ∧ y.state = .ending
      ∧ y.transit = []
      ∧ s.bus.outgoing.length < 48 :=
  ⟨polling (banking { accepting .ending with value := 60 }) 1, asked 1, 0, pollReply 1 [.acceptEnded 0], 1, 0,
      { accepting .ending with value := 60 }, by decide +kernel⟩

theorem witness_NoteReportsAreCounted_11 : ∃ (s : State) (x : Exchange) (m : ModuleId) (r : BusReply) (cond : Nat) (l : Lane) (y : Session),
    s.polled x m r cond [.depositJam l]
      ∧ (s.module m).kind = .recycler
      ∧ s.session l = some y
      ∧ (y.state = .active ∨ y.state = .ending)
      ∧ y.transit = [] :=
  ⟨polling (banking (accepting .active)) 1, asked 1, 0, pollReply 1 [.depositJam 0], 1, 0, accepting .active,
      by decide +kernel⟩

theorem witness_NoteReportsAreCounted_12 : ∃ (s : State) (x : Exchange) (m : ModuleId) (r : BusReply) (cond : Nat) (l : Lane) (y : Session),
    s.polled x m r cond [.depositJam l]
      ∧ (s.module m).kind = .recycler
      ∧ s.soundTables = true
      ∧ s.session l = some y
      ∧ (y.state = .active ∨ y.state = .ending) :=
  ⟨polling (((banking { accepting .active with
                      transit := [⟨6, 1, .store 0⟩, ⟨7, 2, .store 0⟩, ⟨8, 2, .toCustomer⟩] }).raiseInbound 0).raiseInbound
            0) 1, asked 1, 0, pollReply 1 [.depositJam 0], 1, 0,
      { accepting .active with transit := [⟨6, 1, .store 0⟩, ⟨7, 2, .store 0⟩, ⟨8, 2, .toCustomer⟩] }, by decide +kernel⟩

theorem witness_PickAndTrayReportsMoveTheDispense_1 : ∃ (s : State) (x : Exchange) (m : ModuleId) (r : BusReply) (cond : Nat) (i : DispenseSlot) (p : DispenseRecord) (tag : Nat) (status : Nat) (n : Nat) (q : Nat) (c : Fin 6) (k : CassetteId),
    s.pickReported x m r cond i p tag status c k n q
      ∧ (status = 1 ∨ status = 2)
      ∧ s.worthAfter p c n = p.amount
      ∧ s.alarm.lockdown = false :=
  ⟨polling (paying (paid .picking)) 1, asked 1, 0, pollReply 1 [.pickReport ⟨3, 1, [⟨1, 2, 0⟩]⟩], 1, 0, paid .picking, 3,
      1, 2, 0, 0, 0, by decide +kernel⟩

theorem witness_PickAndTrayReportsMoveTheDispense_1b : ∃ (s : State) (x : Exchange) (m : ModuleId) (r : BusReply) (cond : Nat) (i : DispenseSlot) (p : DispenseRecord) (tag : Nat) (status : Nat) (n : Nat) (q : Nat) (c : Fin 6) (k : CassetteId),
    s.pickReported x m r cond i p tag status c k n q
      ∧ (status = 1 ∨ status = 2)
      ∧ s.worthAfter p c n = p.amount
      ∧ s.alarm.lockdown = false :=
  ⟨polling ((paying
                { paid .picking with reportTimer := some ⟨999000#32, 30000⟩, rejected := Vector.replicate 6 0 }).mapCash
            fun k => { k with
              recycler := .busy
              workQueue := [⟨.pick 7 [⟨0, 2⟩] false, true⟩]
              cassettes := k.cassettes.set 0 { stock 0 with count := 102 } }) 1, asked 1, 0,
      pollReply 1 [.pickReport ⟨3, 2, [⟨1, 2, 100⟩]⟩], 1, 0,
      { paid .picking with reportTimer := some ⟨999000#32, 30000⟩, rejected := Vector.replicate 6 0 }, 3, 2, 2, 100, 0, 0,
      by decide +kernel⟩

theorem witness_PickAndTrayReportsMoveTheDispense_1c : ∃ (s : State) (x : Exchange) (m : ModuleId) (r : BusReply) (cond : Nat) (i : DispenseSlot) (p : DispenseRecord) (tag : Nat) (status : Nat) (n : Nat) (q : Nat) (c : Fin 6) (k : CassetteId),
    s.pickReported x m r cond i p tag status c k n q
      ∧ (status = 1 ∨ status = 2)
      ∧ s.worthAfter p c n = p.amount
      ∧ s.alarm.lockdown = false :=
  ⟨polling ((paying { paid .picking with reportTimer := some ⟨999000#32, 30000⟩ }).mapCash fun k =>
            { k with recycler := .busy, workQueue := [⟨.pick 7 [⟨0, 2⟩] false, true⟩] }) 1, asked 1, 0,
      pollReply 1 [.pickReport ⟨3, 1, [⟨2, 8, 0⟩]⟩], 1, 0, { paid .picking with reportTimer := some ⟨999000#32, 30000⟩ },
      3, 1, 8, 0, 1, 1, by decide +kernel⟩

theorem witness_PickAndTrayReportsMoveTheDispense_2 : ∃ (s : State) (x : Exchange) (m : ModuleId) (r : BusReply) (cond : Nat) (i : DispenseSlot) (p : DispenseRecord) (tag : Nat) (status : Nat) (n : Nat) (q : Nat) (c : Fin 6) (k : CassetteId),
    s.pickReported x m r cond i p tag status c k n q
      ∧ (status = 1 ∨ status = 2)
      ∧ p.amount < s.worthAfter p c n
      ∧ s.alarm.lockdown = false :=
  ⟨polling ((paying { paid .picking with reportTimer := some ⟨999000#32, 30000⟩ }).mapCash fun k =>
            { k with recycler := .busy, workQueue := [⟨.pick 7 [⟨0, 2⟩] false, true⟩] }) 1, asked 1, 0,
      pollReply 1 [.pickReport ⟨3, 1, [⟨1, 3, 0⟩]⟩], 1, 0, { paid .picking with reportTimer := some ⟨999000#32, 30000⟩ },
      3, 1, 3, 0, 0, 0, by decide +kernel⟩

theorem witness_PickAndTrayReportsMoveTheDispense_3 : ∃ (s : State) (x : Exchange) (m : ModuleId) (r : BusReply) (cond : Nat) (i : DispenseSlot) (p : DispenseRecord) (tag : Nat) (status : Nat) (n : Nat) (q : Nat) (c : Fin 6) (k : CassetteId),
    s.pickReported x m r cond i p tag status c k n q
      ∧ (status = 1 ∨ status = 2)
      ∧ s.worthAfter p c n < p.amount
      ∧ 0 < s.worthAfter p c n
      ∧ s.worthAfter p c n ≤ p.charge
      ∧ (p.flags.toppedUp = true ∨ 240 < (s.cassette cassetteP).count + q)
      ∧ s.alarm.lockdown = false
      ∧ (s.authority p.index).credential = p.credential :=
  ⟨polling ((paying { paid .picking with reportTimer := some ⟨999000#32, 30000⟩, flags := { toppedUp := true } }).mapCash
            fun k => { k with recycler := .busy, workQueue := [⟨.pick 7 [⟨0, 2⟩] false, true⟩] }) 1, asked 1, 0,
      pollReply 1 [.pickReport ⟨3, 2, [⟨1, 1, 1⟩]⟩], 1, 0,
      { paid .picking with reportTimer := some ⟨999000#32, 30000⟩, flags := { toppedUp := true } }, 3, 2, 1, 1, 0, 0,
      by decide +kernel⟩

theorem witness_PickAndTrayReportsMoveTheDispense_3b : ∃ (s : State) (x : Exchange) (m : ModuleId) (r : BusReply) (cond : Nat) (i : DispenseSlot) (p : DispenseRecord) (tag : Nat) (status : Nat) (n : Nat) (q : Nat) (c : Fin 6) (k : CassetteId),
    s.pickReported x m r cond i p tag status c k n q
      ∧ (status = 1 ∨ status = 2)
      ∧ s.worthAfter p c n < p.amount
      ∧ 0 < s.worthAfter p c n
      ∧ s.worthAfter p c n ≤ p.charge
      ∧ (p.flags.toppedUp = true ∨ 240 < (s.cassette cassetteP).count + q)
      ∧ s.alarm.lockdown = false
      ∧ (s.authority p.index).credential = p.credential :=
  ⟨polling ((paying { paid .picking with reportTimer := some ⟨999000#32, 30000⟩ }).mapCash fun k => { k with
              recycler := .busy
              workQueue := [⟨.pick 7 [⟨0, 2⟩] false, true⟩]
              cassettes := k.cassettes.set 7 { count := 240 } }) 1, asked 1, 0,
      pollReply 1 [.pickReport ⟨3, 2, [⟨1, 1, 1⟩]⟩], 1, 0, { paid .picking with reportTimer := some ⟨999000#32, 30000⟩ },
      3, 2, 1, 1, 0, 0, by decide +kernel⟩

theorem witness_PickAndTrayReportsMoveTheDispense_4 : ∃ (s : State) (x : Exchange) (m : ModuleId) (r : BusReply) (cond : Nat) (i : DispenseSlot) (p : DispenseRecord) (tag : Nat) (status : Nat) (n : Nat) (q : Nat) (c : Fin 6) (k : CassetteId),
    s.pickReported x m r cond i p tag status c k n q
      ∧ (status = 1 ∨ status = 2)
      ∧ s.worthAfter p c n = 0
      ∧ 0 < p.amount
      ∧ p.presented = Vector.replicate 6 0
      ∧ n = 0
      ∧ (p.flags.toppedUp = true ∨ 240 < (s.cassette cassetteP).count + q)
      ∧ (s.authority p.index).credential = p.credential
      ∧ s.bus.outgoing.length < 48 :=
  ⟨polling ((paying { paid .picking with reportTimer := some ⟨999000#32, 30000⟩, flags := { toppedUp := true } }).mapCash
            fun k => { k with recycler := .busy, workQueue := [⟨.pick 7 [⟨0, 2⟩] false, true⟩] }) 1, asked 1, 0,
      pollReply 1 [.pickReport ⟨3, 2, [⟨1, 0, 2⟩]⟩], 1, 0,
      { paid .picking with reportTimer := some ⟨999000#32, 30000⟩, flags := { toppedUp := true } }, 3, 2, 0, 2, 0, 0,
      by decide +kernel⟩

theorem witness_PickAndTrayReportsMoveTheDispense_5 : ∃ (s : State) (x : Exchange) (m : ModuleId) (r : BusReply) (cond : Nat) (i : DispenseSlot) (p : DispenseRecord) (tag : Nat) (status : Nat) (n : Nat) (q : Nat) (c : Fin 6) (k : CassetteId) (items : List PlanItem),
    s.pickReported x m r cond i p tag status c k n q
      ∧ (status = 1 ∨ status = 2)
      ∧ s.worthAfter p c n < p.amount
      ∧ p.flags.toppedUp = false
      ∧ s.alarm.lockdown = false
      ∧ s.recyclerEntry = some m
      ∧ (s.cassette cassetteP).count + q ≤ 240
      ∧ (s.cassette cassetteP).out = false ∧ (s.cassette cassetteP).suspended = false
      ∧ s.trayFree = true
      ∧ s.dispenseOf p.id = some i
      ∧ s.runsOnly p.id
      ∧ s.bus.outgoing.length < 48
      ∧ n < s.cash.planner.value
      ∧ mixOf ({ s with cash := { s.cash with cassettes := s.cassettesPicked k n q } }.eligibleList
              (if n = 0 ∧ 1 ≤ q then [k] else [])) (p.amount - s.worthAfter p c n) (s.cash.planner.value - n) = .plan
          items :=
  ⟨polling ((paying { paid .picking with reportTimer := some ⟨999000#32, 30000⟩ }).mapCash fun k =>
            { k with recycler := .busy, workQueue := [⟨.pick 7 [⟨0, 2⟩] false, true⟩] }) 1, asked 1, 0,
      pollReply 1 [.pickReport ⟨3, 2, [⟨1, 1, 1⟩]⟩], 1, 0, { paid .picking with reportTimer := some ⟨999000#32, 30000⟩ },
      3, 2, 1, 1, 0, 0, [⟨0, 1⟩], by decide +kernel⟩

theorem witness_PickAndTrayReportsMoveTheDispense_5b : ∃ (s : State) (x : Exchange) (m : ModuleId) (r : BusReply) (cond : Nat) (i : DispenseSlot) (p : DispenseRecord) (tag : Nat) (status : Nat) (n : Nat) (q : Nat) (c : Fin 6) (k : CassetteId) (items : List PlanItem),
    s.pickReported x m r cond i p tag status c k n q
      ∧ (status = 1 ∨ status = 2)
      ∧ s.worthAfter p c n < p.amount
      ∧ p.flags.toppedUp = false
      ∧ s.alarm.lockdown = false
      ∧ s.recyclerEntry = some m
      ∧ (s.cassette cassetteP).count + q ≤ 240
      ∧ (s.cassette cassetteP).out = false ∧ (s.cassette cassetteP).suspended = false
      ∧ s.trayFree = true
      ∧ s.dispenseOf p.id = some i
      ∧ s.runsOnly p.id
      ∧ s.bus.outgoing.length < 48
      ∧ n < s.cash.planner.value
      ∧ mixOf ({ s with cash := { s.cash with cassettes := s.cassettesPicked k n q } }.eligibleList
              (if n = 0 ∧ 1 ≤ q then [k] else [])) (p.amount - s.worthAfter p c n) (s.cash.planner.value - n) = .plan
          items :=
  ⟨polling ((paying { paid .picking with reportTimer := some ⟨999000#32, 30000⟩ }).mapCash fun k =>
            { k with recycler := .busy, workQueue := [⟨.pick 7 [⟨0, 2⟩] false, true⟩] }) 1, asked 1, 0,
      pollReply 1 [.pickReport ⟨3, 2, [⟨1, 0, 1⟩]⟩], 1, 0, { paid .picking with reportTimer := some ⟨999000#32, 30000⟩ },
      3, 2, 0, 1, 0, 0, [⟨1, 8⟩], by decide +kernel⟩

theorem witness_PickAndTrayReportsMoveTheDispense_6 : ∃ (s : State) (x : Exchange) (m : ModuleId) (r : BusReply) (cond : Nat) (i : DispenseSlot) (p : DispenseRecord) (tag : Nat) (n : Nat) (q : Nat) (c : Fin 6) (k : CassetteId),
    s.pickReported x m r cond i p tag 3 c k n q
      ∧ 0 < s.worthAfter p c n
      ∧ s.worthAfter p c n ≤ p.amount
      ∧ s.worthAfter p c n ≤ p.charge
      ∧ s.alarm.lockdown = false
      ∧ s.cash.recycler ≠ .faulted
      ∧ s.cash.workQueue.all (fun e => e.running) = true
      ∧ (s.authority p.index).credential = p.credential :=
  ⟨polling ((paying { paid .picking with reportTimer := some ⟨999000#32, 30000⟩ }).mapCash fun k =>
            { k with recycler := .busy, workQueue := [⟨.pick 7 [⟨0, 2⟩] false, true⟩] }) 1, asked 1, 0,
      pollReply 1 [.pickReport ⟨3, 3, [⟨1, 2, 0⟩]⟩], 1, 0, { paid .picking with reportTimer := some ⟨999000#32, 30000⟩ },
      3, 2, 0, 0, 0, by decide +kernel⟩

theorem witness_PickAndTrayReportsMoveTheDispense_6b : ∃ (s : State) (x : Exchange) (m : ModuleId) (r : BusReply) (cond : Nat) (i : DispenseSlot) (p : DispenseRecord) (tag : Nat) (n : Nat) (q : Nat) (c : Fin 6) (k : CassetteId),
    s.pickReported x m r cond i p tag 3 c k n q
      ∧ 0 < s.worthAfter p c n
      ∧ s.worthAfter p c n ≤ p.amount
      ∧ s.worthAfter p c n ≤ p.charge
      ∧ s.alarm.lockdown = false
      ∧ s.cash.recycler ≠ .faulted
      ∧ s.cash.workQueue.all (fun e => e.running) = true
      ∧ (s.authority p.index).credential = p.credential :=
  ⟨polling ((paying { paid .picking with reportTimer := some ⟨999000#32, 30000⟩ }).mapCash fun k =>
            { k with recycler := .busy, workQueue := [⟨.pick 7 [⟨0, 2⟩] false, true⟩] }) 1, asked 1, 0,
      pollReply 1 [.pickReport ⟨3, 3, [⟨1, 1, 0⟩]⟩], 1, 0, { paid .picking with reportTimer := some ⟨999000#32, 30000⟩ },
      3, 1, 0, 0, 0, by decide +kernel⟩

theorem witness_PickAndTrayReportsMoveTheDispense_7 : ∃ (s : State) (x : Exchange) (m : ModuleId) (r : BusReply) (cond : Nat) (i : DispenseSlot) (p : DispenseRecord) (tag : Nat),
    s.polled x m r cond [.taken tag]
      ∧ (s.module m).kind = .recycler
      ∧ s.withTag tag = some i
      ∧ s.dispense.records[i] = some p
      ∧ p.state = .presented
      ∧ p.flags.retractOrdered = false
      ∧ s.cash.workQueue = [] :=
  ⟨polling (paying { paid .presented with presentTimer := some due }) 1, asked 1, 0, pollReply 1 [.taken 3], 1, 0,
      { paid .presented with presentTimer := some due }, 3, by decide +kernel⟩

theorem witness_PickAndTrayReportsMoveTheDispense_8 : ∃ (s : State) (x : Exchange) (m : ModuleId) (r : BusReply) (cond : Nat) (i : DispenseSlot) (p : DispenseRecord) (tag : Nat) (n : Nat),
    s.polled x m r cond [.retracted tag n]
      ∧ (s.module m).kind = .recycler
      ∧ s.soundTables = true
      ∧ s.findDispense (fun q => q.pickTag == some tag && q.flags.retractOrdered) = some i
      ∧ s.dispense.records[i] = some p
      ∧ n ≤ 100
      ∧ (s.cassette cassetteP).count + n ≤ 300
      ∧ (s.cassette cassetteP).retractedIn + n ≤ max32
      ∧ (s.authority p.index).credential = p.credential
      ∧ s.cash.workQueue = [] :=
  ⟨polling (paying { paid .presented with flags := { retractOrdered := true } }) 1, asked 1, 0,
      pollReply 1 [.retracted 3 100], 1, 0, { paid .presented with flags := { retractOrdered := true } }, 3, 100,
      by decide +kernel⟩

end Sys2Proof.Tests
end

section
/-! SUPPORT. What an operation can touch: the parts of the state, one lemma an operation. A later proof reads off such a lemma which
tables, records and queues an operation leaves as they were, and unfolds it no more. -/

namespace Sys2Proof.Machine

open Sys2Proof

-- One thread, so that the check's memory holds the stacks.
set_option Elab.async false

/-! ## The parts of the state -/

/-- The parts an operation may or may not touch. Some are views of others: `txns`, `holds` and `profiles` of `laneRecs`; `names`,
each record's id and lane, of `records`; `occupied` of `slots`; `captured` of `captures`; `policies`, the copies without their
checks, of `copies`; `due` of `resend` and `asked` of `outstanding`. -/
inductive Part
  | pending | reports | held | rx | journal | reserved | sticky | watch | low | partState | goPending | time
  | authority | consoles | pairSlots | managementSlot | rateWindows | screening
  | copies | policies | writeSelect | operateSelect | laneRecs | txns | holds | profiles
  | records | names | lastId | lastTag | inDoubtLanes | presenter
  | cassettes | denominations | workQueue | recycler | condition | exchange | planner
  | slots | occupied | depositSetting
  | captures | captured | envelopes | safe | depository
  | carriers | requests | blower | tubeSetting
  | loops | latches
  | modules | outgoing | resend | due | outstanding | asked | line | restores | busSetting
  deriving DecidableEq

/-- The type of a part's values. -/
def Part.View : Part → Type
  | .pending => List Instr
  | .reports => List Item
  | .held => Nat
  | .rx => List Byte × List ConsoleFrame × List Byte
  | .journal => Journal
  | .reserved => Nat
  | .sticky => Sticky
  | .watch => Bool
  | .low => Bool
  | .partState => PartState
  | .goPending => Bool
  | .time => Time
  | .authority => Vector AuthorityEntry 32
  | .consoles => Vector (Option Binding) 4
  | .pairSlots => Vector (Option PairHalf) 6
  | .managementSlot => Option MgmtHalf
  | .rateWindows => Vector (List Time) 4
  | .screening => ScreeningSetting
  | .copies => Vector PolicyCopy 6 × Vector PolicyCopy 6
  | .policies => Profile → Lane → PolicyCopy
  | .writeSelect => Profile
  | .operateSelect => Profile
  | .laneRecs => Vector LaneRecord 6
  | .txns => Lane → Option Txn
  | .holds => Lane → Holds
  | .profiles => Lane → Profile × Bool
  | .records => Vector (Option DispenseRecord) 8
  | .names => DispenseSlot → Option (Nat × Lane)
  | .lastId => Nat
  | .lastTag => Nat
  | .inDoubtLanes => List Lane
  | .presenter => Setting
  | .cassettes => Vector Cassette 8
  | .denominations => Vector Denomination 8
  | .workQueue => List WorkEntry
  | .recycler => RecyclerState
  | .condition => RecyclerCondition
  | .exchange => Option ExchangeAuth
  | .planner => Setting
  | .slots => Vector (Option Session) 6
  | .occupied => Lane → Bool
  | .depositSetting => Setting
  | .captures => Vector (Option Capture) 6
  | .captured => Lane → Bool
  | .envelopes => Nat × Nat
  | .safe => Option SafeOpening
  | .depository => Setting
  | .carriers => Vector Carrier 6
  | .requests => List Request
  | .blower => Blower
  | .tubeSetting => Setting
  | .loops => Vector Loop 16
  | .latches => (Bool × Bool) × Bool × Bool
  | .modules => Vector Module 16
  | .outgoing => List Frame
  | .resend => Option Frame
  | .due => Bool
  | .outstanding => Option Exchange
  | .asked => Bool
  | .line => Nat × List Byte
  | .restores => List Restore
  | .busSetting => BusSetting

/-- A part of a state. -/
def Part.view : (p : Part) → State → p.View
  | .pending, s => s.pending
  | .reports, s => s.link.reports
  | .held, s => s.link.held
  | .rx, s => (s.link.rxPartial, s.link.rxBuffer, s.link.consoleTx)
  | .journal, s => { s.journal with reserved := 0 }
  | .reserved, s => s.journal.reserved
  | .sticky, s => { s.mgmt.sticky with nodeWatch := false, cassetteLow := false }
  | .watch, s => s.mgmt.sticky.nodeWatch
  | .low, s => s.mgmt.sticky.cassetteLow
  | .partState, s => s.mgmt.partState
  | .goPending, s => s.mgmt.goPending
  | .time, s => s.mgmt.timeBase
  | .authority, s => s.screen.authority
  | .consoles, s => s.screen.consoles
  | .pairSlots, s => s.screen.pairSlots
  | .managementSlot, s => s.screen.managementSlot
  | .rateWindows, s => s.screen.rateWindows
  | .screening, s => s.screen.setting
  | .copies, s => (s.lanes.dayCopies, s.lanes.nightCopies)
  | .policies, s => fun p l => { s.lanes.copy p l with check := {} }
  | .writeSelect, s => s.lanes.writeSelect
  | .operateSelect, s => s.lanes.operateSelect
  | .laneRecs, s => s.lanes.records
  | .txns, s => fun l => (s.laneRec l).txn
  | .holds, s => fun l => (s.laneRec l).holds
  | .profiles, s => fun l => ((s.laneRec l).profile, (s.laneRec l).switchPending)
  | .records, s => s.dispense.records
  | .names, s => fun i => s.dispense.records[i].map fun r => (r.id, r.lane)
  | .lastId, s => s.dispense.lastId
  | .lastTag, s => s.dispense.lastTag
  | .inDoubtLanes, s => s.dispense.inDoubtLanes
  | .presenter, s => s.dispense.setting
  | .cassettes, s => s.cash.cassettes
  | .denominations, s => s.cash.denominations
  | .workQueue, s => s.cash.workQueue
  | .recycler, s => s.cash.recycler
  | .condition, s => s.cash.condition
  | .exchange, s => s.cash.exchange
  | .planner, s => s.cash.planner
  | .slots, s => s.deposit.slots
  | .occupied, s => fun l => (s.session l).isSome
  | .depositSetting, s => s.deposit.setting
  | .captures, s => s.envelope.slots
  | .captured, s => fun l => (s.capture l).isSome
  | .envelopes, s => (s.envelope.counter, s.envelope.count)
  | .safe, s => s.envelope.safe
  | .depository, s => s.envelope.setting
  | .carriers, s => s.tube.carriers
  | .requests, s => s.tube.requests
  | .blower, s => s.tube.blower
  | .tubeSetting, s => s.tube.setting
  | .loops, s => s.alarm.loops
  | .latches, s => ((s.alarm.duress, s.alarm.lockdown), s.alarm.silentOutput, s.alarm.localOutput)
  | .modules, s => s.bus.modules
  | .outgoing, s => s.bus.outgoing
  | .resend, s => s.bus.resend
  | .due, s => s.bus.resend.isSome
  | .outstanding, s => s.bus.outstanding
  | .asked, s => s.bus.outstanding.isSome
  | .line, s => (s.bus.ringPos, s.bus.busTx)
  | .restores, s => s.bus.restores
  | .busSetting, s => s.bus.setting

/-- Outside the parts `ps` nothing differs from `s` to `t`. -/
def Framed (ps : List Part) (s t : State) : Prop := ∀ p : Part, p ∉ ps → p.view t = p.view s

/-- Every part of one list is in another. -/
def covers (qs ps : List Part) : Bool := ps.all qs.contains

theorem mem_of_covers {qs ps : List Part} (h : covers qs ps = true) {p : Part} (hp : p ∈ ps) : p ∈ qs := by
  simpa using List.all_eq_true.1 h p hp

theorem Framed.refl {ps : List Part} {s : State} : Framed ps s s := fun _ _ => rfl

theorem Framed.then {ps qs : List Part} {s t u : State} (h : Framed ps s t) (k : Framed qs t u)
    (hq : covers ps qs = true := by decide) : Framed ps s u :=
  fun p hp => (k p fun hpq => hp (mem_of_covers hq hpq)).trans (h p hp)

theorem Framed.mono {ps qs : List Part} {s t : State} (h : Framed qs s t) (hq : covers ps qs = true := by decide) :
    Framed ps s t := Framed.refl.then h hq

/-! ## Transactions and their lanes -/

/-- A lane that is neither CLOSED nor IDLE. -/
def LaneState.taken (x : LaneState) : Prop := x = .busy ∨ x = .held

/-- `transactionsMatch`, but for what the lanes of `ls` hold: between the two halves of an admission or an outcome a lane's record or
session stands without its transaction. -/
structure State.matchedBut (s : State) (ls : List Lane) : Prop where
  taken : ∀ l, (s.laneRec l).txn.isSome → (s.laneRec l).state.taken
  dispense : ∀ i id l, Part.view .names s i = some (id, l) → l ∉ ls → (s.laneRec l).txn = some (.dispense id)
  deposit : ∀ l, Part.view .occupied s l = true → l ∉ ls → (s.laneRec l).txn = some .deposit
  apart : ∀ i j id k l, Part.view .names s i = some (id, l) → Part.view .names s j = some (k, l) → i = j

theorem names_eq_some {s : State} {i : DispenseSlot} {id : Nat} {l : Lane} :
    Part.view .names s i = some (id, l) ↔ ∃ r ∈ s.dispense.records[i], r.id = id ∧ r.lane = l := by
  simp [Part.view]

/-- With no lane left out it is the invariant itself. -/
theorem matchedBut_nil {s : State} : s.matchedBut [] ↔ s.transactionsMatch := by
  constructor
  · intro h
    exact ⟨h.taken, fun i r hr => h.dispense i r.id r.lane (names_eq_some.2 ⟨r, hr, rfl, rfl⟩) (by simp),
      fun l hl => h.deposit l hl (by simp), fun i j r hr q hq hrq =>
        h.apart i j r.id q.id r.lane (names_eq_some.2 ⟨r, hr, rfl, rfl⟩) (names_eq_some.2 ⟨q, hq, rfl, hrq.symm⟩)⟩
  · intro ⟨ht, hd, hs, ha⟩
    refine ⟨ht, fun i id l hi _ => ?_, fun l hl _ => hs l hl, fun i j id k l hi hj => ?_⟩
    · obtain ⟨r, hr, rfl, rfl⟩ := names_eq_some.1 hi
      exact hd i r hr
    · obtain ⟨r, hr, rfl, rfl⟩ := names_eq_some.1 hi
      obtain ⟨q, hq, rfl, hl⟩ := names_eq_some.1 hj
      exact ha i j r hr q hq hl.symm

/-- Only Lane Records, the records' ids and lanes and the occupied session slots decide it. -/
theorem State.matchedBut.framed {ps : List Part} {s t : State} {ls : List Lane} (h : s.matchedBut ls) (k : Framed ps s t)
    (hl : .laneRecs ∉ ps := by decide) (hn : .names ∉ ps := by decide) (ho : .occupied ∉ ps := by decide) :
    t.matchedBut ls := by
  have hr : ∀ l, t.laneRec l = s.laneRec l := fun l => congrArg (fun v : Vector LaneRecord 6 => v[l]) (k .laneRecs hl)
  exact ⟨fun l => by rw [hr]; exact h.taken l, fun i id l => by rw [hr, k .names hn]; exact h.dispense i id l,
    fun l => by rw [hr, k .occupied ho]; exact h.deposit l, fun i j id n l => by rw [k .names hn]; exact h.apart i j id n l⟩

/-! ## What was written and queued stays -/

/-- Records written and reports queued before stand first, and no half is stored in an empty slot. -/
structure Grows (s t : State) : Prop where
  records : s.journal.ring <+: t.journal.ring
  reports : s.link.reports <+: t.link.reports
  pairs : ∀ l : Lane, s.screen.pairSlots[l] = none → t.screen.pairSlots[l] = none

theorem Grows.refl {s : State} : Grows s s := ⟨List.prefix_rfl, List.prefix_rfl, fun _ h => h⟩

theorem Grows.trans {s t u : State} (h : Grows s t) (k : Grows t u) : Grows s u :=
  ⟨h.records.trans k.records, h.reports.trans k.reports, fun l hl => k.pairs l (h.pairs l hl)⟩

/-- A frame without the journal, the Report Queue and the pair slots. -/
theorem Grows.of_framed {ps : List Part} {s t : State} (h : Framed ps s t) (hj : .journal ∉ ps := by decide)
    (hr : .reports ∉ ps := by decide) (hp : .pairSlots ∉ ps := by decide) : Grows s t := by
  have hring := congrArg Journal.ring (h .journal hj)
  replace hring : t.journal.ring = s.journal.ring := hring
  have hreports : t.link.reports = s.link.reports := h .reports hr
  have hpairs : t.screen.pairSlots = s.screen.pairSlots := h .pairSlots hp
  exact ⟨by rw [hring], by rw [hreports], fun l hl => by rw [hpairs]; exact hl⟩

/-! ## What an operation touches -/

/-- An operation changes the parts `ps` at most, keeps every dispense and session its lane's transaction, and only adds to the
journal and the Report Queue. -/
structure Touches (ps : List Part) (s t : State) : Prop where
  framed : Framed ps s t
  matched : ∀ ls, s.matchedBut ls → t.matchedBut ls
  grows : Grows s t

/-- A frame without the Lane Records, the records' names and the session slots keeps the transactions. -/
theorem Touches.of_grows {ps : List Part} {s t : State} (h : Framed ps s t) (g : Grows s t)
    (hl : .laneRecs ∉ ps := by decide) (hn : .names ∉ ps := by decide) (ho : .occupied ∉ ps := by decide) :
    Touches ps s t := ⟨h, fun _ k => k.framed h hl hn ho, g⟩

theorem Touches.of_framed {ps : List Part} {s t : State} (h : Framed ps s t) (hl : .laneRecs ∉ ps := by decide)
    (hn : .names ∉ ps := by decide) (ho : .occupied ∉ ps := by decide) (hj : .journal ∉ ps := by decide)
    (hr : .reports ∉ ps := by decide) (hp : .pairSlots ∉ ps := by decide) : Touches ps s t :=
  .of_grows h (.of_framed h hj hr hp) hl hn ho

theorem Touches.refl {ps : List Part} {s : State} : Touches ps s s := ⟨.refl, fun _ h => h, .refl⟩

/-- One operation after another. -/
theorem Touches.then {ps qs : List Part} {s t u : State} (h : Touches ps s t) (k : Touches qs t u)
    (hq : covers ps qs = true := by decide) : Touches ps s u :=
  ⟨h.framed.then k.framed hq, fun ls hs => k.matched ls (h.matched ls hs), h.grows.trans k.grows⟩

theorem Touches.mono {ps qs : List Part} {s t : State} (h : Touches qs s t) (hq : covers ps qs = true := by decide) :
    Touches ps s t := Touches.refl.then h hq

theorem Touches.trans {ps : List Part} {s t u : State} (h : Touches ps s t) (k : Touches ps t u) : Touches ps s u :=
  ⟨fun p hp => (k.framed p hp).trans (h.framed p hp), fun ls hs => k.matched ls (h.matched ls hs),
    h.grows.trans k.grows⟩

/-- Two alternatives. -/
theorem Touches.ite {ps : List Part} {s t u : State} {c : Prop} [Decidable c] (h : c → Touches ps s t)
    (k : ¬c → Touches ps s u) : Touches ps s (if c then t else u) := by
  split
  · exact h ‹_›
  · exact k ‹_›

theorem touches_forEach {α : Type} {ps : List Part} {f : State → α → State} (h : ∀ s x, Touches ps s (f s x)) (l : List α)
    (s : State) : Touches ps s (s.forEach l f) := by
  unfold State.forEach
  induction l generalizing s with
  | nil => exact .refl
  | cons x l ih => exact (h s x).trans (ih (f s x))

/-- An untouched part is as it was. -/
theorem Touches.same {ps : List Part} {s t : State} (h : Touches ps s t) (p : Part) (hp : p ∉ ps := by decide) :
    p.view t = p.view s := h.framed p hp

/-! ## The blocks an operation leaves alone -/

section Blocks

variable {ps : List Part} {s t : State} (h : Framed ps s t)
include h

theorem Framed.laneRec (l : Lane) (hp : .laneRecs ∉ ps := by decide) : t.laneRec l = s.laneRec l :=
  congrArg (fun v : Vector LaneRecord 6 => v[l]) (h .laneRecs hp)

theorem Framed.txn (l : Lane) (hp : .txns ∉ ps := by decide) : (t.laneRec l).txn = (s.laneRec l).txn :=
  congrFun (h .txns hp) l

theorem Framed.holds (l : Lane) (hp : .holds ∉ ps := by decide) : (t.laneRec l).holds = (s.laneRec l).holds :=
  congrFun (h .holds hp) l

theorem Framed.profile (l : Lane) (hp : .profiles ∉ ps := by decide) : (t.laneRec l).profile = (s.laneRec l).profile :=
  congrArg Prod.fst (congrFun (h .profiles hp) l)

theorem Framed.switchPending (l : Lane) (hp : .profiles ∉ ps := by decide) :
    (t.laneRec l).switchPending = (s.laneRec l).switchPending := congrArg Prod.snd (congrFun (h .profiles hp) l)

theorem Framed.name (i : DispenseSlot) (hp : .names ∉ ps := by decide) :
    t.dispense.records[i].map (fun r => (r.id, r.lane)) = s.dispense.records[i].map fun r => (r.id, r.lane) :=
  congrFun (h .names hp) i

theorem Framed.session (l : Lane) (hp : .slots ∉ ps := by decide) : t.session l = s.session l :=
  congrArg (fun v : Vector (Option Session) 6 => v[l]) (h .slots hp)

theorem Framed.occupied (l : Lane) (hp : .occupied ∉ ps := by decide) : (t.session l).isSome = (s.session l).isSome :=
  congrFun (h .occupied hp) l

theorem Framed.module (m : ModuleId) (hp : .modules ∉ ps := by decide) : t.module m = s.module m :=
  congrArg (fun v : Vector Module 16 => v[m]) (h .modules hp)

theorem Framed.loop (i : LoopId) (hp : .loops ∉ ps := by decide) : t.loop i = s.loop i :=
  congrArg (fun v : Vector Loop 16 => v[i]) (h .loops hp)

theorem Framed.cassette (c : CassetteId) (hp : .cassettes ∉ ps := by decide) : t.cassette c = s.cassette c :=
  congrArg (fun v : Vector Cassette 8 => v[c]) (h .cassettes hp)

theorem Framed.carrier (l : Lane) (hp : .carriers ∉ ps := by decide) : t.carrier l = s.carrier l :=
  congrArg (fun v : Vector Carrier 6 => v[l]) (h .carriers hp)

theorem Framed.capture (l : Lane) (hp : .captures ∉ ps := by decide) : t.capture l = s.capture l :=
  congrArg (fun v : Vector (Option Capture) 6 => v[l]) (h .captures hp)

end Blocks

/-! ## Parts that change together -/

/-- A record written or dropped, a report queued or lost. -/
abbrev logParts : List Part := [.reports, .journal, .sticky]
/-- A lane settled and its change told. -/
abbrev announceParts : List Part := .copies :: .laneRecs :: logParts
/-- A hold reason judged anew. -/
abbrev holdParts : List Part := .holds :: announceParts
/-- A transaction opened or closed. -/
abbrev txnParts : List Part := .txns :: .profiles :: announceParts
/-- A cassette changed. -/
abbrev cassetteParts : List Part := .cassettes :: .low :: logParts
/-- A dispense's outcome. -/
abbrev outcomeParts : List Part := .records :: .names :: .authority :: .reserved :: .holds :: txnParts
/-- A pick that ends in doubt. -/
abbrev doubtParts : List Part := .inDoubtLanes :: .cassettes :: .workQueue :: .recycler :: outcomeParts
/-- All that the handling of a dispense may change. -/
abbrev dispenseParts : List Part := .low :: .outgoing :: .lastTag :: .presenter :: .denominations :: .planner :: doubtParts
/-- Frames marked so that their results act on nothing. -/
abbrev frameParts : List Part := [.outgoing, .resend, .outstanding]
/-- A session's outcome. -/
abbrev sessionParts : List Part :=
  .slots :: .occupied :: .reserved :: .holds :: .workQueue :: .recycler :: txnParts ++ frameParts
/-- All that the handling of a session may change. -/
abbrev depositParts : List Part := .depositSetting :: .cassettes :: .low :: .denominations :: sessionParts
/-- All that the recycler's arbiter may change. -/
abbrev moneyParts : List Part := dispenseParts ++ depositParts
/-- A capture's outcome. -/
abbrev captureParts : List Part := .captures :: .captured :: .reserved :: .outgoing :: holdParts
/-- All that the handling of a carrier may change. -/
abbrev tubeParts : List Part :=
  .carriers :: .requests :: .blower :: .tubeSetting :: .records :: .names :: .authority :: .reserved :: .txns :: .profiles ::
    holdParts ++ frameParts
/-- All that the setting of the lockdown latch may change. -/
abbrev lockdownParts : List Part := .latches :: .exchange :: .safe :: captureParts ++ tubeParts ++ moneyParts
/-- All that the isolation of a node may change. -/
abbrev isolationParts : List Part := .modules :: .condition :: .goPending :: captureParts ++ tubeParts ++ moneyParts

/-! ## Updates of one block -/

section Primitives

variable {s : State}

theorem framed_mapReports {f : Link → List Item} :
    Framed [.reports] s (s.mapLink fun k => { k with reports := f k }) := by
  intro p hp
  cases p with
  | reports => exact absurd (by decide) hp
  | _ => rfl

theorem touches_addReport {x : Item} :
    Touches [.reports] s (s.mapLink fun k => { k with reports := k.reports ++ [x] }) :=
  .of_grows framed_mapReports ⟨List.prefix_rfl, List.prefix_append .., fun _ h => h⟩

theorem touches_mapSticky {f : Sticky → Sticky} (hw : ∀ k, (f k).nodeWatch = k.nodeWatch := by exact fun _ => rfl)
    (hl : ∀ k, (f k).cassetteLow = k.cassetteLow := by exact fun _ => rfl) : Touches [.sticky] s (s.mapSticky f) := by
  refine .of_framed fun p hp => ?_
  cases p with
  | sticky => exact absurd (by decide) hp
  | watch => exact hw _
  | low => exact hl _
  | _ => rfl

theorem touches_raiseNodeWatch : Touches [.watch] s s.raiseNodeWatch := by
  refine .of_framed fun p hp => ?_
  cases p with
  | watch => exact absurd (by decide) hp
  | _ => rfl

theorem touches_raiseCassetteLow : Touches [.low] s s.raiseCassetteLow := by
  refine .of_framed fun p hp => ?_
  cases p with
  | low => exact absurd (by decide) hp
  | _ => rfl

theorem touches_clearSticky : Touches [.sticky, .watch, .low] s (s.mapSticky fun _ => {}) := by
  refine .of_framed fun p hp => ?_
  cases p with
  | sticky | watch | low => exact absurd (by decide) hp
  | _ => rfl

theorem framed_mapJournal {f : Journal → Journal} (hf : ∀ j, (f j).reserved = j.reserved := by exact fun _ => rfl) :
    Framed [.journal] s (s.mapJournal f) := by
  intro p hp
  cases p with
  | journal => exact absurd (by decide) hp
  | reserved => exact hf _
  | _ => rfl

theorem touches_reserve : Touches [.reserved] s s.reserve := by
  refine .of_framed fun p hp => ?_
  cases p with
  | reserved => exact absurd (by decide) hp
  | _ => rfl

theorem touches_takeFrame {h : Sender} {k : OrderKind} {form : List Byte → Bool} :
    Touches [.rx, .held] s (s.takeFrame h k form) := by
  refine .of_framed fun p hp => ?_
  cases p with
  | rx | held => exact absurd (by decide) hp
  | _ => rfl

theorem touches_respond {h : Sender} {k : OrderKind} {c : Code} {b : ResponseBody} :
    Touches [.held, .reports] s (s.respond h k c b) := by
  refine .of_grows (fun p hp => ?_) ⟨List.prefix_rfl, List.prefix_append .., fun _ h => h⟩
  cases p with
  | held | reports => exact absurd (by decide) hp
  | _ => rfl

/-- The policy of a lane after a copy's check state has changed. -/
theorem setCopy_copy (k : LaneControl) (p q : Profile) (l m : Lane) (c : PolicyCopy) :
    (k.setCopy p l c).copy q m = if q = p ∧ m = l then c else k.copy q m := by
  cases p <;> cases q <;> simp [LaneControl.setCopy, LaneControl.copy, Vector.getElem_set, Fin.ext_iff, eq_comm]

theorem touches_setCopy {p : Profile} {l : Lane} {c : PolicyCopy}
    (hc : { c with check := {} } = { s.lanes.copy p l with check := {} } := by rfl) :
    Touches [.copies] s (s.mapLanes fun k => k.setCopy p l c) := by
  refine .of_framed fun q hq => ?_
  have hv : Part.view .policies (s.mapLanes fun k => k.setCopy p l c) = Part.view .policies s := by
    funext r m
    simp only [Part.view, State.mapLanes_lanes, setCopy_copy]
    split
    · next h => rw [h.1, h.2]; exact hc
    · rfl
  cases q with
  | copies => exact absurd (by decide) hq
  | policies => exact hv
  | _ => cases p <;> rfl

theorem mapLane_laneRec (l m : Lane) (f : LaneRecord → LaneRecord) :
    (s.mapLane l f).laneRec m = if m = l then f (s.laneRec l) else s.laneRec m := by
  simp only [State.mapLane, State.laneRec, State.mapLanes_lanes, Fin.getElem_fin, Vector.getElem_set, Fin.ext_iff]
  simp only [eq_comm]

/-- A Lane Record changed, in its state alone if nothing else is named. -/
theorem framed_mapLane {l : Lane} {f : LaneRecord → LaneRecord} {ps : List Part}
    (ht : .txns ∉ ps → ∀ r, (f r).txn = r.txn := by exact fun _ _ => rfl)
    (hh : .holds ∉ ps → ∀ r, (f r).holds = r.holds := by exact fun _ _ => rfl)
    (hf : .profiles ∉ ps → ∀ r, (f r).profile = r.profile ∧ (f r).switchPending = r.switchPending := by
      exact fun _ _ => ⟨rfl, rfl⟩)
    (hl : .laneRecs ∈ ps := by decide) : Framed ps s (s.mapLane l f) := by
  intro p hp
  cases p
  case laneRecs => exact absurd hl hp
  case txns => funext m; simp only [Part.view, mapLane_laneRec]; split <;> simp_all
  case holds => funext m; simp only [Part.view, mapLane_laneRec]; split <;> simp_all
  case profiles => funext m; simp only [Part.view, mapLane_laneRec]; split <;> simp_all
  all_goals rfl

/-- Such a change keeps the transactions where it keeps the lane's own and leaves a taken lane taken. -/
theorem State.matchedBut.mapLane {ls : List Lane} {l : Lane} {f : LaneRecord → LaneRecord} (h : s.matchedBut ls)
    (ht : (f (s.laneRec l)).txn = (s.laneRec l).txn)
    (hs : (s.laneRec l).txn.isSome → (s.laneRec l).state.taken → (f (s.laneRec l)).state.taken) :
    (s.mapLane l f).matchedBut ls := by
  have htx : ∀ m, ((s.mapLane l f).laneRec m).txn = (s.laneRec m).txn := fun m => by
    rw [mapLane_laneRec]; split
    · next h => rw [ht, h]
    · rfl
  refine ⟨fun m hm => ?_, fun i id m hi hm => (htx m).trans (h.dispense i id m hi hm),
    fun m hm hn => (htx m).trans (h.deposit m hm hn), h.apart⟩
  rw [htx] at hm
  rw [mapLane_laneRec]
  split
  · next hml => subst hml; exact hs hm (h.taken _ hm)
  · exact h.taken m hm

theorem touches_mapLane {l : Lane} {f : LaneRecord → LaneRecord} {ps : List Part} (k : Framed ps s (s.mapLane l f))
    (ht : (f (s.laneRec l)).txn = (s.laneRec l).txn := by exact rfl)
    (hs : (s.laneRec l).txn.isSome → (s.laneRec l).state.taken → (f (s.laneRec l)).state.taken := by
      exact fun _ h => h) : Touches ps s (s.mapLane l f) :=
  ⟨k, fun _ h => h.mapLane ht hs, List.prefix_rfl, List.prefix_rfl, fun _ h => h⟩

theorem touches_mapWork {f : List WorkEntry → List WorkEntry} : Touches [.workQueue] s (s.mapWork f) := by
  refine .of_framed fun p hp => ?_
  cases p with
  | workQueue => exact absurd (by decide) hp
  | _ => rfl

theorem framed_setDispense {i : DispenseSlot} {r : Option DispenseRecord} :
    Framed [.records, .names] s (s.setDispense i r) := by
  intro p hp
  cases p with
  | records | names => exact absurd (by decide) hp
  | _ => rfl

theorem setDispense_record (i j : DispenseSlot) (r : Option DispenseRecord) :
    (s.setDispense i r).dispense.records[j] = if j = i then r else s.dispense.records[j] := by
  simp [State.setDispense, State.mapDispense, Vector.getElem_set, Fin.ext_iff, eq_comm]

/-- A record changed in place keeps its id and its lane. -/
theorem touches_mapDispenseAt {i : DispenseSlot} {f : DispenseRecord → DispenseRecord}
    (hf : ∀ r, ((f r).id, (f r).lane) = (r.id, r.lane) := by exact fun _ => rfl) :
    Touches [.records] s (s.mapDispenseAt i f) := by
  refine .of_framed fun p hp => ?_
  cases p
  case names =>
    funext j
    simp only [Part.view, State.mapDispenseAt, setDispense_record]
    split
    · next h => subst h; simp only [Option.map_map, Function.comp_def, hf]
    · rfl
  case records => exact absurd (by decide) hp
  all_goals rfl

theorem framed_setSession {l : Lane} {x : Option Session} : Framed [.slots, .occupied] s (s.setSession l x) := by
  intro p hp
  cases p with
  | slots | occupied => exact absurd (by decide) hp
  | _ => rfl

theorem setSession_session (l m : Lane) (x : Option Session) :
    (s.setSession l x).session m = if m = l then x else s.session m := by
  simp [State.setSession, State.session, State.mapDeposit, Vector.getElem_set, Fin.ext_iff, eq_comm]

/-- A session changed in place keeps its slot. -/
theorem touches_mapSession {l : Lane} {f : Session → Session} : Touches [.slots] s (s.mapSession l f) := by
  refine .of_framed fun p hp => ?_
  cases p
  case occupied =>
    funext m
    simp only [Part.view, State.mapSession, setSession_session]
    split
    · next h => subst h; simp only [Option.isSome_map]
    · rfl
  case slots => exact absurd (by decide) hp
  all_goals rfl

theorem touches_setCapture {l : Lane} {x : Option Capture} : Touches [.captures, .captured] s (s.setCapture l x) := by
  refine .of_framed fun p hp => ?_
  cases p with
  | captures | captured => exact absurd (by decide) hp
  | _ => rfl

theorem setCapture_capture (l m : Lane) (x : Option Capture) :
    (s.setCapture l x).capture m = if m = l then x else s.capture m := by
  simp [State.setCapture, State.capture, State.mapEnvelope, Vector.getElem_set, Fin.ext_iff, eq_comm]

theorem touches_mapCapture {l : Lane} {f : Capture → Capture} : Touches [.captures] s (s.mapCapture l f) := by
  refine .of_framed fun p hp => ?_
  cases p
  case captured =>
    funext m
    simp only [Part.view, State.mapCapture, setCapture_capture]
    split
    · next h => subst h; simp only [Option.isSome_map]
    · rfl
  case captures => exact absurd (by decide) hp
  all_goals rfl

theorem touches_mapCarrier {l : Lane} {f : Carrier → Carrier} : Touches [.carriers] s (s.mapCarrier l f) := by
  refine .of_framed fun p hp => ?_
  cases p with
  | carriers => exact absurd (by decide) hp
  | _ => rfl

theorem touches_dropRequest {l : Lane} : Touches [.requests] s (s.dropRequest l) := by
  refine .of_framed fun p hp => ?_
  cases p with
  | requests => exact absurd (by decide) hp
  | _ => rfl

theorem touches_setBlower {f : TubeScheduler → Blower} : Touches [.blower] s (s.mapTube fun t => { t with blower := f t }) := by
  refine .of_framed fun p hp => ?_
  cases p with
  | blower => exact absurd (by decide) hp
  | _ => rfl

theorem touches_mapLoop {i : LoopId} {f : Loop → Loop} : Touches [.loops] s (s.mapLoop i f) := by
  refine .of_framed fun p hp => ?_
  cases p with
  | loops => exact absurd (by decide) hp
  | _ => rfl

theorem touches_mapModule {m : ModuleId} {f : Module → Module} : Touches [.modules] s (s.mapModule m f) := by
  refine .of_framed fun p hp => ?_
  cases p with
  | modules => exact absurd (by decide) hp
  | _ => rfl

theorem touches_changeModule {m : ModuleId} {f : Module → Module} : Touches [.modules] s (s.changeModule m f) :=
  touches_mapModule

theorem touches_mapAuthority {i : AuthId} {f : AuthorityEntry → AuthorityEntry} :
    Touches [.authority] s (s.mapAuthority i f) := by
  refine .of_framed fun p hp => ?_
  cases p with
  | authority => exact absurd (by decide) hp
  | _ => rfl

theorem framed_setPair {l : Lane} {x : Option PairHalf} : Framed [.pairSlots] s (s.setPair l x) := by
  intro p hp
  cases p with
  | pairSlots => exact absurd (by decide) hp
  | _ => rfl

theorem setPair_slot (l m : Lane) (x : Option PairHalf) :
    (s.setPair l x).screen.pairSlots[m] = if m = l then x else s.screen.pairSlots[m] := by
  simp [State.setPair, State.mapScreen, Vector.getElem_set, Fin.ext_iff, eq_comm]

theorem touches_clearPair {l : Lane} : Touches [.pairSlots] s (s.setPair l none) :=
  .of_grows framed_setPair ⟨List.prefix_rfl, List.prefix_rfl, fun m hm => by
    rw [setPair_slot]
    split
    · rfl
    · exact hm⟩

theorem touches_setBinding {c : Console} {b : Option Binding} : Touches [.consoles] s (s.setBinding c b) := by
  refine .of_framed fun p hp => ?_
  cases p with
  | consoles => exact absurd (by decide) hp
  | _ => rfl

theorem touches_mapRate {c : Console} {f : List Time → List Time} : Touches [.rateWindows] s (s.mapRate c f) := by
  refine .of_framed fun p hp => ?_
  cases p with
  | rateWindows => exact absurd (by decide) hp
  | _ => rfl

theorem touches_setManagementSlot {x : Option MgmtHalf} :
    Touches [.managementSlot] s (s.mapScreen fun k => { k with managementSlot := x }) := by
  refine .of_framed fun p hp => ?_
  cases p with
  | managementSlot => exact absurd (by decide) hp
  | _ => rfl

theorem touches_setRecycler {f : CashPosition → RecyclerState} :
    Touches [.recycler] s (s.mapCash fun k => { k with recycler := f k }) := by
  refine .of_framed fun p hp => ?_
  cases p with
  | recycler => exact absurd (by decide) hp
  | _ => rfl

theorem touches_setCondition {x : RecyclerCondition} : Touches [.condition] s (s.mapCash fun k => { k with condition := x }) := by
  refine .of_framed fun p hp => ?_
  cases p with
  | condition => exact absurd (by decide) hp
  | _ => rfl

theorem touches_setExchange {x : Option ExchangeAuth} : Touches [.exchange] s (s.mapCash fun k => { k with exchange := x }) := by
  refine .of_framed fun p hp => ?_
  cases p with
  | exchange => exact absurd (by decide) hp
  | _ => rfl

theorem touches_setSafe {x : Option SafeOpening} : Touches [.safe] s (s.mapEnvelope fun e => { e with safe := x }) := by
  refine .of_framed fun p hp => ?_
  cases p with
  | safe => exact absurd (by decide) hp
  | _ => rfl

theorem touches_setGoPending {b : Bool} : Touches [.goPending] s (s.mapMgmt fun m => { m with goPending := b }) := by
  refine .of_framed fun p hp => ?_
  cases p with
  | goPending => exact absurd (by decide) hp
  | _ => rfl

theorem touches_setInDoubt {f : DispenseControl → List Lane} :
    Touches [.inDoubtLanes] s (s.mapDispense fun d => { d with inDoubtLanes := f d }) := by
  refine .of_framed fun p hp => ?_
  cases p with
  | inDoubtLanes => exact absurd (by decide) hp
  | _ => rfl

theorem touches_setOutgoing {f : BusController → List Frame} :
    Touches [.outgoing] s (s.mapBus fun b => { b with outgoing := f b }) := by
  refine .of_framed fun p hp => ?_
  cases p with
  | outgoing => exact absurd (by decide) hp
  | _ => rfl

/-- Frames keep their places when they are marked. -/
theorem touches_retireIf {p : Content → Bool} : Touches frameParts s (s.retireIf p) := by
  refine .of_framed fun p hp => ?_
  cases p with
  | outgoing | resend | outstanding => exact absurd (by decide) hp
  | due => exact Option.isSome_map
  | asked => exact Option.isSome_map
  | _ => rfl

theorem touches_retire {o : BusOrder} : Touches frameParts s (s.retire o) := touches_retireIf

theorem touches_setRestores {f : BusController → List Restore} :
    Touches [.restores] s (s.mapBus fun b => { b with restores := f b }) := by
  refine .of_framed fun p hp => ?_
  cases p with
  | restores => exact absurd (by decide) hp
  | _ => rfl

end Primitives

end Sys2Proof.Machine
end

section
/-! SUPPORT. The parts each operation of the model touches, in the order of the model's definitions. -/

namespace Sys2Proof.Machine

open Sys2Proof

-- One thread, so that the check's memory holds the stacks.
set_option Elab.async false

section Shared

variable {s : State}

/-! ## The journal and the Report Queue -/

theorem touches_record {e : Entry} : Touches [.journal, .sticky] s (s.record e) := by
  unfold State.record
  refine .ite (fun _ => ?_) fun _ => ?_
  · exact .of_grows (framed_mapJournal).mono ⟨List.prefix_append .., List.prefix_rfl, fun _ h => h⟩
  · have h : Touches [.journal] s (s.mapJournal fun j => { j with overrun := min (j.overrun + 1) 65535 }) :=
      .of_grows framed_mapJournal ⟨List.prefix_rfl, List.prefix_rfl, fun _ h => h⟩
    exact h.mono.then touches_mapSticky

theorem touches_outcome {e : Entry} : Touches [.journal, .reserved] s (s.outcome e) := by
  refine .of_grows (fun p hp => ?_) ⟨List.prefix_append .., List.prefix_rfl, fun _ h => h⟩
  cases p with
  | journal | reserved => exact absurd (by decide) hp
  | _ => rfl

theorem touches_tableFault {t : TableRef} : Touches [.journal, .sticky] s (s.tableFault t) :=
  Touches.refl.then touches_mapSticky |>.then touches_record

theorem touches_send {d : Station} {tag : Nat} {r : Report} : Touches [.reports, .sticky] s (s.send d tag r) := by
  unfold State.send
  exact .ite (fun _ => touches_addReport.mono) fun _ => (touches_mapSticky).mono

theorem touches_send7 {r : Report} : Touches [.reports, .sticky] s (s.send7 r) := touches_send

theorem touches_sendCopied {d : Station} {tag : Nat} {own copy : Report} :
    Touches [.reports, .sticky] s (s.sendCopied d tag own copy) := by
  cases d
  · exact touches_send.then touches_send
  · exact touches_send

theorem touches_sendSignedOn {r : Report} : Touches [.reports, .sticky] s (s.sendSignedOn r) :=
  touches_forEach (fun _ _ => touches_send) _ _

theorem touches_sendServing {l : Lane} {tag : Nat} {own copy : Report} :
    Touches [.reports, .sticky] s (s.sendServing l tag own copy) :=
  (touches_forEach (fun _ _ => touches_send) _ _).then touches_send

/-! ## The outgoing queue -/

theorem touches_place {f : Frame} : Touches [.outgoing, .journal, .sticky] s (s.place f).1 := by
  unfold State.place
  split
  · dsimp only
    exact touches_setOutgoing.mono
  · exact touches_record.mono

theorem touches_placeFor {e : Option ModuleId} {w : Owner} {o : BusOrder} :
    Touches [.outgoing, .journal, .sticky] s (s.placeFor e w o).1 := by
  cases e
  · exact .refl
  · exact touches_place

theorem touches_post {e : Option ModuleId} {w : Owner} {o : BusOrder} :
    Touches [.outgoing, .journal, .sticky] s (s.post e w o) := touches_placeFor

/-! ## Lane Control -/

theorem touches_checkCopy {p : Profile} {l : Lane} : Touches [.copies, .journal, .sticky] s (s.checkCopy p l) := by
  unfold State.checkCopy
  exact .ite (fun _ => .refl) fun _ => (touches_setCopy).mono.then touches_tableFault

/-- Settling leaves a lane with a transaction BUSY or HELD, unless it is CLOSED. -/
theorem settledState_taken {r : LaneRecord} {b : Bool} (ht : r.txn.isSome) (hs : r.state ≠ .closed) :
    (settledState r b).taken := by
  have hn : r.txn ≠ none := by rintro h; simp [h] at ht
  unfold settledState LaneState.taken
  rw [if_neg hs, if_neg (fun h => hn h.1), if_pos ht]
  split <;> simp

theorem LaneState.taken.ne_closed {x : LaneState} (h : x.taken) : x ≠ .closed := by
  rcases h with rfl | rfl <;> decide

theorem touches_settle {l : Lane} : Touches [.laneRecs] s (s.settle l) :=
  touches_mapLane framed_mapLane (hs := fun ht h => settledState_taken ht h.ne_closed)

theorem touches_announce {l : Lane} {b : LaneRecord} : Touches announceParts s (s.announce l b) := by
  unfold State.announce
  refine .ite (fun _ => ?_) fun _ => .ite (fun _ => touches_send7.mono) fun _ => .refl
  have hc : Touches announceParts s (if (s.policy l).check.faulted then s else s.checkCopy (s.laneRec l).profile l) :=
    .ite (fun _ => .refl) fun _ => touches_checkCopy.mono
  exact .ite (fun _ => (hc.then touches_settle).then touches_send7) fun _ => (hc.then touches_settle).then touches_sendServing

theorem touches_settleAndAnnounce {l : Lane} {b : LaneRecord} : Touches announceParts s (s.settleAndAnnounce l b) :=
  touches_settle.mono.then touches_announce

theorem touches_usePolicy {l : Lane} : Touches announceParts s (s.usePolicy l) := by
  have hc : Touches announceParts s (s.checkCopy (s.laneRec l).profile l) := touches_checkCopy.mono
  exact .ite (fun _ => (hc.then touches_settle).then touches_announce) fun _ => hc

/-- A lane's hold reasons changed. -/
theorem touches_mapHolds {l : Lane} {f : Holds → Holds} :
    Touches [.laneRecs, .holds] s (s.mapLane l fun r => { r with holds := f r.holds }) :=
  touches_mapLane (framed_mapLane (hh := fun h => absurd (by decide) h))

theorem touches_postHold {l : Lane} {h : HoldReason} : Touches holdParts s (s.postHold l h) := by
  unfold State.postHold
  refine .ite (fun _ => .refl) fun _ => ?_
  exact (touches_mapHolds (f := fun x => x.add h)).mono.then touches_record |>.then touches_settleAndAnnounce

theorem touches_evaluateNode {l : Lane} : Touches holdParts s (s.evaluateNode l) := by
  unfold State.evaluateNode
  refine .ite (fun _ => .refl) fun _ => .ite (fun _ => ?_) fun _ => ?_
  · exact (touches_mapHolds (f := fun x => { x with node := true })).mono.then touches_record
      |>.then touches_settleAndAnnounce
  · exact (touches_mapHolds (f := fun x => { x with node := false })).mono.then touches_record
      |>.then touches_settleAndAnnounce

theorem touches_evaluateNodes : Touches holdParts s s.evaluateNodes := touches_forEach (fun _ _ => touches_evaluateNode) _ _

/-- What an adoption changes. -/
abbrev adoptParts : List Part := [.profiles, .laneRecs, .copies, .journal, .sticky]

/-- Only a lane without a transaction adopts a profile. -/
theorem touches_adopt {l : Lane} (h : (s.laneRec l).txn = none) : Touches adoptParts s (s.adopt l) := by
  have hp : Touches adoptParts s
      (((s.mapLane l fun r => { r with profile := s.lanes.operateSelect, switchPending := false }).record
        { kind := .profileSwitch, lane := numberOf l
          facts := [.profiles (s.laneRec l).profile s.lanes.operateSelect] }).checkCopy s.lanes.operateSelect l) :=
    (touches_mapLane (framed_mapLane (ps := [.laneRecs, .profiles]) (hf := fun h => absurd (by decide) h))).mono.then
      touches_record |>.then touches_checkCopy
  have ht := hp.framed.txn l
  refine .ite (fun _ => hp) fun _ => hp.then (touches_mapLane (ps := [.laneRecs]) framed_mapLane (hs := fun hn => ?_))
  rw [ht, h] at hn
  exact absurd hn (by decide)

theorem framed_openTxn {l : Lane} {t : Txn} : Framed (.txns :: announceParts) s (s.openTxn l t) :=
  Framed.refl.then (framed_mapLane (ps := [.laneRecs, .txns]) (ht := fun h => absurd (by decide) h))
    |>.then touches_settleAndAnnounce.framed

/-- The transaction that opens is the lane's. -/
theorem openTxn_txn (l m : Lane) (t : Txn) :
    ((s.openTxn l t).laneRec m).txn = if m = l then some t else (s.laneRec m).txn := by
  have h : ∀ (u : State) b, ((u.settleAndAnnounce l b).laneRec m).txn = (u.laneRec m).txn := fun u b =>
    touches_settleAndAnnounce.framed.txn m
  unfold State.openTxn
  rw [h, mapLane_laneRec]
  split <;> rfl

/-- A lane opens the transaction that its record or session has taken. -/
theorem State.matchedBut.openTxn {l : Lane} {t : Txn} (h : s.matchedBut [l]) (hc : (s.laneRec l).state ≠ .closed)
    (hd : ∀ i id, Part.view .names s i = some (id, l) → t = .dispense id)
    (hs : Part.view .occupied s l = true → t = .deposit) : (s.openTxn l t).matchedBut [] := by
  have hset : ((s.mapLane l fun r => { r with txn := some t }).settle l).matchedBut [] := by
    have hr : ∀ m, ((s.mapLane l fun r => { r with txn := some t }).settle l).laneRec m =
        if m = l then { s.laneRec l with
          txn := some t, state := settledState { s.laneRec l with txn := some t } (s.policy l).readsOpen }
        else s.laneRec m := fun m => by
      unfold State.settle
      rw [mapLane_laneRec, mapLane_laneRec, mapLane_laneRec]
      have hpol : (s.mapLane l fun r => { r with txn := some t }).policy l = s.policy l := by
        simp only [State.policy, mapLane_laneRec]; rfl
      simp only [hpol]
      split <;> simp
    refine ⟨fun m hm => ?_, fun i id m hi _ => ?_, fun m hm _ => ?_, h.apart⟩
    all_goals rw [hr] at *
    · split
      · exact settledState_taken (by rfl) hc
      · next hne => rw [if_neg hne] at hm; exact h.taken m hm
    · split
      · next he => subst he; rw [hd i id hi]
      · next hne => exact h.dispense i id m hi (by simpa using hne)
    · split
      · next he => subst he; rw [hs hm]
      · next hne => exact h.deposit m hm (by simpa using hne)
  exact touches_announce.matched [] hset

/-- What `closeTxn` leaves before the lane is settled. -/
theorem framed_closeTxn {l : Lane} : Framed txnParts s (s.closeTxn l) := by
  have h : Framed txnParts s (s.mapLane l fun r => { r with txn := none }) :=
    (framed_mapLane (ps := [.laneRecs, .txns]) (ht := fun h => absurd (by decide) h)).mono
  have hn : ((s.mapLane l fun r => { r with txn := none }).laneRec l).txn = none := by rw [mapLane_laneRec, if_pos rfl]
  unfold State.closeTxn
  dsimp only
  split
  · exact (h.then (touches_adopt hn).framed).then touches_settleAndAnnounce.framed
  · exact (h.then touches_checkCopy.framed).then touches_settleAndAnnounce.framed

theorem grows_mapLane {l : Lane} {f : LaneRecord → LaneRecord} : Grows s (s.mapLane l f) :=
  ⟨List.prefix_rfl, List.prefix_rfl, fun _ h => h⟩

theorem grows_closeTxn {l : Lane} : Grows s (s.closeTxn l) := by
  have hn : ((s.mapLane l fun r => { r with txn := none }).laneRec l).txn = none := by rw [mapLane_laneRec, if_pos rfl]
  unfold State.closeTxn
  dsimp only
  split
  · exact (grows_mapLane.trans (touches_adopt hn).grows).trans touches_settleAndAnnounce.grows
  · exact (grows_mapLane.trans touches_checkCopy.grows).trans touches_settleAndAnnounce.grows

theorem grows_openTxn {l : Lane} {t : Txn} : Grows s (s.openTxn l t) :=
  grows_mapLane.trans touches_settleAndAnnounce.grows

/-- A closed transaction leaves every other lane's. -/
theorem State.matchedBut.closeTxn {l : Lane} {ls : List Lane} (h : s.matchedBut ls) :
    (s.closeTxn l).matchedBut (l :: ls) := by
  have hr := mapLane_laneRec (s := s) l (f := fun r => { r with txn := none })
  have hm : (s.mapLane l fun r => { r with txn := none }).matchedBut (l :: ls) := by
    refine ⟨fun m hm => ?_, fun i id m hi hm => ?_, fun m hm hn => ?_, h.apart⟩
    all_goals rw [hr] at *
    · split at hm
      · exact absurd hm (by simp)
      · next hne => rw [if_neg hne]; exact h.taken m hm
    · rw [if_neg (fun he => hm (by simp [he]))]; exact h.dispense i id m hi fun hl => hm (by simp [hl])
    · rw [if_neg (fun he => hn (by simp [he]))]; exact h.deposit m hm fun hl => hn (by simp [hl])
  have hn : ((s.mapLane l fun r => { r with txn := none }).laneRec l).txn = none := by rw [hr, if_pos rfl]
  unfold State.closeTxn
  dsimp only
  split
  · exact touches_settleAndAnnounce.matched _ ((touches_adopt hn).matched _ hm)
  · exact touches_settleAndAnnounce.matched _ (touches_checkCopy.matched _ hm)

theorem touches_leaveInDoubt {l : Lane} : Touches [.inDoubtLanes] s (s.leaveInDoubt l) := touches_setInDoubt

theorem touches_operateLane {l : Lane} : Touches (.profiles :: announceParts) s (s.operateLane l) := by
  have hm : ∀ b, Touches (.profiles :: announceParts) s (s.mapLane l fun r => { r with switchPending := b }) := fun b =>
    (touches_mapLane (framed_mapLane (ps := [.laneRecs, .profiles]) (hf := fun h => absurd (by decide) h))).mono
  unfold State.operateLane
  exact .ite (fun _ => (hm _).then touches_announce) fun _ =>
    .ite (fun h => (touches_adopt h).mono.then touches_announce) fun _ => (hm _).then touches_announce

/-! ## Cassettes -/

theorem touches_checkDenomination {i : DenomId} :
    Touches [.denominations, .journal, .sticky] s (s.checkDenomination i) := by
  have h : ∀ d, Touches [.denominations] s (s.mapCash fun k => { k with denominations := d }) := fun d => .of_framed fun p hp => by
    cases p with
    | denominations => exact absurd (by decide) hp
    | _ => rfl
  exact .ite (fun _ => .refl) fun _ => (h _).mono.then touches_tableFault

theorem touches_mapCassette {c : CassetteId} {f : Cassette → Cassette} :
    Touches [.cassettes, .reports, .sticky] s (s.mapCassette c f) := by
  have h : Touches [.cassettes] s (s.mapCash fun k => { k with cassettes := k.cassettes.set c (f k.cassettes[c]) }) :=
    .of_framed fun p hp => by
      cases p with
      | cassettes => exact absurd (by decide) hp
      | _ => rfl
  exact .ite (fun _ => h.mono) fun _ => h.mono.then touches_send7

theorem touches_checkCassette {c : CassetteId} : Touches cassetteParts s (s.checkCassette c) := by
  unfold State.checkCassette
  exact .ite (fun _ => .refl) fun _ => touches_mapCassette.mono.then touches_tableFault

theorem touches_changeCassette {c : CassetteId} {f : Cassette → Cassette} :
    Touches [.cassettes, .reports, .sticky] s (s.changeCassette c f) := touches_mapCassette

theorem touches_markUnreconciled {c : CassetteId} : Touches [.cassettes, .reports, .sticky] s (s.markUnreconciled c) :=
  touches_changeCassette

theorem touches_move {c : CassetteId} {f : Cassette → Cassette} : Touches cassetteParts s (s.move c f) := by
  unfold State.move
  exact .ite (fun _ => touches_mapCassette.mono.then touches_raiseCassetteLow |>.then touches_record) fun _ =>
    touches_mapCassette.mono

theorem touches_creditPurge {n : Nat} {b : Bool} : Touches cassetteParts s (s.creditPurge n b) :=
  touches_checkCassette.then touches_move

theorem touches_debitPick {f : List (CassetteId × Nat × Nat)} : Touches cassetteParts s (s.debitPick f) :=
  (touches_forEach (fun _ _ => touches_checkCassette.then touches_move) _ _).then touches_creditPurge

theorem touches_creditStack {c : CassetteId} {b : Bool} : Touches cassetteParts s (s.creditStack c b) :=
  touches_checkCassette.then touches_move

theorem touches_raiseInbound {c : CassetteId} : Touches [.cassettes, .reports, .sticky] s (s.raiseInbound c) :=
  touches_changeCassette

theorem touches_lowerInbound {c : CassetteId} : Touches [.cassettes, .reports, .sticky] s (s.lowerInbound c) :=
  touches_changeCassette

theorem touches_checkValueOf {c : CassetteId} : Touches [.denominations, .journal, .sticky] s (s.checkValueOf c) := by
  unfold State.checkValueOf
  split
  · exact touches_checkDenomination
  · exact .refl

theorem touches_checkPlanner : Touches [.planner, .journal, .sticky] s s.checkPlanner := by
  have h : ∀ x, Touches [.planner] s (s.mapCash fun k => { k with planner := x }) := fun x => .of_framed fun p hp => by
    cases p with
    | planner => exact absurd (by decide) hp
    | _ => rfl
  exact .ite (fun _ => .refl) fun _ => (h _).mono.then touches_tableFault

theorem touches_readForPlan : Touches (.planner :: .denominations :: cassetteParts) s s.readForPlan :=
  touches_checkPlanner.mono.then (touches_forEach (fun _ _ => touches_checkCassette) _ _)
    |>.then (touches_forEach (fun _ _ => touches_checkValueOf) _ _)

/-! ## The Authority Table -/

theorem touches_checkAuthority {i : AuthId} : Touches [.authority, .journal, .sticky] s (s.checkAuthority i) := by
  unfold State.checkAuthority
  exact .ite (fun _ => .refl) fun _ => touches_mapAuthority.mono.then touches_tableFault

theorem touches_chargeShift {i : AuthId} {n : Nat} : Touches [.authority] s (s.chargeShift i n) := touches_mapAuthority
theorem touches_lowerShift {i : AuthId} {n : Nat} : Touches [.authority] s (s.lowerShift i n) := touches_mapAuthority

theorem touches_resetShiftOf {i : AuthId} : Touches [.authority, .journal, .sticky] s (s.resetShiftOf i) :=
  touches_mapAuthority.mono.then touches_record

/-! ## The Recycler Work Queue -/

theorem touches_enqueueWork {w : Work} : Touches [.workQueue] s (s.enqueueWork w) := touches_mapWork
theorem touches_pushWork {w : Work} : Touches [.workQueue] s (s.pushWork w) := touches_mapWork
theorem touches_dropWork {p : WorkEntry → Bool} : Touches [.workQueue] s (s.dropWork p) := touches_mapWork

theorem touches_endOperation {p : WorkEntry → Bool} : Touches [.workQueue, .recycler] s (s.endOperation p) := by
  unfold State.endOperation
  exact .ite (fun _ => touches_dropWork.mono.then touches_setRecycler) fun _ => .refl

theorem touches_unstart {p : WorkEntry → Bool} : Touches [.workQueue, .recycler] s (s.unstart p) := by
  unfold State.unstart
  exact .ite (fun _ => touches_mapWork.mono.then touches_setRecycler) fun _ => .refl

end Shared

/-! ## Dispense Control -/

section Dispense

variable {s : State} {i : DispenseSlot}

theorem touches_onDispense {ps : List Part} {act : State → DispenseRecord → State} (h : ∀ r, Touches ps s (act s r)) :
    Touches ps s (s.onDispense i act) := by
  unfold State.onDispense
  split
  · exact h _
  · exact .refl

theorem touches_touchDispense : Touches [.records] s (s.touchDispense i) := touches_mapDispenseAt

theorem touches_reportDispense {e : DispenseEvent} {c : Option Code} :
    Touches [.reports, .sticky] s (s.reportDispense i e c) := touches_onDispense fun _ => touches_sendCopied

theorem touches_lowerCharge {n : Nat} :
    Touches [.records, .authority, .journal, .sticky] s (s.lowerCharge i n) := by
  refine touches_onDispense fun r => .ite (fun _ => (touches_mapDispenseAt).mono) fun _ => ?_
  have h : Touches [.records, .authority, .journal, .sticky] s (s.checkAuthority r.index) := touches_checkAuthority.mono
  exact .ite (fun _ => (h.then touches_lowerShift).then touches_mapDispenseAt) fun _ => h.then touches_mapDispenseAt

/-- A freed record leaves its lane without a transaction to match. -/
theorem State.matchedBut.freeDispense {ls : List Lane} {id : Nat} {l : Lane} (h : s.matchedBut (l :: ls))
    (hi : Part.view .names s i = some (id, l)) (hs : l ∉ ls → Part.view .occupied s l = false) :
    (s.setDispense i none).matchedBut ls := by
  have hn : ∀ j, Part.view .names (s.setDispense i none) j = if j = i then none else Part.view .names s j := fun j => by
    simp only [Part.view, setDispense_record]; split <;> rfl
  refine ⟨h.taken, fun j k m hj hm => ?_, fun m hm hl => ?_, fun j j' k k' m hj hj' => ?_⟩
  · rw [hn] at hj
    split at hj
    · exact absurd hj (by simp)
    · next hne =>
      have hml : m ≠ l := by rintro rfl; exact hne (h.apart j i k id m hj hi)
      exact h.dispense j k m hj (by simp [hml, hm])
  · have hml : m ≠ l := by rintro rfl; exact absurd ((hs hl).symm.trans hm) (by decide)
    exact h.deposit m hm (by simp [hml, hl])
  · rw [hn] at hj hj'
    split at hj
    · exact absurd hj (by simp)
    · split at hj'
      · exact absurd hj' (by simp)
      · exact h.apart j j' k k' m hj hj'

theorem touches_endDispense {k : RecordKind} {n : Nat} {c : Option Code} {d : Nat} :
    Touches outcomeParts s (s.endDispense i k n c d) := by
  have h : Touches outcomeParts s ((if k = .cancelled ∨ k = .retracted then s.lowerCharge i 0 else s).touchDispense i) :=
    (Touches.ite (fun _ => touches_lowerCharge.mono) fun _ => .refl).then touches_touchDispense
  unfold State.endDispense
  dsimp only
  refine h.then (qs := outcomeParts) ?_
  generalize ((if k = .cancelled ∨ k = .retracted then s.lowerCharge i 0 else s).touchDispense i) = t
  unfold State.onDispense
  split
  · next r hr =>
    have hi : Part.view .names t i = some (r.id, r.lane) := by simp only [Part.view, hr]; rfl
    have hp : Touches [.journal, .reserved, .holds, .copies, .laneRecs, .reports, .sticky] t
        (if bringsCash k r.flags.takenLate then (t.outcome (r.outcomeEntry k n d)).postHold r.lane .cash
          else t.outcome (r.outcomeEntry k n d)) :=
      .ite (fun _ => touches_outcome.mono.then touches_postHold) fun _ => touches_outcome.mono
    have hc := (hp.framed.mono (ps := .reserved :: .holds :: txnParts)).then (framed_closeTxn (l := r.lane))
    have hq := hc.then (touches_reportDispense (i := i) (e := .outcome k) (c := c)).framed
    have hg : Grows t ((((if bringsCash k r.flags.takenLate then (t.outcome (r.outcomeEntry k n d)).postHold r.lane .cash
        else t.outcome (r.outcomeEntry k n d)).closeTxn r.lane).reportDispense i (.outcome k) c).setDispense i none) :=
      ((hp.grows.trans grows_closeTxn).trans touches_reportDispense.grows).trans (.of_framed framed_setDispense)
    refine ⟨(hq.mono (ps := outcomeParts)).then framed_setDispense, fun ls hm => ?_, hg⟩
    refine (touches_reportDispense.matched _ (hp.matched ls hm).closeTxn).freeDispense
      (by rw [hq .names (by decide)]; exact hi) fun hl => ?_
    rw [hq .occupied (by decide)]
    by_contra hs
    have hsd := hm.deposit r.lane (by simpa using hs) hl
    rw [hm.dispense i r.id r.lane hi hl] at hsd
    cases hsd
  · exact .refl

theorem touches_endInDoubt {b : Bool} {d : Nat} : Touches doubtParts s (s.endInDoubt i b d) := by
  refine touches_onDispense fun r => ?_
  have h : Touches doubtParts s (if b then s.forEach r.currentPlan fun s p => s.markUnreconciled p.cassette else s) :=
    .ite (fun _ => (touches_forEach (fun _ _ => touches_markUnreconciled) _ _).mono) fun _ => .refl
  exact h.then touches_mapDispenseAt |>.then touches_endDispense |>.then touches_setInDoubt |>.then touches_endOperation

theorem touches_sendQuery {n : Nat} : Touches (.outgoing :: doubtParts) s (State.sendQuery n s i) := by
  induction n generalizing s with
  | zero => exact touches_endInDoubt.mono
  | succ n ih =>
    unfold State.sendQuery
    refine touches_onDispense fun r => .ite (fun _ => touches_endInDoubt.mono) fun _ => ?_
    have h : ∀ f o, (∀ r, ((f r).id, (f r).lane) = (r.id, r.lane)) → Touches (.outgoing :: doubtParts) s
        ((s.mapDispenseAt i f).placeFor (s.mapDispenseAt i f).recyclerEntry .dispense o).1 := fun f o hf =>
      (touches_mapDispenseAt hf).mono.then touches_placeFor
    exact .ite (fun _ => h _ _ (by exact fun _ => rfl)) fun _ => (h _ _ (by exact fun _ => rfl)).then ih

theorem touches_nextQuery : Touches (.outgoing :: doubtParts) s (s.nextQuery i) := touches_sendQuery

theorem touches_enterRecovery : Touches (.outgoing :: doubtParts) s (s.enterRecovery i) :=
  (touches_mapDispenseAt).mono.then (touches_onDispense fun _ => touches_send) |>.then touches_nextQuery

theorem touches_setLastTag {n : Nat} : Touches [.lastTag] s (s.mapDispense fun d => { d with lastTag := n }) := by
  refine .of_framed fun p hp => ?_
  cases p with
  | lastTag => exact absurd (by decide) hp
  | _ => rfl

theorem touches_sendPick : Touches [.lastTag, .records, .outgoing, .journal, .sticky] s (s.sendPick i).1 := by
  have h : ∀ n f, (∀ r : DispenseRecord, ((f r).id, (f r).lane) = (r.id, r.lane)) →
      Touches [.lastTag, .records, .outgoing, .journal, .sticky] s
        ((s.mapDispense fun d => { d with lastTag := n }).mapDispenseAt i f) := fun n f hf =>
    touches_setLastTag.mono.then (touches_mapDispenseAt hf)
  unfold State.sendPick
  dsimp only
  split
  · exact (h _ _ (by exact fun _ => rfl)).then touches_placeFor
  · exact h _ _ (by exact fun _ => rfl)

theorem touches_startPick : Touches (.lastTag :: .outgoing :: doubtParts) s (s.startPick i) := by
  have h : Touches (.lastTag :: .outgoing :: doubtParts) s ((s.touchDispense i).sendPick i).1 :=
    touches_touchDispense.mono.then touches_sendPick
  have h2 := h.then (ps := .lastTag :: .outgoing :: doubtParts) (qs := [.records, .reports, .sticky])
    (touches_onDispense (i := i) (act := fun s r => if r.state = .queued then
      (s.mapDispenseAt i fun r => { r with state := .picking }).reportDispense i .picking else s) fun r =>
      .ite (fun _ => (touches_mapDispenseAt).mono.then touches_reportDispense) fun _ => .refl)
  exact .ite (fun _ => h2) fun _ => h2.then touches_enterRecovery

theorem touches_checkPresenter : Touches [.presenter, .journal, .sticky] s s.checkPresenter := by
  have h : ∀ x, Touches [.presenter] s (s.mapDispense fun d => { d with setting := x }) := fun x => .of_framed fun p hp => by
    cases p with
    | presenter => exact absurd (by decide) hp
    | _ => rfl
  exact .ite (fun _ => .refl) fun _ => (h _).mono.then touches_tableFault

theorem touches_orderRetract : Touches [.records, .outgoing, .journal, .sticky] s (s.orderRetract i) :=
  touches_onDispense fun _ => (touches_mapDispenseAt).mono.then touches_post

theorem touches_becomePresented : Touches (.presenter :: .records :: .outgoing :: logParts) s (s.becomePresented i) := by
  have h : Touches (.presenter :: .records :: .outgoing :: logParts) s
      ((s.mapDispenseAt i fun r => { r with state := .presented }).reportDispense i .presented) :=
    (touches_mapDispenseAt).mono.then touches_reportDispense
  exact .ite (fun _ => h.then touches_orderRetract) fun _ => (h.then touches_checkPresenter).then touches_mapDispenseAt

theorem touches_decidePartial : Touches (.presenter :: .outgoing :: outcomeParts) s (s.decidePartial i) := by
  refine touches_onDispense fun r => ?_
  have h : Touches (.presenter :: .outgoing :: outcomeParts) s
      ((((s.mapDispenseAt i fun r => { r with decided := some .partialPay }).lowerCharge i r.presentedValue).postHold r.lane
        .cash).reportDispense i .partialPay) :=
    (touches_mapDispenseAt).mono.then touches_lowerCharge |>.then touches_postHold |>.then touches_reportDispense
  exact .ite (fun _ => h.then touches_becomePresented) fun _ => h.then touches_endDispense

/-- A top-up changes nothing but what its reads do. -/
theorem planTopUp_state {n : Nat} {f : PickFigures} :
    (s.planTopUp n f).1 = if s.topUpAllowed then s.readForPlan else s := by
  unfold State.planTopUp
  by_cases h : s.topUpAllowed
  · rw [if_pos h, if_pos h]
    dsimp only
    split
    · dsimp only
    · generalize mixOf _ _ _ = x
      cases x <;> dsimp only
  · rw [if_neg h, if_neg h]

theorem touches_planTopUp {n : Nat} {f : PickFigures} :
    Touches (.planner :: .denominations :: cassetteParts) s (s.planTopUp n f).1 := by
  rw [planTopUp_state]
  exact .ite (fun _ => touches_readForPlan) fun _ => .refl

theorem touches_settleShort {f : PickFigures} : Touches dispenseParts s (s.settleShort i f) := by
  refine touches_onDispense fun r => .ite (fun _ => touches_decidePartial.mono) fun _ => ?_
  dsimp only
  split
  · exact touches_planTopUp.mono.then touches_decidePartial
  · exact touches_planTopUp.mono.then touches_mapDispenseAt |>.then touches_pushWork |>.then touches_record
      |>.then touches_reportDispense

theorem touches_settleOver {f : DispenseSlot} : Touches dispenseParts s (s.settleOver f) :=
  touches_onDispense fun _ => (touches_mapDispenseAt).mono.then touches_postHold |>.then touches_record
    |>.then touches_reportDispense |>.then touches_becomePresented

theorem touches_settleDispense {f : PickFigures} : Touches dispenseParts s (s.settleDispense i f) :=
  touches_onDispense fun _ => .ite (fun _ => touches_becomePresented.mono) fun _ => .ite (fun _ => touches_settleShort)
    fun _ => touches_settleOver

theorem touches_readForPresented {r : DispenseRecord} :
    Touches [.denominations, .journal, .sticky] s (s.readForPresented r) :=
  touches_forEach (fun _ _ => touches_checkValueOf) _ _

/-- A pick report counted and recorded, before its record is settled. -/
theorem touches_reconcile {f : PickFigures} {n : Nat} {r : Option Nat} : Touches dispenseParts s (s.reconcile i f n r) := by
  have h : Touches dispenseParts s
      ((((s.touchDispense i).mapDispenseAt i fun r =>
        { r with reportTimer := none, recovery := .notUnderWay, flags := { r.flags with inDoubt := false } }).debitPick f).onDispense
        i fun s r => s.endOperation fun e => e.isPickOf r.id) :=
    touches_touchDispense.mono.then touches_mapDispenseAt |>.then touches_debitPick
      |>.then (touches_onDispense fun _ => touches_endOperation)
  exact (Touches.ite (fun _ => h.then touches_setRecycler) fun _ => h).then touches_mapDispenseAt
    |>.then (touches_onDispense fun _ => touches_readForPresented) |>.then (touches_onDispense fun _ => touches_record)
    |>.then (touches_onDispense fun _ => touches_mapDispenseAt) |>.then touches_settleDispense

theorem touches_latePickReport {tag : Nat} {f : PickFigures} {n : Nat} :
    Touches cassetteParts s (s.latePickReport tag f n) := touches_debitPick.then touches_record

theorem touches_takeTaken {tag : Nat} : Touches (.records :: holdParts) s (s.takeTaken tag) := by
  unfold State.takeTaken
  split
  · exact touches_record.mono
  · refine touches_onDispense fun r => .ite (fun _ => ?_) fun _ => touches_record.mono
    refine touches_touchDispense.mono.then (qs := .records :: holdParts) (touches_onDispense fun r => ?_)
    exact .ite (fun _ => (touches_mapDispenseAt).mono.then touches_postHold |>.then touches_record) fun _ =>
      (touches_mapDispenseAt).mono.then touches_record |>.then touches_reportDispense

theorem touches_takeRetracted {tag n : Nat} : Touches (.cassettes :: .low :: outcomeParts) s (s.takeRetracted tag n) := by
  unfold State.takeRetracted
  dsimp only
  split
  · exact touches_creditPurge.mono.then touches_record
  · exact touches_creditPurge.mono.then touches_touchDispense
      |>.then (touches_onDispense (ps := outcomeParts) fun _ => (touches_mapDispenseAt).mono.then touches_endDispense)

theorem touches_noticeBound {id : Nat} : Touches (.records :: logParts) s (s.noticeBound id) := by
  unfold State.noticeBound
  split
  · exact .refl
  · exact touches_touchDispense.mono.then touches_mapDispenseAt |>.then (touches_onDispense fun _ => touches_record)
      |>.then touches_reportDispense

theorem touches_noticeBack {id : Nat} : Touches [.records, .reports, .sticky] s (s.noticeBack id) := by
  unfold State.noticeBack
  split
  · exact .refl
  · exact touches_touchDispense.mono.then (touches_onDispense (ps := [.records, .reports, .sticky]) fun _ =>
      .ite (fun _ => (touches_mapDispenseAt).mono.then touches_reportDispense) fun _ => .refl)

theorem touches_noticeLifted {id : Nat} : Touches outcomeParts s (s.noticeLifted id) := by
  unfold State.noticeLifted
  split
  · exact .refl
  · exact touches_onDispense fun _ => .ite (fun _ => touches_endDispense) fun _ => .refl

theorem touches_cancelQueued {c : Option Code} : Touches outcomeParts s (s.cancelQueued i c) :=
  touches_touchDispense.mono.then (touches_onDispense fun _ => touches_endDispense)

theorem touches_pickFlushed {id : Nat} {c : Option Code} :
    Touches (.presenter :: .outgoing :: outcomeParts) s (s.pickFlushed id c) := by
  unfold State.pickFlushed
  split
  · exact .refl
  · refine touches_onDispense fun r => ?_
    split
    · exact touches_cancelQueued.mono
    · exact touches_touchDispense.mono.then touches_decidePartial
    all_goals exact .refl

theorem touches_dispenseLockdown : Touches (.outgoing :: outcomeParts) s s.dispenseLockdown :=
  touches_forEach (fun _ _ => touches_onDispense fun _ => .ite (fun _ => touches_cancelQueued.mono) fun _ =>
    .ite (fun _ => touches_touchDispense.mono.then touches_orderRetract) fun _ => .refl) _ _

theorem touches_dispenseFaulted : Touches outcomeParts s s.dispenseFaulted :=
  touches_forEach (fun _ _ => touches_onDispense fun _ => .ite (fun _ => touches_cancelQueued) fun _ => .refl) _ _

theorem touches_dispenseIsolated : Touches doubtParts s s.dispenseIsolated := by
  refine touches_forEach (fun s i => touches_onDispense fun r => ?_) _ _
  dsimp only
  split
  · exact .ite (fun _ => .refl) fun _ => touches_cancelQueued.mono
  · exact .ite (fun _ => .refl) fun _ => touches_endInDoubt
  · exact touches_endInDoubt
  all_goals exact .refl

theorem touches_resetDispense : Touches doubtParts s (s.resetDispense i) := by
  refine touches_onDispense fun r => ?_
  split
  · exact touches_endDispense.mono
  · exact touches_endInDoubt
  · exact touches_endDispense.mono
  · exact touches_endDispense.mono
  · exact touches_endInDoubt

theorem touches_resetDispenses : Touches doubtParts s s.resetDispenses := touches_forEach (fun _ _ => touches_resetDispense) _ _

end Dispense

end Sys2Proof.Machine
end

section
/-! SUPPORT. The parts the operations of Deposit Control, of the recycler, of Envelope Control and of the Tube Scheduler touch. -/

namespace Sys2Proof.Machine

open Sys2Proof

-- One thread, so that the check's memory holds the stacks.
set_option Elab.async false

/-! ## Deposit Control -/

section Deposit

variable {s : State} {l : Lane}

theorem touches_onSession {ps : List Part} {act : State → Session → State} (h : ∀ x, Touches ps s (act s x)) :
    Touches ps s (s.onSession l act) := by
  unfold State.onSession
  split
  · exact h _
  · exact .refl

theorem touches_touchSession : Touches [.slots] s (s.touchSession l) := touches_mapSession

theorem touches_reportDeposit {e : DepositEvent} {c : Option Code} : Touches [.reports, .sticky] s (s.reportDeposit l e c) :=
  touches_onSession fun _ => touches_sendCopied

theorem touches_checkDepositSetting : Touches [.depositSetting, .journal, .sticky] s s.checkDepositSetting := by
  have h : ∀ x, Touches [.depositSetting] s (s.mapDeposit fun d => { d with setting := x }) := fun x => .of_framed fun p hp => by
    cases p with
    | depositSetting => exact absurd (by decide) hp
    | _ => rfl
  exact .ite (fun _ => .refl) fun _ => (h _).mono.then touches_tableFault

theorem touches_startIdle : Touches [.slots, .depositSetting, .journal, .sticky] s (s.startIdle l) :=
  touches_checkDepositSetting.mono.then touches_mapSession

theorem touches_noteTimes : Touches [.slots, .depositSetting, .journal, .sticky] s (s.noteTimes l) := by
  refine touches_onSession fun x => ?_
  dsimp only
  split
  · exact touches_mapSession.mono
  · exact touches_mapSession.mono.then touches_startIdle
  · exact touches_mapSession.mono.then touches_mapSession

theorem touches_readNoteValue {d : Nat} : Touches [.denominations, .journal, .sticky] s (s.readNoteValue d).1 := by
  unfold State.readNoteValue
  split
  · exact .refl
  · exact touches_checkDenomination

/-- A freed slot leaves its lane without a transaction to match. -/
theorem State.matchedBut.freeSession {ls : List Lane} (h : s.matchedBut (l :: ls))
    (hd : l ∉ ls → ∀ i id, Part.view .names s i ≠ some (id, l)) : (s.setSession l none).matchedBut ls := by
  refine ⟨h.taken, fun i id m hi hm => ?_, fun m hm hl => ?_, h.apart⟩
  · have hml : m ≠ l := by rintro rfl; exact hd hm i id hi
    exact h.dispense i id m hi (by simp [hml, hm])
  · have hml : m ≠ l := by
      rintro rfl
      simp [Part.view, setSession_session] at hm
    have hs : Part.view .occupied s m = true := by
      simpa only [Part.view, setSession_session, if_neg hml] using hm
    exact h.deposit m hs (by simp [hml, hl])

theorem touches_endSession {e : SessionEnd} {r : Option Nat} : Touches sessionParts s (s.endSession l e r) := by
  unfold State.endSession
  dsimp only
  refine (touches_touchSession (l := l)).mono.then (qs := sessionParts) ?_
  generalize s.touchSession l = t
  unfold State.onSession
  split
  · next x hx =>
    have hp : Touches [.journal, .reserved, .holds, .copies, .laneRecs, .reports, .sticky] t
        (if e.kind = .inDoubt then (t.outcome (x.outcomeEntry l e r)).postHold l .cash else t.outcome (x.outcomeEntry l e r)) :=
      .ite (fun _ => touches_outcome.mono.then touches_postHold) fun _ => touches_outcome.mono
    have hc := (hp.framed.mono (ps := .reserved :: .holds :: txnParts)).then (framed_closeTxn (l := l))
    have hq := hc.then (touches_reportDeposit (l := l) (e := e.event) (c := e.code)).framed
    have hf : Touches sessionParts t ((((if e.kind = .inDoubt then (t.outcome (x.outcomeEntry l e r)).postHold l .cash
        else t.outcome (x.outcomeEntry l e r)).closeTxn l).reportDeposit l e.event e.code).setSession l none) := by
      refine ⟨(hq.mono (ps := sessionParts)).then framed_setSession, fun ls hm => ?_,
        ((hp.grows.trans grows_closeTxn).trans touches_reportDeposit.grows).trans (.of_framed framed_setSession)⟩
      refine (touches_reportDeposit.matched _ (hp.matched ls hm).closeTxn).freeSession fun hl i id hi => ?_
      rw [hq .names (by decide)] at hi
      have ho : Part.view .occupied t l = true := by simp only [Part.view, hx]; rfl
      have hsd := hm.deposit l ho hl
      rw [hm.dispense i id l hi hl] at hsd
      cases hsd
    exact .ite (fun _ => hf.then touches_retire) fun _ => (hf.then touches_retire).then touches_endOperation
  · exact .refl

theorem touches_closeSession {c : Option Code} {b : Bool} {r : Option Nat} :
    Touches sessionParts s (s.closeSession l c b r) := touches_onSession fun _ => touches_endSession

theorem touches_markDest {n : Transit} : Touches [.cassettes, .reports, .sticky] s (s.markDest n) := by
  unfold State.markDest
  split
  · exact touches_markUnreconciled
  · exact .refl

theorem touches_giveUp {n : Transit} : Touches [.cassettes, .reports, .sticky] s (s.giveUp n) := by
  unfold State.giveUp
  split
  · exact touches_lowerInbound.then touches_markDest
  · exact .refl

theorem touches_doubtValue {list : List Transit} : Touches [.denominations, .journal, .sticky] s (s.doubtValue list).1 := by
  have h : ∀ (a : State × Nat × Bool), Touches [.denominations, .journal, .sticky] s a.1 →
      Touches [.denominations, .journal, .sticky] s (list.foldl (fun a t =>
        let v := a.1.readNoteValue t.denom; (v.1, a.2.1 + v.2.1, a.2.2 && v.2.2)) a).1 := by
    induction list with
    | nil => exact fun a ha => ha
    | cons n list ih => exact fun a ha => ih _ (ha.then touches_readNoteValue)
  exact h (s, 0, true) .refl

theorem touches_sessionDoubted {b : Bool} {mark : State → Transit → State}
    (hm : ∀ s n, Touches [.cassettes, .reports, .sticky] s (mark s n)) :
    Touches (.cassettes :: .denominations :: sessionParts) s (s.sessionDoubted l b mark) := by
  unfold State.sessionDoubted
  exact touches_onSession fun _ => (touches_forEach hm _ _).mono.then touches_doubtValue |>.then touches_mapSession
    |>.then touches_endSession

theorem touches_sessionInDoubt {b : Bool} :
    Touches (.cassettes :: .denominations :: sessionParts) s (s.sessionInDoubt l b) :=
  touches_sessionDoubted fun _ _ => touches_giveUp

theorem touches_enterEnding {c : EndCause} : Touches (.slots :: .outgoing :: logParts) s (s.enterEnding l c) := by
  unfold State.enterEnding
  exact (Touches.ite (fun _ => touches_mapSession.mono.then touches_mapSession) fun _ =>
    touches_mapSession.mono.then touches_post).then touches_mapSession |>.then touches_reportDeposit

theorem touches_closeIfDone : Touches sessionParts s (s.closeIfDone l) :=
  touches_onSession fun _ => .ite (fun _ => touches_closeSession) fun _ => .refl

theorem touches_applyCap : Touches (.slots :: .outgoing :: logParts) s (s.applyCap l) :=
  touches_onSession fun _ => .ite (fun _ => touches_enterEnding) fun _ => .refl

theorem touches_acceptBeginEnded {b : Bool} {r : Result} :
    Touches (.depositSetting :: sessionParts) s (s.acceptBeginEnded l b r) := by
  unfold State.acceptBeginEnded
  refine .ite (fun _ => ?_) fun _ => .ite (fun _ => touches_post.mono) fun _ => .refl
  refine touches_touchSession.mono.then (qs := .depositSetting :: sessionParts) (touches_onSession fun x => ?_)
  cases r
  · exact .ite (fun _ => touches_enterEnding.mono) fun _ => touches_mapSession.mono.then touches_startIdle
      |>.then touches_reportDeposit
  · exact touches_closeSession.mono
  · exact touches_enterEnding.mono
  · exact touches_enterEnding.mono

theorem touches_startAccept : Touches (.depositSetting :: sessionParts) s (s.startAccept l) := by
  unfold State.startAccept
  exact .ite (fun _ => touches_placeFor.mono) fun _ => touches_placeFor.mono.then touches_acceptBeginEnded

theorem touches_noteRejected : Touches [.slots, .depositSetting, .journal, .sticky] s (s.noteRejected l) := by
  unfold State.noteRejected
  exact .ite (fun _ => touches_touchSession.mono.then touches_mapSession |>.then touches_noteTimes) fun _ => touches_record.mono

theorem touches_routeFor {d : DenomId} : Touches cassetteParts s (s.routeFor d).1 := by
  have h : Touches cassetteParts s (s.forEach workCassettes State.checkCassette) :=
    touches_forEach (fun _ _ => touches_checkCassette) _ _
  unfold State.routeFor
  dsimp only
  split
  · dsimp only
    exact h
  · split
    all_goals
      dsimp only
      exact h.then touches_checkCassette

theorem touches_chooseRoute {x : Session} {d : Nat} : Touches cassetteParts s (s.chooseRoute x d).1 := by
  unfold State.chooseRoute
  split
  · split
    · exact touches_routeFor
    · exact .refl
  · exact .refl

theorem touches_sendRoute {n : Nat} {d : Dest} : Touches [.outgoing, .journal, .sticky] s (s.sendRoute n d) := touches_post

theorem touches_listNote {n : Transit} : Touches [.slots, .cassettes, .reports, .sticky] s (s.listNote l n) := by
  unfold State.listNote
  dsimp only
  split
  · exact touches_mapSession.mono.then touches_raiseInbound |>.then touches_mapSession
  · exact touches_mapSession.mono

theorem touches_noteValidated {n d : Nat} :
    Touches (.slots :: .depositSetting :: .outgoing :: cassetteParts) s (s.noteValidated l n d) := by
  unfold State.noteValidated
  split
  · exact touches_sendRoute.mono.then touches_record
  · dsimp only
    refine .ite (fun _ => .ite (fun _ => ?_) fun _ => ?_) fun _ => ?_
    · exact touches_touchSession.mono.then touches_chooseRoute |>.then touches_sendRoute |>.then touches_listNote
        |>.then touches_noteTimes |>.then touches_applyCap
    · exact touches_touchSession.mono.then touches_sendRoute |>.then touches_noteTimes
    · exact touches_sendRoute.mono.then touches_noteTimes |>.then touches_record

theorem touches_tallyStack {n : Transit} {d : StackDest} :
    Touches [.slots, .denominations, .journal, .sticky] s (s.tallyStack l n d) :=
  touches_readNoteValue.mono.then touches_mapSession

theorem touches_creditNote {n : Transit} {d : StackDest} : Touches (.slots :: cassetteParts) s (s.creditNote l n d) := by
  unfold State.creditNote
  refine .ite (fun _ => touches_creditStack.mono) fun _ => ?_
  have h : Touches (.slots :: cassetteParts) s
      (match n.dest with | .store d => s.lowerInbound (stackCassette d) | .toCustomer => s) := by
    split
    · exact touches_lowerInbound.mono
    · exact .refl
  exact h.then touches_creditStack |>.then touches_record |>.then touches_mapSession

theorem touches_strayLanding : Touches (.depositSetting :: sessionParts) s (s.strayLanding l) :=
  (Touches.ite (fun _ => touches_touchSession.mono) fun _ => .refl).then touches_noteTimes |>.then touches_closeIfDone

theorem touches_noteStacked {n : Nat} {d : StackDest} : Touches depositParts s (s.noteStacked l n d) := by
  unfold State.noteStacked
  split
  · exact touches_touchSession.mono.then (touches_mapSession : Touches [.slots] _ (State.unlist _ _ _))
      |>.then touches_creditNote |>.then touches_tallyStack |>.then touches_noteTimes |>.then touches_applyCap
      |>.then touches_closeIfDone
  · exact touches_markUnreconciled.mono.then touches_record |>.then touches_strayLanding

theorem touches_noteReturned {n : Nat} : Touches depositParts s (s.noteReturned l n) := by
  unfold State.noteReturned
  split
  · next t ht =>
    have h : Touches depositParts s (((s.touchSession l).unlist l n).mapSession l fun x =>
        { x with returned := narrow 65535 (x.returned + 1) }) :=
      touches_touchSession.mono.then (touches_mapSession : Touches [.slots] _ (State.unlist _ _ _))
        |>.then touches_mapSession
    dsimp only
    split
    · exact h.then touches_lowerInbound |>.then touches_mapSession |>.then touches_record |>.then touches_noteTimes
        |>.then touches_closeIfDone
    · exact h.then touches_noteTimes |>.then touches_closeIfDone
  · exact touches_record.mono.then touches_strayLanding

theorem touches_acceptEnded : Touches sessionParts s (s.acceptEnded l) := by
  unfold State.acceptEnded
  split
  · exact touches_touchSession.mono.then touches_mapSession |>.then touches_closeIfDone
  · exact touches_touchSession.mono.then touches_enterEnding |>.then touches_closeIfDone
  · exact touches_record.mono

theorem touches_closeDeposit : Touches sessionParts s (s.closeDeposit l).1 := by
  unfold State.closeDeposit
  dsimp only
  split
  · exact touches_touchSession.mono.then touches_enterEnding
  · split
    · exact touches_touchSession.mono.then touches_dropWork |>.then touches_closeSession
    · exact touches_touchSession.mono.then touches_mapSession

theorem touches_idleExpired : Touches (.slots :: .outgoing :: logParts) s (s.idleExpired l) :=
  touches_touchSession.mono.then touches_enterEnding

theorem touches_endExpired : Touches (.cassettes :: .denominations :: sessionParts) s (s.endExpired l) := by
  refine touches_touchSession.mono.then (qs := .cassettes :: .denominations :: sessionParts) (touches_onSession fun x => ?_)
  exact .ite (fun _ => touches_mapSession.mono.then touches_closeSession) fun _ => touches_sessionInDoubt

theorem touches_acceptFlushed {c : Code} : Touches sessionParts s (s.acceptFlushed l c) :=
  touches_touchSession.mono.then touches_closeSession

theorem touches_depositLockdown : Touches (.slots :: .outgoing :: logParts) s s.depositLockdown :=
  touches_forEach (fun _ _ => touches_onSession fun _ =>
    .ite (fun _ => touches_touchSession.mono.then touches_enterEnding) fun _ => .refl) _ _

theorem touches_depositIsolated : Touches (.cassettes :: .denominations :: sessionParts) s s.depositIsolated :=
  touches_forEach (fun _ _ => touches_onSession fun _ => .ite (fun _ => touches_sessionInDoubt) fun _ =>
    .ite (fun _ => touches_closeSession.mono) fun _ => .refl) _ _

theorem touches_closeQueued {p : State → Lane → Bool} : Touches sessionParts s (s.closeQueued p) :=
  touches_forEach (fun _ _ => touches_onSession fun _ => .ite (fun _ => touches_closeSession) fun _ => .refl) _ _

theorem touches_depositJam : Touches (.cassettes :: .denominations :: sessionParts) s (s.depositJam l) :=
  (Touches.ite (fun _ => touches_sessionInDoubt) fun _ => touches_record.mono).then touches_closeQueued

theorem touches_depositFaulted : Touches sessionParts s s.depositFaulted := touches_closeQueued

theorem touches_resetSession : Touches (.cassettes :: .denominations :: sessionParts) s (s.resetSession l) := by
  refine touches_onSession fun x => .ite (fun _ => ?_) fun _ => touches_closeSession.mono
  exact (Touches.ite (fun _ => touches_closeSession.mono) fun _ => touches_sessionDoubted fun _ _ => touches_markDest).then
    touches_post

theorem touches_resetSessions : Touches (.cassettes :: .denominations :: sessionParts) s s.resetSessions :=
  touches_forEach (fun _ _ => touches_resetSession) _ _

end Deposit

/-! ## The recycler -/

section Recycler

variable {s : State} {i : DispenseSlot}

theorem touches_startEntry {e : WorkEntry} : Touches moneyParts s (s.startEntry e) := by
  unfold State.startEntry
  have h : Touches moneyParts s ((s.mapWork fun q => q.map fun x => if x = e then { x with running := true } else x).mapCash
      fun k => { k with recycler := .busy }) := touches_mapWork.mono.then touches_setRecycler
  dsimp only
  split
  · split
    · exact h.then touches_startPick
    · exact h
  · exact h.then touches_startAccept

theorem touches_arbitrateWith {n : Nat} : Touches moneyParts s (State.arbitrateWith n s) := by
  induction n generalizing s with
  | zero => exact .refl
  | succ n ih =>
    unfold State.arbitrateWith
    refine .ite (fun _ => ?_) fun _ => .refl
    split
    · exact touches_startEntry.then ih
    · exact .refl

theorem touches_arbitrate : Touches moneyParts s s.arbitrate := touches_arbitrateWith

theorem touches_handBack {e : WorkEntry} {c : Option Code} {d : Code} : Touches moneyParts s (s.handBack e c d) := by
  unfold State.handBack
  split
  · exact touches_pickFlushed.mono
  · exact touches_acceptFlushed.mono

theorem touches_faultEffects : Touches (.condition :: moneyParts) s s.faultEffects := by
  unfold State.faultEffects
  exact touches_setCondition.mono.then touches_dropWork |>.then touches_mapWork
    |>.then (touches_forEach (fun _ _ => touches_handBack) _ _) |>.then touches_dispenseFaulted |>.then touches_depositFaulted
    |>.then touches_record |>.then touches_send7

theorem touches_becomeFaulted : Touches (.condition :: moneyParts) s s.becomeFaulted := by
  unfold State.becomeFaulted
  exact .ite (fun _ => .refl) fun _ => touches_setRecycler.mono.then touches_faultEffects

theorem touches_takePickReport {tag : Nat} {f : PickFigures} {n : Nat} {r : Option Nat} :
    Touches (.condition :: moneyParts) s (s.takePickReport tag f n r) := by
  unfold State.takePickReport
  split
  · exact touches_latePickReport.mono
  · exact .ite (fun _ => touches_reconcile.mono.then touches_faultEffects) fun _ => touches_reconcile.mono.then touches_arbitrate

theorem touches_pickEnded {tag : Nat} {plan : List PlanItem} {r : Result} :
    Touches (.condition :: moneyParts) s (s.pickEnded tag plan r) := by
  unfold State.pickEnded
  split
  · exact .refl
  · have h : ∀ i, Touches (.condition :: moneyParts) s ((s.touchDispense i).onDispense i fun s r =>
        if r.recovery = .notUnderWay then (s.enterRecovery i).arbitrate else s) := fun i =>
      touches_touchDispense.mono.then (qs := moneyParts) (touches_onDispense fun _ =>
        .ite (fun _ => touches_enterRecovery.mono.then touches_arbitrate) fun _ => .refl)
    cases r
    · exact touches_touchDispense.mono
    · exact touches_takePickReport
    · exact h _
    · exact h _

theorem touches_putBackPick : Touches moneyParts s (s.putBackPick i) := by
  unfold State.putBackPick
  refine touches_onDispense fun r => ?_
  have h : Touches moneyParts s ((s.unstart fun e => e.isPickOf r.id).mapDispenseAt i fun r =>
      { r with reportTimer := none, pickTag := none, recovery := .notUnderWay }) :=
    touches_unstart.mono.then touches_mapDispenseAt
  exact (Touches.ite (fun _ => h.then touches_mapDispenseAt |>.then touches_reportDispense) fun _ => h).then touches_arbitrate

theorem touches_cancelPick : Touches dispenseParts s (s.cancelPick i) := by
  unfold State.cancelPick
  refine touches_onDispense fun r => ?_
  have h : Touches dispenseParts s ((s.endOperation fun e => e.isPickOf r.id).mapDispenseAt i fun r =>
      { r with reportTimer := none, recovery := .notUnderWay }) :=
    touches_endOperation.mono.then touches_mapDispenseAt
  exact .ite (fun _ => h.then touches_decidePartial) fun _ => h.then touches_endDispense

theorem touches_pickWithdrawn {tag : Nat} : Touches moneyParts s (s.pickWithdrawn tag) := by
  unfold State.pickWithdrawn
  split
  · exact .refl
  · exact .ite (fun _ => touches_touchDispense.mono.then touches_cancelPick) fun _ =>
      touches_touchDispense.mono.then touches_putBackPick

theorem touches_acceptWithdrawn {l : Lane} {b : Bool} : Touches moneyParts s (s.acceptWithdrawn l b) := by
  unfold State.acceptWithdrawn
  refine .ite (fun _ => ?_) fun _ => .refl
  refine touches_touchSession.mono.then (qs := moneyParts) (touches_onSession fun x => ?_)
  exact .ite (fun _ => touches_closeSession.mono) fun _ => .ite (fun _ => touches_closeSession.mono.then touches_arbitrate)
    fun _ => touches_unstart.mono.then touches_arbitrate

theorem touches_reIssue : Touches moneyParts s (s.reIssue i) := by
  unfold State.reIssue
  refine touches_onDispense fun r => .ite (fun _ => touches_endInDoubt.mono) fun _ => .ite (fun _ => ?_) fun _ => ?_
  · have h : ∀ e, Touches moneyParts s (((s.mapDispenseAt i fun r => { r with reissued := true }).sendPick i).1.record e) :=
      fun e => (touches_mapDispenseAt).mono.then touches_sendPick |>.then touches_record
    exact .ite (fun _ => h _) fun _ => (h _).then touches_enterRecovery
  · exact (touches_mapDispenseAt).mono.then touches_record |>.then touches_putBackPick

theorem touches_queryEnded {tag : Nat} {a : QueryAnswer} : Touches (.condition :: moneyParts) s (s.queryEnded tag a) := by
  unfold State.queryEnded
  split
  · exact .refl
  · cases a
    · exact touches_touchDispense.mono.then touches_takePickReport
    · exact touches_touchDispense.mono.then touches_mapDispenseAt
    · exact touches_touchDispense.mono.then touches_reIssue |>.then touches_arbitrate
    · exact touches_touchDispense.mono.then touches_nextQuery |>.then touches_arbitrate

theorem touches_pickReportExpired : Touches moneyParts s (s.pickReportExpired i) := by
  refine touches_touchDispense.mono.then (qs := moneyParts) (touches_onDispense fun r => ?_)
  split
  · exact touches_enterRecovery.mono.then touches_arbitrate
  · exact .refl
  · exact touches_nextQuery.mono.then touches_arbitrate

theorem touches_retractLost {d : Nat} : Touches moneyParts s (s.retractLost i d) :=
  touches_touchDispense.mono.then touches_endInDoubt |>.then touches_arbitrate

theorem touches_retractEnded {tag : Nat} {r : Result} : Touches moneyParts s (s.retractEnded tag r) := by
  unfold State.retractEnded
  split
  · split
    · exact touches_retractLost
    · exact .refl
  · exact .refl

theorem touches_openExchange {c : CassetteId} {e : Entry} : Touches (.exchange :: cassetteParts) s (s.openExchange c e).1 := by
  unfold State.openExchange
  dsimp only
  split
  · exact .refl
  · split
    · exact .refl
    · split
      · exact .refl
      · split
        · exact .refl
        · exact touches_setExchange.mono.then touches_changeCassette |>.then touches_record

theorem touches_endExchange {c : Cause} : Touches (.exchange :: .cassettes :: logParts) s (s.endExchange c) := by
  unfold State.endExchange
  split
  · exact .refl
  · exact touches_setExchange.mono.then touches_changeCassette |>.then touches_record |>.then touches_send7

theorem touches_cassetteIn {c : CassetteId} : Touches (.exchange :: moneyParts) s (s.cassetteIn c) := by
  unfold State.cassetteIn
  exact (Touches.ite (fun _ => touches_changeCassette.mono.then touches_endExchange) fun _ => touches_changeCassette.mono).then
    touches_record |>.then touches_arbitrate

theorem touches_lockdownFlush : Touches (.exchange :: moneyParts) s s.lockdownFlush :=
  touches_mapWork.mono.then (touches_forEach (fun _ _ => touches_handBack) _ _) |>.then touches_post
    |>.then touches_endExchange

theorem touches_lockdownLifted : Touches moneyParts s s.lockdownLifted := touches_post.mono.then touches_arbitrate

theorem touches_resetCash :
    Touches (.workQueue :: .recycler :: .exchange :: .outgoing :: .cassettes :: logParts) s s.resetCash := by
  have h : ∀ q (r : CashPosition → RecyclerState), Touches [.workQueue, .recycler] s (s.mapCash fun k => { k with workQueue := q, recycler := r k }) :=
    fun q r => .of_framed fun p hp => by
      cases p with
      | workQueue | recycler => exact absurd (by decide) hp
      | _ => rfl
  unfold State.resetCash
  exact .ite (fun _ => (h _ _).mono.then touches_endExchange |>.then touches_post) fun _ =>
    (h _ _).mono.then touches_endExchange

theorem touches_recyclerIsolated : Touches (.condition :: moneyParts) s s.recyclerIsolated :=
  touches_dispenseIsolated.mono.then touches_depositIsolated |>.then touches_becomeFaulted

theorem touches_takeDepositJam {l : Lane} : Touches (.condition :: moneyParts) s (s.takeDepositJam l) :=
  touches_depositJam.mono.then touches_becomeFaulted

end Recycler

/-! ## Envelope Control -/

section Envelope

variable {s : State} {l : Lane}

theorem touches_setEnvelopes {f : EnvelopeControl → Nat} :
    Touches [.envelopes] s (s.mapEnvelope fun e => { e with count := f e }) := by
  refine .of_framed fun p hp => ?_
  cases p with
  | envelopes => exact absurd (by decide) hp
  | _ => rfl

theorem touches_changeDepository {ps : List Part} {f : EnvelopeControl → EnvelopeControl}
    (h : Touches ps s (s.mapEnvelope f)) : Touches (ps ++ [.reports, .sticky]) s (s.changeDepository f) := by
  unfold State.changeDepository
  have hm : Touches (ps ++ [.reports, .sticky]) s (s.mapEnvelope f) := h.mono (by simp +contextual [covers])
  exact .ite (fun _ => hm) fun _ => hm.then touches_send7 (by simp +contextual [covers])

theorem touches_checkDepositorySetting : Touches [.depository, .journal, .sticky] s s.checkDepositorySetting := by
  have h : ∀ x, Touches [.depository] s (s.mapEnvelope fun e => { e with setting := x }) := fun x => .of_framed fun p hp => by
    cases p with
    | depository => exact absurd (by decide) hp
    | _ => rfl
  exact .ite (fun _ => .refl) fun _ => (h _).mono.then touches_tableFault

theorem touches_reportEnvelope {e : EnvelopeEvent} {n : Option Nat} {f : Option (Bool × Bool)} :
    Touches [.reports, .sticky] s (s.reportEnvelope l e n f) := touches_sendServing

theorem touches_reportEnvelope7 {e : EnvelopeEvent} {n : Option Nat} :
    Touches [.reports, .sticky] s (s.reportEnvelope7 l e n) := touches_send7

theorem touches_eject {n : Nat} : Touches [.outgoing, .journal, .sticky] s (s.eject n l) := touches_post

/-- A check changes at most what it says, and so do several. -/
theorem touches_checks {ps : List Part} {fs : List Step} (h : ∀ f ∈ fs, ∀ s, Touches ps s (f s).1) :
    Touches ps s (s.checks fs).1 := by
  induction fs generalizing s with
  | nil => exact .refl
  | cons f fs ih =>
    have hf := h f (by simp) s
    unfold State.checks
    split
    · next heq => rw [heq] at hf; exact hf
    · next heq =>
      rw [heq] at hf
      exact hf.trans (ih fun g hg => h g (by simp [hg]))

theorem touches_need {p : State → Bool} {c : Code} : Touches [] s (need p c s).1 := .refl

theorem touches_insertionChecks {n : Nat} :
    ∀ f ∈ insertionChecks l n, ∀ s, Touches (.depository :: announceParts) s (f s).1 := by
  intro f hf s
  simp only [insertionChecks, List.mem_cons, List.not_mem_nil, or_false] at hf
  rcases hf with rfl | rfl | rfl | rfl | rfl | rfl | rfl | rfl | rfl
  case inr.inr.inr.inl => exact touches_usePolicy.mono
  case inr.inr.inr.inr.inr.inr.inr.inl => exact touches_checkDepositorySetting.mono
  all_goals exact touches_need.mono

theorem touches_admitEnvelope {n : Nat} :
    Touches (.envelopes :: .captures :: .captured :: .reserved :: .outgoing :: logParts) s (s.admitEnvelope l n) := by
  have h : ∀ f : EnvelopeControl → Nat, Touches [.envelopes] s (s.mapEnvelope fun e => { e with counter := f e }) :=
    fun f => .of_framed fun p hp => by
      cases p with
      | envelopes => exact absurd (by decide) hp
      | _ => rfl
  unfold State.admitEnvelope
  exact (h _).mono.then touches_setCapture |>.then touches_reserve |>.then touches_post |>.then touches_record
    |>.then touches_reportEnvelope

theorem touches_envelopeInserted {n : Nat} :
    Touches (.depository :: .envelopes :: captureParts) s (s.envelopeInserted l n) := by
  have h : Touches (.depository :: announceParts) s (s.checks (insertionChecks l n)).1 :=
    touches_checks touches_insertionChecks
  unfold State.envelopeInserted
  split
  · next heq => rw [heq] at h; exact h.mono.then touches_admitEnvelope
  · next heq =>
    rw [heq] at h
    exact h.mono.then touches_eject |>.then touches_record |>.then touches_reportEnvelope

theorem touches_touchCapture : Touches [.captures] s (s.touchCapture l) := touches_mapCapture

theorem touches_voidCapture {r : VoidReason} {b : Bool} {fs : List Fact} : Touches captureParts s (s.voidCapture l r b fs) := by
  unfold State.voidCapture
  have h : Touches captureParts s (s.touchCapture l) := touches_touchCapture.mono
  dsimp only
  split
  · exact h
  · next c _ =>
    have h1 : Touches captureParts s (if r = .jammed then
        ((s.touchCapture l).outcome (c.entry .void l (s.touchCapture l).envelope.count r.number fs)).postHold l .envelope
        else (s.touchCapture l).outcome (c.entry .void l (s.touchCapture l).envelope.count r.number fs)) :=
      .ite (fun _ => h.then touches_outcome |>.then touches_postHold) fun _ => h.then touches_outcome
    exact (Touches.ite (fun _ => h1.then touches_eject) fun _ => h1).then touches_reportEnvelope |>.then touches_setCapture

theorem touches_withdrawCapture {n : Nat} : Touches captureParts s (s.withdrawCapture l n) := by
  unfold State.withdrawCapture
  split
  · exact .ite (fun _ => touches_voidCapture) fun _ => .refl
  · exact .refl

theorem touches_captureEnded {n : Nat} {r : Result} : Touches captureParts s (s.captureEnded l n r) := by
  unfold State.captureEnded
  split
  · exact .ite (fun _ => touches_voidCapture) fun _ => .refl
  · exact .refl

theorem touches_envelopeIsolated {n : Nat} : Touches captureParts s (s.envelopeIsolated n) :=
  touches_forEach (fun _ _ => .ite (fun _ => touches_mapCapture.mono.then touches_voidCapture) fun _ => .refl) _ _

theorem touches_envelopePrinted {n : Nat} : Touches (.captures :: logParts) s (s.envelopePrinted l n) := by
  unfold State.envelopePrinted
  exact .ite (fun _ => touches_mapCapture.mono.then touches_record) fun _ => touches_record.mono.then touches_reportEnvelope7

theorem touches_envelopeCaptured {n : Nat} : Touches (.envelopes :: captureParts) s (s.envelopeCaptured l n) := by
  unfold State.envelopeCaptured
  refine .ite (fun _ => ?_) fun _ => touches_record.mono.then touches_reportEnvelope7
  have h : Touches (.envelopes :: captureParts) s
      ((s.changeDepository fun e => { e with count := e.count + 1 }).touchCapture l) :=
    (touches_changeDepository touches_setEnvelopes).mono.then touches_touchCapture
  dsimp only
  split
  · exact h
  · exact h.then touches_outcome |>.then touches_reportEnvelope |>.then touches_setCapture

theorem touches_envelopeJammed {n : Nat} : Touches captureParts s (s.envelopeJammed l n) := by
  unfold State.envelopeJammed
  exact .ite (fun _ => touches_voidCapture) fun _ => touches_record.mono.then touches_postHold |>.then touches_reportEnvelope7

theorem touches_envelopeEjected {n : Option Nat} : Touches captureParts s (s.envelopeEjected l n) := by
  unfold State.envelopeEjected
  exact .ite (fun _ => touches_voidCapture) fun _ => touches_record.mono.then touches_reportEnvelope7

theorem touches_openSafe {e : Entry} : Touches (.safe :: logParts) s (s.openSafe e).1 := by
  unfold State.openSafe
  split
  · exact .refl
  · split
    · exact .refl
    · split
      · exact .refl
      · exact touches_setSafe.mono.then touches_record

theorem touches_closeSafe {c : Cause} : Touches (.safe :: logParts) s (s.closeSafe c) := by
  unfold State.closeSafe
  exact .ite (fun _ => touches_setSafe.mono.then touches_record |>.then touches_send7) fun _ => .refl

theorem touches_consultSafe {i : LoopId} : Touches (.safe :: logParts) s (s.consultSafe i).1 := by
  unfold State.consultSafe
  split
  · exact .refl
  · exact touches_setSafe.mono.then touches_record

theorem touches_emptied : Touches (.envelopes :: .safe :: logParts) s s.emptied :=
  touches_setEnvelopes.mono.then touches_record |>.then touches_send7 |>.then touches_setSafe

theorem touches_safeSecured {i : LoopId} : Touches (.envelopes :: .safe :: logParts) s (s.safeSecured i) := by
  unfold State.safeSecured
  split
  · exact .ite (fun _ => .ite (fun _ => touches_setSafe.mono.then touches_emptied) fun _ => touches_setSafe.mono) fun _ => .refl
  · exact .refl

theorem touches_pullCapture {n : Nat} : Touches [.outgoing] s (s.pullCapture l n).1 := by
  unfold State.pullCapture
  dsimp only
  exact touches_setOutgoing

theorem touches_envelopeLockdown : Touches (.safe :: captureParts) s s.envelopeLockdown := by
  have h : Touches (.safe :: captureParts) s (s.forEach (List.finRange 6) fun s l => match s.capture l with
      | none => s
      | some c =>
        let p := s.pullCapture l c.number
        if p.2 then p.1.withdrawCapture l c.number else s) := by
    refine (touches_forEach (ps := captureParts) (fun s l => ?_) _ _).mono
    split
    · exact .refl
    · exact .ite (fun _ => touches_pullCapture.mono.then touches_withdrawCapture) fun _ => .refl
  unfold State.envelopeLockdown
  dsimp only
  split
  · exact h.then touches_closeSafe
  · exact h

theorem touches_resetEnvelope : Touches (.safe :: captureParts) s s.resetEnvelope :=
  (touches_forEach (fun _ _ => touches_voidCapture) _ _).mono.then touches_closeSafe

end Envelope

end Sys2Proof.Machine
end

section
/-! SUPPORT. The parts the operations of the Tube Scheduler, the Alarm Supervisor, the Wall Bus Controller, the Order Screen and
Management touch. -/

namespace Sys2Proof.Machine

open Sys2Proof

-- One thread, so that the check's memory holds the stacks.
set_option Elab.async false

/-! ## The Tube Scheduler -/

section Tube

variable {s : State} {l : Lane}

theorem touches_reportCarrier {e : CarrierEvent} {c : Option Code} :
    Touches [.reports, .sticky] s (s.reportCarrier l e c) := touches_sendServing

theorem touches_notifyBack {b : Option Nat} : Touches [.records, .reports, .sticky] s (s.notifyBack b) := by
  unfold State.notifyBack
  split
  · exact touches_noticeBack
  · exact .refl

theorem touches_removeRequest {c : Code} :
    Touches (.requests :: .carriers :: .records :: logParts) s (s.removeRequest l c) := by
  unfold State.removeRequest
  split
  · exact .refl
  · exact (Touches.ite (fun _ => touches_dropRequest.mono.then touches_mapCarrier) fun _ => touches_dropRequest.mono).then
      touches_record |>.then touches_notifyBack |>.then touches_reportCarrier

theorem touches_checkTubeSetting : Touches [.tubeSetting, .journal, .sticky] s s.checkTubeSetting := by
  have h : ∀ x, Touches [.tubeSetting] s (s.mapTube fun t => { t with setting := x }) := fun x => .of_framed fun p hp => by
    cases p with
    | tubeSetting => exact absurd (by decide) hp
    | _ => rfl
  exact .ite (fun _ => .refl) fun _ => (h _).mono.then touches_tableFault

theorem touches_releaseBlower : Touches [.blower, .tubeSetting, .journal, .sticky] s (s.releaseBlower l) := by
  unfold State.releaseBlower
  exact .ite (fun _ => touches_checkTubeSetting.mono.then touches_setBlower) fun _ => .refl

theorem touches_grant {r : Request} :
    Touches (.requests :: .carriers :: .blower :: .outgoing :: announceParts) s (s.grant r) := by
  unfold State.grant
  exact touches_dropRequest.mono.then touches_mapCarrier |>.then touches_usePolicy |>.then touches_mapCarrier
    |>.then touches_setBlower |>.then touches_post |>.then touches_record |>.then touches_reportCarrier

theorem touches_arbitrateBlower :
    Touches (.requests :: .carriers :: .blower :: .outgoing :: announceParts) s s.arbitrateBlower := by
  unfold State.arbitrateBlower
  refine .ite (fun _ => ?_) fun _ => .refl
  split
  · exact touches_grant
  · exact .refl

theorem touches_setRequests {f : TubeScheduler → List Request} :
    Touches [.requests] s (s.mapTube fun t => { t with requests := f t }) := by
  refine .of_framed fun p hp => ?_
  cases p with
  | requests => exact absurd (by decide) hp
  | _ => rfl

theorem touches_joinRequest {d : Direction} {o : Origin} {b : Option Nat} :
    Touches (.requests :: .carriers :: .blower :: .outgoing :: .records :: announceParts) s (s.joinRequest l d o b) := by
  unfold State.joinRequest
  have h : Touches (.requests :: .carriers :: .blower :: .outgoing :: .records :: announceParts) s
      ((if b.isSome then (s.mapTube fun t =>
        { t with requests := t.requests ++ [{ lane := l, direction := d, origin := o, arrival := s.now }] }).mapCarrier l
          fun c => { c with bound := b } else s.mapTube fun t =>
        { t with requests := t.requests ++ [{ lane := l, direction := d, origin := o, arrival := s.now }] }).reportCarrier l
          .queued) :=
    (Touches.ite (fun _ => touches_setRequests.mono.then touches_mapCarrier) fun _ => touches_setRequests.mono).then
      touches_reportCarrier
  cases b
  · exact h.then touches_arbitrateBlower
  · exact h.then touches_noticeBound |>.then touches_arbitrateBlower

theorem touches_retireMove : Touches frameParts s (s.retireMove l) := touches_retire

theorem touches_arrive {e : TubeEnd} :
    Touches (.carriers :: .blower :: .tubeSetting :: .records :: logParts ++ frameParts) s (s.arrive l e) := by
  unfold State.arrive
  exact touches_retireMove.mono.then touches_mapCarrier |>.then touches_releaseBlower |>.then touches_record
    |>.then touches_reportCarrier |>.then touches_notifyBack

theorem touches_lateArrival {e : TubeEnd} {b : Bool} :
    Touches (.carriers :: .records :: logParts) s (s.lateArrival l e b) := by
  unfold State.lateArrival
  exact touches_mapCarrier.mono.then touches_record |>.then touches_reportCarrier |>.then touches_notifyBack

theorem touches_strayCarrier {e : TubeEnd} : Touches [.journal, .sticky] s (s.strayCarrier l e) := touches_record

/-- A movement told of or ended, before the arbiter decides. -/
abbrev arrivalParts : List Part :=
  .carriers :: .requests :: .blower :: .tubeSetting :: .records :: announceParts ++ frameParts

theorem touches_takeArrived {e : TubeEnd} : Touches arrivalParts s (s.takeArrived l e) := by
  unfold State.takeArrived
  exact (Touches.ite (fun _ => touches_arrive.mono) fun _ => .ite (fun _ => touches_lateArrival.mono) fun _ =>
    .ite (fun _ => touches_record.mono) fun _ => touches_strayCarrier.mono).then touches_arbitrateBlower

theorem touches_overdue {k : Lost} : Touches (.holds :: arrivalParts) s (s.overdue l k) := by
  unfold State.overdue
  have h : Touches (.holds :: arrivalParts) s ((s.retireMove l).mapCarrier l fun c =>
      { c with location := .unknown, cause := some k.cause, seated := false, timer := none }) :=
    touches_retireMove.mono.then touches_mapCarrier
  exact (Touches.ite (fun _ => h.then touches_post) fun _ => h).then touches_releaseBlower |>.then touches_postHold
    |>.then touches_record |>.then touches_reportCarrier |>.then touches_arbitrateBlower

theorem touches_moveRefused {c : Cause} {n : Nat} : Touches arrivalParts s (s.moveRefused l c n) := by
  unfold State.moveRefused
  dsimp only
  split
  · exact .refl
  · exact touches_mapCarrier.mono.then touches_setBlower |>.then touches_record |>.then touches_reportCarrier
      |>.then touches_notifyBack |>.then touches_arbitrateBlower

theorem touches_blowerMoveEnded {b : Bool} {r : Result} : Touches arrivalParts s (s.blowerMoveEnded l b r) := by
  unfold State.blowerMoveEnded
  split
  · exact .ite (fun _ => touches_moveRefused) fun _ => .refl
  · exact .refl

theorem touches_blowerMoveWithdrawn {b : Bool} : Touches arrivalParts s (s.blowerMoveWithdrawn l b) := by
  unfold State.blowerMoveWithdrawn
  exact .ite (fun _ => touches_moveRefused) fun _ => .refl

theorem touches_lift {e : TubeEnd} : Touches (.carriers :: .requests :: outcomeParts) s (s.lift l e) := by
  unfold State.lift
  have h : Touches (.carriers :: .requests :: outcomeParts) s (if (s.carrier l).seated ∨
      (if e = .lane then (s.carrier l).bound else none).isSome then (s.mapCarrier l fun c =>
        { c with seated := false, bound := if e = .lane then none else c.bound }).reportCarrier l .lifted else
      s.mapCarrier l fun c => { c with seated := false, bound := if e = .lane then none else c.bound }) :=
    .ite (fun _ => touches_mapCarrier.mono.then touches_reportCarrier) fun _ => touches_mapCarrier.mono
  dsimp only
  generalize (if e = TubeEnd.lane then (s.carrier l).bound else none) = d at h ⊢
  cases d
  · exact .ite (fun _ => h.then touches_removeRequest) fun _ => h
  · exact .ite (fun _ => h.then touches_noticeLifted |>.then touches_removeRequest) fun _ => h.then touches_noticeLifted

theorem touches_takeSeated {e : TubeEnd} : Touches arrivalParts s (s.takeSeated l e) := by
  unfold State.takeSeated
  exact (Touches.ite (fun _ => .ite (fun _ => .refl) fun _ => touches_mapCarrier.mono.then touches_reportCarrier) fun _ =>
    .ite (fun _ => touches_arrive.mono) fun _ => .ite (fun _ => touches_lateArrival.mono) fun _ =>
      touches_strayCarrier.mono).then touches_arbitrateBlower

theorem touches_takeLifted {e : TubeEnd} : Touches tubeParts s (s.takeLifted l e) := by
  unfold State.takeLifted
  exact (Touches.ite (fun _ => touches_lift.mono) fun _ => .ite (fun _ => touches_arrive.mono.then touches_lift) fun _ =>
    .ite (fun _ => touches_lateArrival.mono.then touches_lift) fun _ => touches_strayCarrier.mono).then touches_arbitrateBlower

theorem touches_takeSendPressed : Touches arrivalParts s (s.takeSendPressed l) := by
  unfold State.takeSendPressed
  split
  · exact touches_joinRequest.mono
  · exact touches_record.mono

theorem touches_tubeLockdown : Touches (.requests :: .carriers :: .records :: logParts) s s.tubeLockdown :=
  touches_forEach (fun _ _ => touches_removeRequest) _ _

theorem touches_isolateCarrier : Touches (.carriers :: holdParts ++ frameParts) s (s.isolateCarrier l) := by
  unfold State.isolateCarrier
  exact .ite (fun _ => touches_retireMove.mono.then touches_mapCarrier |>.then touches_postHold |>.then touches_record
    |>.then touches_reportCarrier) fun _ => .refl

theorem touches_blowerIsolated : Touches (.holds :: arrivalParts) s s.blowerIsolated := by
  unfold State.blowerIsolated
  exact (touches_forEach (fun _ _ => touches_isolateCarrier) _ _).mono.then touches_setBlower
    |>.then (touches_forEach (fun _ _ => touches_removeRequest) _ _)

theorem touches_resetCarrier : Touches (.carriers :: holdParts) s (s.resetCarrier l) := by
  unfold State.resetCarrier
  have h : Touches (.carriers :: holdParts) s (if (s.carrier l).moving ∨ (s.carrier l).bound.isSome then
      (s.mapCarrier l fun c => if c.moving then
        { c with bound := none, location := .unknown, cause := some .reset, seated := false, timer := none }
        else { c with bound := none }).reportCarrier l resetEvent
      else s.mapCarrier l fun c => if c.moving then
        { c with bound := none, location := .unknown, cause := some .reset, seated := false, timer := none }
        else { c with bound := none }) :=
    .ite (fun _ => touches_mapCarrier.mono.then touches_reportCarrier) fun _ => touches_mapCarrier.mono
  exact .ite (fun _ => h.then touches_postHold) fun _ => h

theorem touches_resetTube :
    Touches (.requests :: .carriers :: .blower :: .tubeSetting :: .outgoing :: holdParts) s s.resetTube := by
  unfold State.resetTube
  have h : Touches (.requests :: .carriers :: .blower :: .tubeSetting :: .outgoing :: holdParts) s
      ((s.mapTube fun t => { t with requests := [] }).forEach (List.finRange 6) State.resetCarrier) :=
    touches_setRequests.mono.then (touches_forEach (fun _ _ => touches_resetCarrier) _ _)
  dsimp only
  split
  · exact (Touches.ite (fun _ => h.then touches_post) fun _ => h).then touches_releaseBlower
  · exact h

end Tube

/-! ## The Alarm Supervisor -/

section Alarm

variable {s : State} {i : LoopId}

theorem touches_checkLoop : Touches [.loops, .journal, .sticky] s (s.checkLoop i) := by
  unfold State.checkLoop
  exact .ite (fun _ => .refl) fun _ => touches_mapLoop.mono.then touches_tableFault

theorem touches_reportLoop : Touches [.reports, .sticky] s (s.reportLoop i) := touches_send7
theorem touches_recordLoop {k : RecordKind} {fs : List Fact} : Touches [.journal, .sticky] s (s.recordLoop i k fs) :=
  touches_record
theorem touches_reportWall7 : Touches [.reports, .sticky] s s.reportWall7 := touches_send7
theorem touches_reportWallConsoles : Touches [.reports, .sticky] s s.reportWallConsoles := touches_sendSignedOn

theorem touches_setDuressLatch {b : Bool} : Touches [.latches] s (s.setDuressLatch b) := by
  refine .of_framed fun p hp => ?_
  cases p with
  | latches => exact absurd (by decide) hp
  | _ => rfl

theorem touches_setLockdownLatch {b : Bool} : Touches [.latches] s (s.setLockdownLatch b) := by
  refine .of_framed fun p hp => ?_
  cases p with
  | latches => exact absurd (by decide) hp
  | _ => rfl

theorem touches_raiseDuress : Touches (.latches :: logParts) s (s.raiseDuress i) := by
  unfold State.raiseDuress
  exact .ite (fun _ => .refl) fun _ => touches_setDuressLatch.mono.then touches_recordLoop |>.then touches_reportWall7

theorem touches_raiseLockdown {c : Cause} : Touches lockdownParts s (s.raiseLockdown c) := by
  unfold State.raiseLockdown
  exact .ite (fun _ => .refl) fun _ => touches_setLockdownLatch.mono.then touches_record |>.then touches_lockdownFlush
    |>.then touches_dispenseLockdown |>.then touches_depositLockdown |>.then touches_envelopeLockdown
    |>.then touches_tubeLockdown |>.then touches_reportWall7 |>.then touches_reportWallConsoles

theorem touches_suspendFor : Touches [.cassettes, .reports, .sticky] s (s.suspendFor i) :=
  touches_forEach (fun _ _ => touches_changeCassette) _ _

theorem touches_unsuspendFor : Touches [.cassettes, .reports, .sticky] s (s.unsuspendFor i) :=
  touches_forEach (fun _ _ => .ite (fun _ => touches_changeCassette) fun _ => .refl) _ _

theorem touches_appliedTo {g : BandGroup} : Touches (.safe :: logParts) s (s.appliedTo i g).1 := by
  unfold State.appliedTo
  dsimp only
  split
  · exact .refl
  · split
    · exact .refl
    · split
      · exact touches_consultSafe
      · exact .refl

theorem touches_respondTrip {r : Response} : Touches lockdownParts s (s.respondTrip i r) := by
  unfold State.respondTrip
  cases r
  · exact touches_raiseDuress.mono
  · exact touches_raiseLockdown
  · dsimp only
    split
    · exact touches_postHold.mono
    · exact .refl
  · exact touches_suspendFor.mono
  · exact .refl

theorem touches_tripLoop : Touches (.loops :: lockdownParts) s (s.tripLoop i) := by
  unfold State.tripLoop
  exact touches_mapLoop.mono.then touches_checkLoop |>.then touches_appliedTo |>.then touches_mapLoop
    |>.then (touches_forEach (fun _ _ => touches_respondTrip) _ _) |>.then touches_recordLoop |>.then touches_reportLoop

theorem touches_enterArming : Touches [.loops] s (s.enterArming i) := touches_mapLoop
theorem touches_disarm : Touches [.loops] s (s.disarm i) := touches_mapLoop

theorem touches_startQualify {g : BandGroup} : Touches [.loops, .journal, .sticky] s (s.startQualify i g) := by
  unfold State.startQualify
  exact touches_checkLoop.then touches_mapLoop

theorem touches_readArming {g : BandGroup} : Touches (.loops :: logParts) s (s.readArming i g) := by
  unfold State.readArming
  exact .ite (fun _ => touches_mapLoop.mono.then touches_recordLoop |>.then touches_reportLoop) fun _ => .refl

theorem touches_readQualifying {g : BandGroup} : Touches [.loops, .journal, .sticky] s (s.readQualifying i g) := by
  unfold State.readQualifying
  exact .ite (fun _ => touches_mapLoop.mono) fun _ => .ite (fun _ => .refl) fun _ => touches_startQualify

theorem touches_readLoop {n : Nat} : Touches (.loops :: .envelopes :: .safe :: logParts) s (s.readLoop i n) := by
  unfold State.readLoop
  dsimp only
  refine .ite (fun _ => ?_) fun _ => .refl
  split
  · exact touches_mapLoop.mono
  · exact touches_mapLoop.mono.then touches_readArming
  · exact .ite (fun _ => touches_mapLoop.mono) fun _ => touches_mapLoop.mono.then touches_startQualify
  · exact touches_mapLoop.mono.then touches_readQualifying
  · exact .ite (fun _ => touches_mapLoop.mono.then touches_safeSecured) fun _ => touches_mapLoop.mono

theorem touches_armExpired : Touches (.loops :: logParts) s (s.armExpired i) := by
  unfold State.armExpired
  exact touches_mapLoop.mono.then touches_recordLoop |>.then touches_reportLoop

theorem touches_endTrip : Touches [.loops, .cassettes, .reports, .sticky] s (s.endTrip i) :=
  touches_unsuspendFor.mono.then touches_mapLoop

theorem touches_acknowledge : Touches (.loops :: moneyParts) s (s.acknowledge i) :=
  touches_endTrip.mono.then touches_recordLoop |>.then touches_reportLoop |>.then touches_arbitrate

theorem touches_clearDuress : Touches (.latches :: logParts) s s.clearDuress.1 := by
  unfold State.clearDuress
  split
  · exact .refl
  · split
    · exact .refl
    · dsimp only
      exact touches_setDuressLatch.mono.then touches_record |>.then touches_reportWall7

theorem touches_clearLockdown {e : Entry} : Touches (.latches :: tubeParts ++ moneyParts) s (s.clearLockdown e).1 := by
  unfold State.clearLockdown
  split
  · exact .refl
  · split
    · exact .refl
    · dsimp only
      exact touches_setLockdownLatch.mono.then touches_record |>.then touches_lockdownLifted |>.then touches_arbitrateBlower
        |>.then touches_reportWall7 |>.then touches_reportWallConsoles

theorem touches_cassetteOut {c : CassetteId} : Touches lockdownParts s (s.cassetteOut c) := by
  unfold State.cassetteOut
  exact .ite (fun _ => touches_record.mono) fun _ => .ite (fun _ => touches_changeCassette.mono.then touches_record) fun _ =>
    touches_changeCassette.mono.then touches_record |>.then touches_raiseLockdown
      |>.then (touches_forEach (fun _ _ => touches_postHold) _ _)

theorem touches_resetLoop : Touches [.loops] s (s.resetLoop i) := by
  unfold State.resetLoop
  exact .ite (fun _ => .ite (fun _ => touches_enterArming) fun _ => touches_disarm) fun _ => .refl

theorem touches_resetAlarm : Touches [.loops] s s.resetAlarm := touches_forEach (fun _ _ => touches_resetLoop) _ _

end Alarm

/-! ## The Wall Bus Controller -/

section Bus

variable {s : State} {m : ModuleId}

theorem touches_reportPartState : Touches [.reports, .sticky] s s.reportPartState := touches_send7.then touches_sendSignedOn

theorem touches_enterPartState {x : PartState} : Touches (.partState :: logParts) s (s.enterPartState x) := by
  have h : Touches [.partState] s (s.mapMgmt fun m => { m with partState := x }) := .of_framed fun p hp => by
    cases p with
    | partState => exact absurd (by decide) hp
    | _ => rfl
  unfold State.enterPartState
  exact h.mono.then touches_record |>.then touches_reportPartState

theorem touches_failGo {c : Cause} {n : Nat} : Touches (.goPending :: logParts) s (s.failGo c n) := by
  unfold State.failGo
  exact touches_setGoPending.mono.then touches_record |>.then touches_send7

theorem touches_goEnded {b : Bool} {r : Result} : Touches (.partState :: .goPending :: moneyParts) s (s.goEnded b r) := by
  unfold State.goEnded
  refine .ite (fun _ => ?_) fun _ => .refl
  cases r
  · exact touches_setGoPending.mono.then touches_enterPartState |>.then touches_arbitrate
  all_goals exact touches_failGo.mono

/-- What the blocks change when they are told of a node's health. -/
abbrev healthParts : List Part := .condition :: captureParts ++ tubeParts ++ moneyParts

theorem touches_tellHealth : Touches healthParts s (s.tellHealth m) := by
  unfold State.tellHealth
  dsimp only
  split
  · exact (Touches.ite (fun _ => touches_recyclerIsolated.mono) fun _ => .refl).then touches_arbitrate
  · exact .ite (fun _ => touches_blowerIsolated.mono) fun _ => touches_arbitrateBlower.mono
  · have h : Touches healthParts s (match numbered 6 (s.module m).lane with
        | some l => s.evaluateNode l
        | none => s) := by
      split
      · exact touches_evaluateNode.mono
      · exact .refl
    exact .ite (fun _ => h.then touches_envelopeIsolated) fun _ => h

theorem touches_dropFrames {n : Nat} : Touches [.outgoing, .resend, .due] s (s.dropFrames n) := by
  refine .of_framed fun p hp => ?_
  cases p with
  | outgoing | resend | due => exact absurd (by decide) hp
  | _ => rfl

/-- An isolation, its frames gone. -/
abbrev isolateParts : List Part := .due :: isolationParts

theorem touches_isolate : Touches isolateParts s (s.isolate m) := by
  unfold State.isolate
  have h : Touches isolateParts s
      (((s.dropFrames (s.module m).node).changeModule m fun e => { e with health := .isolated }).tellHealth m) :=
    touches_dropFrames.mono.then touches_changeModule |>.then touches_tellHealth
  exact .ite (fun _ => h.then touches_failGo) fun _ => h

theorem touches_setHealth {x : Health} : Touches isolateParts s (s.setHealth m x) := by
  unfold State.setHealth
  exact .ite (fun _ => .refl) fun _ => .ite (fun _ => touches_isolate) fun _ =>
    touches_changeModule.mono.then touches_tellHealth

theorem touches_announceCrossing {n : Nat} : Touches (.modules :: .watch :: logParts) s (s.announceCrossing m n) := by
  unfold State.announceCrossing
  have h : Touches (.modules :: .watch :: logParts) s (((s.changeModule m fun e => e.setMark n).record
      { kind := .nodeHealth, facts := [.node (s.module m).node, .errors (s.module m).orderErrors (s.module m).replyErrors n] }).send7
      (.nodeHealth (s.module m).node (s.module m).orderErrors (s.module m).replyErrors n)) :=
    touches_changeModule.mono.then touches_record |>.then touches_send7
  exact .ite (fun _ => .refl) fun _ => .ite (fun _ => h.then touches_raiseNodeWatch) fun _ => h

theorem touches_updateHealth {r : Result} : Touches (.watch :: isolateParts) s (s.updateHealth m r) := by
  unfold State.updateHealth
  have h : Touches (.watch :: isolateParts) s ((s.changeModule m fun _ => (s.module m).count r).forEach [96, 128, 256] fun u n =>
      if crosses n (s.module m) ((s.module m).count r) then u.announceCrossing m n else u) :=
    touches_changeModule.mono.then (touches_forEach (ps := .modules :: .watch :: logParts) (fun _ _ =>
      .ite (fun _ => touches_announceCrossing) fun _ => .refl) _ _)
  exact (Touches.ite (fun _ => h.then touches_changeModule) fun _ => h).then touches_setHealth

theorem touches_checkModule : Touches (.watch :: isolateParts) s (s.checkModule m).1 := by
  unfold State.checkModule
  have h : Touches (.watch :: isolateParts) s
      ((s.mapModule m fun e => { e with check := e.check.read }).tableFault (.module (numberOf m))) :=
    touches_mapModule.mono.then touches_tableFault
  split
  · exact .refl
  · dsimp only
    split
    · exact h
    · split
      · exact h.then touches_dropFrames
      · exact h.then touches_announceCrossing |>.then touches_isolate

theorem touches_endRestore {r : Restore} {x : RestoreResult} : Touches (.restores :: logParts) s (s.endRestore r x) :=
  touches_setRestores.mono.then touches_record |>.then touches_send7

/-- A restore ended, with what it brings back. -/
abbrev restoreParts : List Part := .restores :: isolateParts

theorem touches_restored {r : Restore} : Touches restoreParts s (s.restored r) := by
  unfold State.restored
  dsimp only
  split
  · exact touches_changeModule.mono.then touches_tellHealth |>.then touches_endRestore
  · exact touches_endRestore.mono

theorem touches_placeProbe {n : Nat} : Touches [.outgoing, .journal, .sticky] s (s.placeProbe n).1 := touches_place

theorem touches_setRestore {r : Restore} : Touches [.restores] s (s.setRestore r) := touches_setRestores

theorem touches_probeEnded {k n : Nat} {b : Bool} : Touches restoreParts s (State.probeEnded k s n b) := by
  induction k generalizing s b with
  | zero => exact .refl
  | succ k ih =>
    unfold State.probeEnded
    split
    · exact .refl
    · dsimp only
      refine .ite (fun _ => .ite (fun _ => ?_) fun _ => ?_) fun _ => .ite (fun _ => ?_) fun _ => .ite (fun _ => ?_) fun _ => ?_
      · exact touches_setRestore.mono.then touches_endRestore
      · exact touches_setRestore.mono.then touches_restored
      · exact touches_setRestore.mono.then touches_endRestore
      · exact touches_setRestore.mono.then touches_placeProbe
      · exact touches_setRestore.mono.then touches_placeProbe |>.then ih

theorem touches_beginRestore {n : Nat} : Touches restoreParts s (s.beginRestore n) := by
  unfold State.beginRestore
  exact .ite (fun _ => touches_setRestores.mono.then touches_placeProbe) fun _ =>
    touches_setRestores.mono.then touches_placeProbe |>.then touches_probeEnded

/-- What a report of a module, or an exchange's end, may change. -/
abbrev busParts : List Part :=
  .loops :: .depository :: .envelopes :: .partState :: lockdownParts ++ restoreParts

theorem touches_strayReport {r : ModuleReport} : Touches [.journal, .sticky] s (s.strayReport m r) := touches_record

theorem touches_recyclerReport {r : ModuleReport} : Touches busParts s (s.recyclerReport m r) := by
  unfold State.recyclerReport
  split
  · exact touches_takePickReport.mono
  · exact touches_takeTaken.mono.then touches_arbitrate
  · exact touches_takeRetracted.mono.then touches_arbitrate
  · exact touches_cassetteOut.mono.then touches_arbitrate
  · exact touches_cassetteIn.mono
  · exact touches_noteValidated.mono
  · exact touches_noteRejected.mono
  · exact touches_noteStacked.mono.then touches_arbitrate
  · exact touches_noteReturned.mono.then touches_arbitrate
  · exact touches_acceptEnded.mono.then touches_arbitrate
  · exact touches_takeDepositJam.mono
  · exact touches_strayReport.mono

theorem touches_stationReport {l : Lane} {r : ModuleReport} : Touches busParts s (s.stationReport m l r) := by
  unfold State.stationReport
  split
  · exact touches_envelopeInserted.mono
  · exact touches_envelopePrinted.mono
  · exact touches_envelopeCaptured.mono
  · exact touches_envelopeJammed.mono
  · exact touches_envelopeEjected.mono
  · exact touches_takeSendPressed.mono
  · exact touches_takeArrived.mono
  · exact touches_takeSeated.mono
  · exact touches_takeLifted.mono
  · exact touches_strayReport.mono

theorem touches_blowerReport {r : ModuleReport} : Touches busParts s (s.blowerReport m r) := by
  unfold State.blowerReport
  split
  · exact touches_takeArrived.mono
  · exact touches_takeSeated.mono
  · exact touches_takeLifted.mono
  · exact touches_strayReport.mono

theorem touches_takeReport {r : ModuleReport} : Touches busParts s (s.takeReport m r) := by
  unfold State.takeReport
  split
  · exact touches_recyclerReport
  · exact touches_blowerReport
  · split
    · exact touches_stationReport
    · exact touches_strayReport.mono

theorem touches_takeCondition {c : Nat} : Touches [.condition] s (s.takeCondition m c) := by
  unfold State.takeCondition
  exact .ite (fun _ => .ite (fun _ => touches_setCondition) fun _ => .ite (fun _ => touches_setCondition) fun _ => .refl)
    fun _ => .refl

theorem touches_takePoll {n : Nat} {b : ReplyBody} : Touches busParts s (s.takePoll n b) := by
  unfold State.takePoll
  split
  · exact touches_takeCondition.mono.then (touches_forEach (fun _ _ => touches_takeReport) _ _)
  · exact .refl

theorem touches_deliver {f : Frame} {r : Result} {b : ReplyBody} : Touches busParts s (s.deliver f r b) := by
  unfold State.deliver
  split
  · exact touches_pickEnded.mono
  · exact touches_retractEnded.mono
  · exact touches_queryEnded.mono
  · exact touches_acceptBeginEnded.mono.then touches_arbitrate
  · exact touches_captureEnded.mono
  · exact touches_blowerMoveEnded.mono
  · exact touches_goEnded.mono
  · exact .refl
  · exact .ite (fun _ => touches_takePoll) fun _ => .refl
  · exact touches_probeEnded.mono

theorem touches_setOutstanding {x : Option Exchange} :
    Touches [.outstanding, .asked] s (s.mapBus fun k => { k with outstanding := x }) := by
  refine .of_framed fun p hp => ?_
  cases p with
  | outstanding | asked => exact absurd (by decide) hp
  | _ => rfl

theorem touches_setResend {x : Option Frame} : Touches [.resend, .due] s (s.mapBus fun k => { k with resend := x }) := by
  refine .of_framed fun p hp => ?_
  cases p with
  | resend | due => exact absurd (by decide) hp
  | _ => rfl

/-- The end of an exchange. -/
abbrev exchangeParts : List Part := .asked :: .watch :: busParts

theorem touches_endBusExchange {x : Exchange} {r : Result} {b : ReplyBody} :
    Touches exchangeParts s (s.endBusExchange x r b) := by
  unfold State.endBusExchange
  have h : Touches exchangeParts s (s.mapBus fun k => { k with outstanding := none }) := touches_setOutstanding.mono
  refine .ite (fun _ => h.then touches_deliver) fun _ => ?_
  split
  · exact h.then touches_deliver
  · exact .ite (fun _ => h.then touches_deliver) fun _ => .ite (fun _ => h.then touches_setResend |>.then touches_updateHealth)
      fun _ => h.then touches_updateHealth |>.then touches_deliver

theorem touches_checkBusSetting : Touches [.busSetting, .journal, .sticky] s s.checkBusSetting := by
  have h : ∀ x, Touches [.busSetting] s (s.mapBus fun b => { b with setting := x }) := fun x => .of_framed fun p hp => by
    cases p with
    | busSetting => exact absurd (by decide) hp
    | _ => rfl
  exact .ite (fun _ => .refl) fun _ => (h _).mono.then touches_tableFault

theorem touches_transmit {f : Frame} {b : Bool} :
    Touches [.busSetting, .outstanding, .asked, .line, .journal, .sticky] s (s.transmit f b) := by
  unfold State.transmit
  dsimp only
  generalize s.checkBusSetting.timer _ = w, s.checkBusSetting.busTiming = g
  have h : Touches [.outstanding, .asked, .line] s.checkBusSetting (s.checkBusSetting.mapBus fun k =>
      { k with
        outstanding := some { frame := f, isResend := b, window := w, timing := g }
        ringPos := if f.content = .poll then f.node else k.ringPos
        busTx := f.bytes }) := .of_framed fun p hp => by
    cases p with
    | outstanding | asked | line => exact absurd (by decide) hp
    | _ => rfl
  exact touches_checkBusSetting.mono.then h

theorem touches_withdraw {f : Frame} : Touches busParts s (s.withdraw f) := by
  unfold State.withdraw
  split
  · exact touches_pickWithdrawn.mono
  · exact touches_acceptWithdrawn.mono.then touches_arbitrate
  · exact touches_withdrawCapture.mono
  · exact touches_blowerMoveWithdrawn.mono
  · exact .refl

theorem touches_dropIsolated {f : Frame} : Touches busParts s (s.dropIsolated f) := by
  unfold State.dropIsolated
  split
  · exact touches_withdraw
  · exact touches_withdraw
  · exact .refl

/-- The choice and the beginning of an exchange. -/
abbrev beginParts : List Part := .busSetting :: .line :: exchangeParts

section Front

variable {remove : State → State} (hr : ∀ s, Touches [.outgoing, .resend, .due] s (remove s))
include hr

theorem touches_checkFront {f : Frame} {b : Bool} : Touches beginParts s (s.checkFront m f b remove) := by
  unfold State.checkFront
  dsimp only
  split
  · exact .ite (fun _ => (hr s).mono.then touches_withdraw) fun _ => (hr s).mono.then touches_transmit
  · exact (hr s).mono.then touches_transmit

theorem touches_tryFrame {f : Frame} {b : Bool} : Touches beginParts s (s.tryFrame f b remove) := by
  unfold State.tryFrame
  split
  · exact (hr s).mono
  · exact .ite (fun _ => touches_checkModule.mono.then (hr _) |>.then touches_dropIsolated) fun _ =>
      .ite (fun _ => touches_checkModule.mono) fun _ => touches_checkModule.mono.then (touches_checkFront hr)

end Front

theorem touches_beginExchange : Touches beginParts s s.beginExchange := by
  unfold State.beginExchange
  refine .ite (fun _ => .refl) fun _ => ?_
  split
  · exact touches_tryFrame fun _ => touches_setResend.mono
  · split
    · exact touches_tryFrame fun s => (touches_setOutgoing (s := s)).mono
    · split
      · exact touches_tryFrame fun _ => .refl
      · exact .refl

theorem touches_takeReply {r : BusReply} : Touches exchangeParts s (s.takeReply r) := by
  unfold State.takeReply
  split
  · exact .refl
  · exact .ite (fun _ => .refl) fun _ => touches_endBusExchange

theorem touches_windowExpired : Touches exchangeParts s s.windowExpired := by
  unfold State.windowExpired
  split
  · exact .refl
  · exact .ite (fun _ => touches_endBusExchange) fun _ => .refl

theorem touches_resetBus :
    Touches (.modules :: .outstanding :: .asked :: .outgoing :: .resend :: .due :: .restores :: holdParts) s s.resetBus := by
  have h : Touches [.outstanding, .asked, .outgoing, .resend, .due] s
      (s.mapBus fun b => { b with outstanding := none, outgoing := [], resend := none }) := .of_framed fun p hp => by
    cases p with
    | outstanding | asked | outgoing | resend | due => exact absurd (by decide) hp
    | _ => rfl
  have hm : ∀ (u : State) g, Touches [.modules] u (u.mapBus fun b => { b with modules := b.modules.map g }) :=
    fun u g => .of_framed fun p hp => by
      cases p with
      | modules => exact absurd (by decide) hp
      | _ => rfl
  exact h.mono.then (touches_forEach (fun _ _ => touches_endRestore) _ _) |>.then (hm _ _) |>.then touches_evaluateNodes

end Bus

end Sys2Proof.Machine
end

section
/-! SUPPORT. The parts the operations of the Order Screen and Management touch. -/

namespace Sys2Proof.Machine

open Sys2Proof

-- One thread, so that the check's memory holds the stacks.
set_option Elab.async false

/-! ## Checks and answers -/

section Checks

variable {s : State} {ps : List Part}

/-- What holds whether the checks refuse or let the effect follow. -/
theorem ifPass_state {Q : State → Prop} {fs : List Step} {act : State → Answer} (hf : Q (s.checks fs).1)
    (hp : s.checks fs = ((s.checks fs).1, none) → Q (act (s.checks fs).1).state) : Q (s.ifPass fs act).state := by
  unfold State.ifPass
  split
  · next heq => rw [heq] at hf; exact hf
  · next heq => rw [heq] at hp; exact hp rfl

theorem touches_ifPass {fs : List Step} {act : State → Answer} (hf : ∀ f ∈ fs, ∀ s, Touches ps s (f s).1)
    (ha : ∀ s, Touches ps s (act s).state) : Touches ps s (s.ifPass fs act).state :=
  ifPass_state (touches_checks hf) fun _ => (touches_checks hf).trans (ha _)

theorem touches_onLane {fs : List Step} {lane : Nat} {act : State → Lane → Answer}
    (hf : ∀ f ∈ fs, ∀ s, Touches ps s (f s).1) (ha : ∀ s l, Touches ps s (act s l).state) :
    Touches ps s (s.onLane fs lane act).state := by
  have h := touches_checks (s := s) hf
  unfold State.onLane
  split
  · next heq => rw [heq] at h; exact h
  · next heq =>
    rw [heq] at h
    split
    · exact h.trans (ha _ _)
    · exact h

/-- Checks that change nothing. -/
theorem touches_needs {fs : List Step} (h : ∀ f ∈ fs, ∃ p c, f = need p c) : ∀ f ∈ fs, ∀ s, Touches ps s (f s).1 := by
  intro f hf s
  obtain ⟨p, c, rfl⟩ := h f hf
  exact .refl

end Checks

/-! ## The Order Screen -/

section Screen

variable {s : State} {l : Lane} {c : Console}

theorem touches_breakPair : Touches (.pairSlots :: logParts) s (s.breakPair l) := by
  unfold State.breakPair
  split
  · exact .refl
  · exact touches_clearPair.mono.then touches_record |>.then touches_sendCopied

theorem touches_breakPairsOf : Touches (.pairSlots :: logParts) s (s.breakPairsOf c) :=
  touches_forEach (fun _ _ => .ite (fun _ => touches_breakPair) fun _ => .refl) _ _

theorem touches_breakNamed {n : Nat} : Touches (.pairSlots :: logParts) s (s.breakNamed n) := by
  unfold State.breakNamed
  split
  · exact touches_breakPair
  · exact .refl

theorem touches_mapRecords {f : DispenseRecord → DispenseRecord} (hf : ∀ r, ((f r).id, (f r).lane) = (r.id, r.lane)) :
    Touches [.records] s (s.mapDispense fun d => { d with records := d.records.map fun r => r.map f }) := by
  refine .of_framed fun p hp => ?_
  cases p
  case names =>
    funext j
    simp only [Part.view, State.mapDispense, Fin.getElem_fin, Vector.getElem_map, Option.map_map, Function.comp_def, hf]
  case records => exact absurd (by decide) hp
  all_goals rfl

theorem touches_mapSlots {f : Session → Session} :
    Touches [.slots] s (s.mapDeposit fun d => { d with slots := d.slots.map fun x => x.map f }) := by
  refine .of_framed fun p hp => ?_
  cases p
  case occupied =>
    funext j
    simp only [Part.view, State.session, State.mapDeposit, Fin.getElem_fin, Vector.getElem_map, Option.isSome_map]
  case slots => exact absurd (by decide) hp
  all_goals rfl

theorem touches_redirect : Touches [.records, .slots] s (s.redirect c) := by
  unfold State.redirect
  refine (touches_mapRecords fun r => ?_).mono.then touches_mapSlots
  split <;> rfl

/-- What a sign-off changes. -/
abbrev signOffParts : List Part := .consoles :: .records :: .slots :: .pairSlots :: logParts

theorem touches_forceSignOff : Touches signOffParts s (s.forceSignOff c) := by
  unfold State.forceSignOff
  dsimp only
  exact touches_setBinding.mono.then touches_redirect |>.then touches_breakPairsOf |>.then touches_record |>.then touches_sendCopied

theorem touches_setScreening {x : ScreeningSetting} : Touches [.screening] s (s.mapScreen fun k => { k with setting := x }) :=
  .of_framed fun p hp => by
    cases p with
    | screening => exact absurd (by decide) hp
    | _ => rfl

theorem touches_checkScreening : Touches [.screening, .journal, .sticky] s s.checkScreening := by
  have h : Touches [.screening] s
      (s.mapScreen fun k => { k with setting := { k.setting with check := k.setting.check.read } }) :=
    .of_framed fun p hp => by
      cases p with
      | screening => exact absurd (by decide) hp
      | _ => rfl
  exact .ite (fun _ => .refl) fun _ => h.mono.then touches_tableFault

/-- What the checks of an order's limits change. -/
abbrev limitParts : List Part := [.rateWindows, .screening, .authority, .journal, .sticky]

theorem touches_rateCheck : Touches limitParts s (rateCheck c s).1 := by
  unfold rateCheck
  exact touches_checkScreening.mono.then touches_mapRate

theorem touches_stepEntry : Touches (.authority :: signOffParts) s (stepEntry c s).1 := by
  unfold stepEntry
  split
  · exact .refl
  · dsimp only
    split
    · exact touches_checkAuthority.mono
    · split
      · exact touches_checkAuthority.mono
      · dsimp only
        exact touches_checkAuthority.mono.then touches_forceSignOff

theorem touches_stepLane {n : Nat} : Touches announceParts s (stepLane c n s).1 := by
  unfold stepLane
  split
  · exact .refl
  · exact touches_usePolicy

/-- What the screening steps of an order change. -/
abbrev screenParts : List Part := .authority :: .copies :: .laneRecs :: signOffParts

theorem touches_stepsWho {b : Bool} {right : Rights → Bool} :
    ∀ f ∈ stepsWho c b right, ∀ s, Touches screenParts s (f s).1 := by
  intro f hf s
  simp only [stepsWho, List.mem_cons, List.not_mem_nil, or_false] at hf
  rcases hf with rfl | rfl | rfl | rfl
  case inr.inr.inl => exact touches_stepEntry.mono
  all_goals exact touches_need.mono

theorem touches_consoleSteps {b : Bool} {right : Rights → Bool} {n : Nat} :
    ∀ f ∈ stepsWho c b right ++ [stepLane c n], ∀ s, Touches screenParts s (f s).1 := by
  intro f hf s
  rcases List.mem_append.1 hf with hf | hf
  · exact touches_stepsWho f hf s
  · obtain rfl := List.mem_singleton.1 hf
    exact touches_stepLane.mono

theorem touches_supervisorSteps {b : Bool} {n : Nat} {ps : List Part} :
    ∀ f ∈ [stepPart b, stepRange n], ∀ s, Touches ps s (f s).1 :=
  touches_needs fun f hf => by
    rcases List.mem_pair.1 hf with rfl | rfl
    · exact ⟨_, _, rfl⟩
    · exact ⟨_, _, rfl⟩

theorem touches_signOn {st : Station} {n : Nat} :
    Touches [.authority, .consoles, .journal, .sticky] s (s.signOn st n).state := by
  unfold State.signOn
  split
  · exact .refl
  · dsimp only
    split
    · exact .refl
    · split
      · exact .refl
      · split
        · exact .refl
        · have h : Touches [.authority, .consoles, .journal, .sticky] s (s.forEach (s.reached n) State.checkAuthority) :=
            (touches_forEach (fun _ _ => touches_checkAuthority) _ _).mono
          split
          · exact h
          · split
            · exact h
            · split
              · exact h
              · exact h.then touches_setBinding |>.then touches_record

theorem touches_signOff {st : Station} : Touches signOffParts s (s.signOff st).state := by
  unfold State.signOff
  split
  · exact .refl
  · split
    · exact .refl
    · split
      · exact .refl
      · dsimp only [answer]
        exact touches_breakPairsOf.mono.then touches_redirect |>.then touches_setBinding |>.then touches_record

theorem touches_pairExpired : Touches (.pairSlots :: logParts) s (s.pairExpired l) := by
  unfold State.pairExpired
  split
  · exact .ite (fun _ => touches_clearPair.mono.then touches_record |>.then touches_sendCopied) fun _ => .refl
  · exact .refl

theorem touches_managementPairExpired : Touches (.managementSlot :: logParts) s s.managementPairExpired := by
  unfold State.managementPairExpired
  split
  · exact .ite (fun _ => touches_setManagementSlot.mono.then touches_record |>.then touches_send) fun _ => .refl
  · exact .refl

theorem touches_resetScreen : Touches [.consoles, .pairSlots, .managementSlot] s s.resetScreen := by
  refine .of_grows (fun p hp => ?_) ⟨List.prefix_rfl, List.prefix_rfl, fun l _ => by
    simp [State.resetScreen, State.mapScreen]⟩
  cases p with
  | consoles | pairSlots | managementSlot => exact absurd (by decide) hp
  | _ => rfl

/-! ### Orders on a lane -/

/-- Once the half stored for the lane is broken, an order from a console or station 7 touches what its screening and its effect
do. -/
theorem touches_sharedLaneOrder {ps : List Part} {st : Station} {n : Nat} {b : Bool} {right : Rights → Bool}
    {act : State → Lane → Answer} (ha : ∀ s l, Touches ps s (act s l).state)
    (hs : covers ps screenParts = true := by decide) :
    Touches ps (s.breakNamed n) (s.sharedLaneOrder st n b right act).state := by
  unfold State.sharedLaneOrder
  cases st
  · exact touches_onLane (fun f hf s => (touches_consoleSteps f hf s).mono hs) ha
  · exact touches_onLane touches_supervisorSteps ha

/-- An order from a console alone likewise. -/
theorem touches_consoleLaneOrder {ps : List Part} {st : Station} {n : Nat} {b : Bool} {right : Rights → Bool}
    {act : State → Console → Lane → Answer} (ha : ∀ s c l, Touches ps s (act s c l).state)
    (hs : covers ps screenParts = true := by decide) :
    Touches ps (s.breakNamed n) (s.consoleLaneOrder st n b true right act).state := by
  unfold State.consoleLaneOrder
  rw [if_pos rfl]
  cases st
  · exact touches_onLane (fun f hf s => (touches_consoleSteps f hf s).mono hs) fun s l => ha s _ l
  · exact .refl

/-- What an order on a lane may change beside the half stored for it. -/
abbrev laneOrderParts : List Part := .inDoubtLanes :: .holds :: screenParts

/-- What an order on a lane's money may change. -/
abbrev moneyOrderParts : List Part := .consoles :: .pairSlots :: .rateWindows :: .screening :: moneyParts

theorem touches_cancelDispense {st : Station} {n id : Nat} : Touches moneyOrderParts (s.breakNamed n)
    (s.cancelDispense st n id).state := by
  unfold State.cancelDispense
  refine touches_sharedLaneOrder fun s l => ?_
  split
  · exact .refl
  · dsimp only
    split
    · exact .refl
    · split
      · exact .refl
      · dsimp only [answer]
        exact touches_dropWork.mono.then touches_endDispense |>.then touches_arbitrate

theorem touches_closeDepositOrder {st : Station} {n : Nat} : Touches moneyOrderParts (s.breakNamed n)
    (s.closeDepositOrder st n).state := by
  unfold State.closeDepositOrder
  refine touches_sharedLaneOrder fun s l => ?_
  split
  · exact .refl
  · split
    · exact .refl
    · split
      · dsimp only [answer]
        exact touches_closeDeposit.mono.then touches_arbitrate
      · exact .refl

/-- What an order of a carrier may change. -/
abbrev carrierOrderParts : List Part := .carriers :: .requests :: .blower :: .outgoing :: screenParts

theorem touches_checksSend :
    ∀ f ∈ [stepOpen l, stepSendable l, stepCondition] ++ checksSend l, ∀ s, Touches carrierOrderParts s (f s).1 :=
  touches_needs fun f hf => by
    simp only [checksSend, List.cons_append, List.nil_append, List.mem_cons, List.not_mem_nil, or_false] at hf
    rcases hf with rfl | rfl | rfl | rfl | rfl | rfl | rfl <;> exact ⟨_, _, rfl⟩

theorem touches_sendCarrier {h : Sender} {n : Nat} : Touches carrierOrderParts (s.breakNamed n)
    (s.sendCarrier h n).state := by
  unfold State.sendCarrier
  exact touches_consoleLaneOrder fun s c l => touches_ifPass touches_checksSend fun s => by
    dsimp only [answer]
    exact touches_joinRequest.mono

theorem touches_checksRecall : ∀ f ∈ checksRecall l, ∀ s, Touches carrierOrderParts s (f s).1 :=
  touches_needs fun f hf => by
    simp only [checksRecall, List.mem_cons, List.not_mem_nil, or_false] at hf
    rcases hf with rfl | rfl | rfl <;> exact ⟨_, _, rfl⟩

theorem touches_recallCarrier {st : Station} {n : Nat} : Touches carrierOrderParts (s.breakNamed n)
    (s.recallCarrier st n).state := by
  unfold State.recallCarrier
  exact touches_sharedLaneOrder fun s l => touches_ifPass touches_checksRecall fun s => by
    dsimp only [answer]
    exact touches_joinRequest.mono

theorem touches_checksOpenLane : ∀ f ∈ checksOpenLane l, ∀ s, Touches announceParts s (f s).1 := by
  intro f hf s
  simp only [checksOpenLane, List.mem_cons, List.not_mem_nil, or_false] at hf
  rcases hf with rfl | rfl | rfl
  · exact touches_need.mono
  · exact touches_usePolicy
  · exact touches_need.mono

/-- A lane's state set by an order keeps a transaction's lane taken. -/
theorem touches_setLaneState {x : LaneRecord → LaneState} {e : Entry} {b : LaneRecord}
    (hx : (s.laneRec l).txn.isSome → (s.laneRec l).state.taken → (x (s.laneRec l)).taken) :
    Touches announceParts s (((s.mapLane l fun r => { r with state := x r }).record e).announce l b) :=
  (touches_mapLane (ps := [.laneRecs]) framed_mapLane (hs := hx)).mono.then touches_record |>.then touches_announce

/-- A check of a condition passes where the condition holds. -/
theorem checks_need_pass {p : State → Bool} {e : Code} {fs : List Step} {t : State}
    (h : s.checks (need p e :: fs) = (t, none)) : p s = true ∧ s.checks fs = (t, none) := by
  rw [checks_need] at h
  split at h
  · exact ⟨‹_›, h⟩
  · cases h

/-- A CLOSED lane stays CLOSED when it is settled (R7). -/
theorem settle_closed {m : Lane} (h : (s.laneRec l).state = .closed) : ((s.settle m).laneRec l).state = .closed := by
  unfold State.settle
  rw [mapLane_laneRec]
  split
  · next hl => subst hl; simp only [settledState, if_pos h]
  · exact h

theorem announce_closed {m : Lane} {b : LaneRecord} (h : (s.laneRec l).state = .closed) :
    ((s.announce m b).laneRec l).state = .closed := by
  have hc : ∀ p, ((s.checkCopy p m).laneRec l).state = .closed := fun p => by
    rw [touches_checkCopy.framed.laneRec l]; exact h
  have hs : (((if (s.policy m).check.faulted then s else s.checkCopy (s.laneRec m).profile m).settle m).laneRec l).state =
      .closed := by
    split
    · exact settle_closed h
    · exact settle_closed (hc _)
  unfold State.announce
  dsimp only
  split
  · generalize (if (s.policy m).check.faulted then s else s.checkCopy (s.laneRec m).profile m).settle m = u at hs ⊢
    split
    · rw [touches_send7.framed.laneRec l]; exact hs
    · rw [touches_sendServing.framed.laneRec l]; exact hs
  · split
    · rw [touches_send7.framed.laneRec l]; exact h
    · exact h

theorem usePolicy_closed {m : Lane} (h : (s.laneRec l).state = .closed) :
    ((s.usePolicy m).laneRec l).state = .closed := by
  have hc : ((s.checkCopy (s.laneRec m).profile m).laneRec l).state = .closed := by
    rw [touches_checkCopy.framed.laneRec l]; exact h
  unfold State.usePolicy
  dsimp only
  split
  · exact announce_closed (settle_closed hc)
  · exact hc

/-- OPEN LANE acts on a CLOSED lane alone. -/
theorem checksOpenLane_closed {t : State} (h : s.checks (checksOpenLane l) = (t, none)) : (t.laneRec l).state = .closed := by
  obtain ⟨hc, h⟩ := checks_need_pass h
  have hu : ((s.usePolicy l).laneRec l).state = .closed := usePolicy_closed (by simpa using hc)
  have hf := (touches_checks (ps := []) (s := s.usePolicy l) (fs := [need (fun s => (s.stationEntry l).isSome) .nodeUnavailable])
    (touches_needs fun f hf => ⟨_, _, List.mem_singleton.1 hf⟩)).framed.laneRec l
  unfold State.checks at h
  split at h
  · cases h
  · next heq =>
    simp only [Prod.mk.injEq] at heq
    obtain ⟨rfl, -⟩ := heq
    rw [h] at hf
    exact (congrArg LaneRecord.state hf).trans hu

theorem touches_openLane {st : Station} {n : Nat} : Touches laneOrderParts (s.breakNamed n)
    (s.openLane st n).state := by
  unfold State.openLane
  refine touches_sharedLaneOrder fun s l => ?_
  have hc : Touches laneOrderParts s (s.checks (checksOpenLane l)).1 :=
    (touches_checks touches_checksOpenLane).mono
  refine ifPass_state hc fun hp => hc.trans ?_
  dsimp only [answer]
  exact (touches_setLaneState fun _ hs => absurd (checksOpenLane_closed hp) hs.ne_closed).mono

theorem touches_closeLane {st : Station} {n : Nat} : Touches laneOrderParts (s.breakNamed n)
    (s.closeLane st n).state := by
  unfold State.closeLane
  refine touches_sharedLaneOrder fun s l => ?_
  have hc : Touches laneOrderParts s (s.checks [need (fun s => (s.laneRec l).state != .closed) .wrongState,
      need (fun s => (s.laneRec l).txn.isNone) .laneBusy]).1 :=
    touches_checks (touches_needs fun f hf => by
      rcases List.mem_pair.1 hf with rfl | rfl <;> exact ⟨_, _, rfl⟩)
  refine ifPass_state hc fun hp => hc.trans ?_
  dsimp only [answer]
  obtain ⟨-, hp⟩ := checks_need_pass hp
  obtain ⟨ht, hp⟩ := checks_need_pass hp
  have hs := (Prod.mk.injEq ..).mp hp |>.1
  rw [← hs]
  exact (touches_setLaneState fun hn _ => absurd hn (by simpa using ht)).mono

theorem touches_releaseLane {st : Station} {n : Nat} : Touches laneOrderParts (s.breakNamed n)
    (s.releaseLane st n).state := by
  unfold State.releaseLane
  refine touches_sharedLaneOrder fun s l => touches_ifPass (touches_needs fun f hf => ?_) fun s => ?_
  · simp only [checksRelease, List.mem_cons, List.not_mem_nil, or_false] at hf
    rcases hf with rfl | rfl | rfl <;> exact ⟨_, _, rfl⟩
  · dsimp only [answer]
    have h : Touches laneOrderParts s ((s.checkCopy (s.laneRec l).profile l).mapLane l fun r =>
        { r with holds := { node := r.holds.node } }) :=
      touches_checkCopy.mono.then (touches_mapHolds (f := fun x => { node := x.node }))
    exact (Touches.ite (fun _ => h.then touches_leaveInDoubt) fun _ => h).then touches_record
      |>.then touches_settleAndAnnounce

end Screen

end Sys2Proof.Machine
end

section
/-! SUPPORT. The orders that open a transaction keep every dispense and session its lane's transaction. -/

namespace Sys2Proof.Machine

open Sys2Proof

-- One thread, so that the check's memory holds the stacks.
set_option Elab.async false

section Admission

variable {s : State} {l : Lane} {c : Console}

/-- A record taken for a lane without a transaction awaits its opening. -/
theorem State.matchedBut.takeDispense {i : DispenseSlot} {r : DispenseRecord} (h : s.matchedBut [])
    (ht : (s.laneRec r.lane).txn = none) :
    (s.setDispense i (some r)).matchedBut [r.lane] := by
  have hn : ∀ j, Part.view .names (s.setDispense i (some r)) j =
      if j = i then some (r.id, r.lane) else Part.view .names s j := fun j => by
    simp only [Part.view, setDispense_record]; split <;> rfl
  have hl : ∀ j id, Part.view .names s j ≠ some (id, r.lane) := fun j id hj => by
    have hd := h.dispense j id r.lane hj (by simp)
    rw [ht] at hd
    cases hd
  refine ⟨h.taken, fun j id m hj hm => ?_, fun m hm _ => h.deposit m hm (by simp), fun j k id id' m hj hk => ?_⟩
  · rw [hn] at hj
    split at hj
    · simp only [Option.some.injEq, Prod.mk.injEq] at hj
      exact absurd hj.2.symm (by simpa using hm)
    · exact h.dispense j id m hj (by simp)
  · rw [hn] at hj hk
    split at hj <;> split at hk
    · next hj' hk' => rw [hj', hk']
    · simp only [Option.some.injEq, Prod.mk.injEq] at hj
      obtain ⟨-, rfl⟩ := hj
      exact absurd hk (hl k id')
    · simp only [Option.some.injEq, Prod.mk.injEq] at hk
      obtain ⟨-, rfl⟩ := hk
      exact absurd hj (hl j id)
    · exact h.apart j k id id' m hj hk

/-- A slot taken for a lane likewise. -/
theorem State.matchedBut.takeSession {x : Session} (h : s.matchedBut []) : (s.setSession l (some x)).matchedBut [l] := by
  refine ⟨h.taken, fun i id m hi _ => h.dispense i id m hi (by simp), fun m hm hl => ?_, h.apart⟩
  have hml : m ≠ l := by simpa using hl
  have hs : Part.view .occupied s m = true := by simpa only [Part.view, setSession_session, if_neg hml] using hm
  exact h.deposit m hs (by simp)

/-- An IDLE lane has no transaction. -/
theorem State.matchedBut.idle_txn {ls : List Lane} (h : s.matchedBut ls) (hl : (s.laneRec l).state = .idle) :
    (s.laneRec l).txn = none := by
  by_contra hn
  have := h.taken l (Option.isSome_iff_ne_none.2 hn)
  rw [hl] at this
  rcases this with h | h <;> cases h

theorem touches_setLastId {n : Nat} : Touches [.lastId] s (s.mapDispense fun d => { d with lastId := n }) :=
  .of_framed fun p hp => by
    cases p with
    | lastId => exact absurd (by decide) hp
    | _ => rfl

/-- What an admission does before its transaction opens. -/
abbrev admitParts : List Part := [.lastId, .authority, .rateWindows, .reserved, .journal, .sticky]

/-- The transaction of a record just taken opens, whatever else was done meanwhile. -/
theorem State.matchedBut.openDispense {i : DispenseSlot} {r : DispenseRecord} {t : State} (h : s.matchedBut [])
    (hl : (s.laneRec r.lane).state = .idle) (hk : Touches admitParts (s.setDispense i (some r)) t) :
    (t.openTxn r.lane (.dispense r.id)).matchedBut [] := by
  have hone := h.takeDispense (i := i) (h.idle_txn hl)
  refine (hk.matched _ hone).openTxn ?_ (fun j id hj => ?_) fun ho => ?_
  · rw [hk.framed.laneRec r.lane]
    show (s.laneRec r.lane).state ≠ _
    rw [hl]; decide
  · rw [hk.framed .names (by decide)] at hj
    have hi : Part.view .names (s.setDispense i (some r)) i = some (r.id, r.lane) := by
      simp only [Part.view, setDispense_record, if_pos, Option.map_some]
    rw [hone.apart j i id r.id r.lane hj hi, hi] at hj
    simp only [Option.some.injEq, Prod.mk.injEq, and_true] at hj
    rw [hj]
  · rw [hk.framed .occupied (by decide)] at ho
    have hd := h.deposit r.lane ho (by simp)
    rw [h.idle_txn hl] at hd
    cases hd

theorem State.matchedBut.admitDispense {p : Payer} {n : Nat} {plan : List PlanItem} (h : s.matchedBut [])
    (hl : (s.laneRec l).state = .idle) : (s.admitDispense l p n plan).state.matchedBut [] := by
  have hlast : ∀ t : State, t.matchedBut [] → ∀ w, ((t.enqueueWork w).arbitrate).matchedBut [] := fun t ht w =>
    (touches_enqueueWork.mono.then touches_arbitrate : Touches moneyParts t _).matched _ ht
  unfold State.admitDispense
  split
  · exact h
  · exact hlast _ (h.openDispense (r := s.newDispense l p n plan) hl (touches_setLastId.mono.then touches_chargeShift
      |>.then touches_mapRate |>.then touches_reserve |>.then touches_record)) _

theorem State.matchedBut.admitSession {p : Payer} (h : s.matchedBut []) (hl : (s.laneRec l).state = .idle) :
    (s.admitSession l p).state.matchedBut [] := by
  unfold State.admitSession
  dsimp only
  have hlast : ∀ t : State, t.matchedBut [] → ∀ w e, (((t.enqueueWork w).record e).arbitrate).matchedBut [] := fun t ht w e =>
    (touches_enqueueWork.mono.then touches_record |>.then touches_arbitrate : Touches moneyParts t _).matched _ ht
  refine hlast _ ((touches_reserve.matched _ h.takeSession).openTxn ?_ (fun i id hi => ?_) fun _ => rfl) _ _
  · show (s.laneRec l).state ≠ _
    rw [hl]; decide
  · have hd := h.dispense i id l hi (by simp)
    rw [h.idle_txn hl] at hd
    cases hd

/-! ## The screening steps before an admission -/

/-- Steps 6 to 10 leave the state as it is, and pass on an IDLE lane alone. -/
theorem checks_stepsAdmission {fs : List Step} {t : State} (h : s.checks (stepsAdmission l ++ fs) = (t, none)) :
    (s.laneRec l).state = .idle ∧ s.checks fs = (t, none) := by
  obtain ⟨ho, h⟩ := checks_need_pass h
  obtain ⟨hh, h⟩ := checks_need_pass h
  obtain ⟨hb, h⟩ := checks_need_pass h
  obtain ⟨-, h⟩ := checks_need_pass h
  obtain ⟨-, h⟩ := checks_need_pass h
  refine ⟨?_, h⟩
  generalize (s.laneRec l).state = x at ho hh hb
  cases x <;> simp_all

theorem touches_stepsAdmission {ps : List Part} : ∀ f ∈ stepsAdmission l, ∀ s, Touches ps s (f s).1 :=
  touches_needs fun f hf => by
    simp only [stepsAdmission, List.mem_cons, List.not_mem_nil, or_false] at hf
    rcases hf with rfl | rfl | rfl | rfl | rfl <;> exact ⟨_, _, rfl⟩

/-- An effect that keeps the transactions on an IDLE lane keeps them behind the steps of an admission. -/
theorem State.matchedBut.admission {fs : List Step} {act : State → Answer} (h : s.matchedBut [])
    (hf : ∀ f ∈ fs, ∀ s, Touches limitParts s (f s).1)
    (ha : ∀ t, t.matchedBut [] → (t.laneRec l).state = .idle → (act t).state.matchedBut []) :
    (s.ifPass (stepsAdmission l ++ fs) act).state.matchedBut [] := by
  have hall : ∀ f ∈ stepsAdmission l ++ fs, ∀ s, Touches limitParts s (f s).1 := fun f hm =>
    (List.mem_append.1 hm).elim (touches_stepsAdmission f) (hf f)
  have hk := touches_checks (s := s) hall
  refine ifPass_state (Q := fun t => t.matchedBut []) (hk.matched _ h) fun hp => ha _ (hk.matched _ h) ?_
  rw [hk.framed.laneRec l]
  exact (checks_stepsAdmission hp).1

/-- An effect behind further checks, on a lane found IDLE. -/
theorem State.matchedBut.furtherChecks {fs : List Step} {act : State → Answer} (h : s.matchedBut [])
    (hl : (s.laneRec l).state = .idle) (hf : ∀ f ∈ fs, ∀ s, Touches limitParts s (f s).1)
    (ha : ∀ t, t.matchedBut [] → (t.laneRec l).state = .idle → (act t).state.matchedBut []) :
    (s.ifPass fs act).state.matchedBut [] := by
  have hk := touches_checks (s := s) hf
  refine ifPass_state (Q := fun t => t.matchedBut []) (hk.matched _ h) fun _ => ha _ (hk.matched _ h) ?_
  rw [hk.framed.laneRec l]
  exact hl

theorem State.matchedBut.onLane {fs : List Step} {n : Nat} {ps : List Part} {act : State → Lane → Answer}
    (h : s.matchedBut []) (hf : ∀ f ∈ fs, ∀ s, Touches ps s (f s).1)
    (ha : ∀ s l, s.matchedBut [] → (act s l).state.matchedBut []) : (s.onLane fs n act).state.matchedBut [] := by
  have hk := (touches_checks (s := s) hf).matched _ h
  unfold State.onLane
  split
  · next heq => rw [heq] at hk; exact hk
  · next heq =>
    rw [heq] at hk
    split
    · exact ha _ _ hk
    · exact hk

/-- An order from a console keeps what its effect keeps. -/
theorem State.matchedBut.consoleLaneOrder {st : Station} {n : Nat} {b k : Bool} {right : Rights → Bool}
    {act : State → Console → Lane → Answer} (h : s.matchedBut [])
    (ha : ∀ s c l, s.matchedBut [] → (act s c l).state.matchedBut []) :
    (s.consoleLaneOrder st n b k right act).state.matchedBut [] := by
  unfold State.consoleLaneOrder
  have hb : (if k then s.breakNamed n else s).matchedBut [] := by
    split
    · exact touches_breakNamed.matched _ h
    · exact h
  dsimp only
  generalize (if k then s.breakNamed n else s) = t at hb ⊢
  cases st with
  | supervisor => exact hb
  | console c =>
    exact hb.onLane touches_consoleSteps fun s l => ha s c l

/-! ## The orders -/

theorem touches_checksLimits {p : Payer} {n : Nat} : ∀ f ∈ checksLimits l p n, ∀ s, Touches limitParts s (f s).1 := by
  intro f hf s
  simp only [checksLimits, List.mem_cons, List.not_mem_nil, or_false] at hf
  rcases hf with rfl | rfl | rfl | rfl | rfl
  case inr.inr.inr.inr => exact touches_rateCheck
  all_goals exact touches_need.mono

theorem touches_checksRoom {ps : List Part} : ∀ f ∈ checksRoom, ∀ s, Touches ps s (f s).1 :=
  touches_needs fun f hf => by
    simp only [checksRoom, List.mem_cons, List.not_mem_nil, or_false] at hf
    rcases hf with rfl | rfl | rfl | rfl | rfl <;> exact ⟨_, _, rfl⟩

theorem touches_checksDeposit {ps : List Part} : ∀ f ∈ checksDeposit, ∀ s, Touches ps s (f s).1 :=
  touches_needs fun f hf => by
    simp only [checksDeposit, List.mem_cons, List.not_mem_nil, or_false] at hf
    rcases hf with rfl | rfl | rfl <;> exact ⟨_, _, rfl⟩

theorem touches_checkStored {p : PairHalf} : Touches limitParts s (checkStored p s).1 := by
  unfold checkStored
  exact touches_checkAuthority.mono

theorem State.matchedBut.planAndAdmit {p : Payer} {n : Nat} (h : s.matchedBut []) (hl : (s.laneRec l).state = .idle) :
    (s.planAndAdmit l p n).state.matchedBut [] := by
  have hk := (touches_readForPlan (s := s)).matched _ h
  have hr : (s.readForPlan.laneRec l).state = .idle := by
    rw [(touches_readForPlan (s := s)).framed.laneRec l]
    exact hl
  unfold State.planAndAdmit
  dsimp only
  generalize s.readForPlan = t at hk hr
  generalize mixOf _ _ _ = x
  cases x
  case plan items => exact hk.admitDispense hr
  all_goals exact hk

theorem State.matchedBut.dispenseSingle {k : Sender} {n a : Nat} (h : s.matchedBut []) :
    (s.dispenseSingle k n a).state.matchedBut [] := by
  unfold State.dispenseSingle
  refine h.consoleLaneOrder fun s c l h => ?_
  simp only [List.append_assoc]
  refine h.admission (fun f hf s => ?_) fun t ht hl => ht.planAndAdmit hl
  simp only [List.mem_append, List.mem_singleton] at hf
  rcases hf with rfl | hf | rfl | hf
  · exact touches_need.mono
  · exact touches_checksLimits f hf s
  · exact touches_need.mono
  · exact touches_checksRoom f hf s

theorem State.matchedBut.dispenseFirst {k : Sender} {n a : Nat} (h : s.matchedBut []) :
    (s.dispenseFirst k n a).state.matchedBut [] := by
  unfold State.dispenseFirst
  refine h.consoleLaneOrder fun s c l h => h.admission (fun f hf s => ?_) fun t ht _ => ?_
  · rcases List.mem_pair.1 hf with rfl | rfl <;> exact touches_need.mono
  · exact touches_record.matched _ ((touches_checkScreening.matched _ ht).framed framed_setPair)

theorem State.matchedBut.completePair {p : PairHalf} {n : Nat} (h : s.matchedBut []) (hl : (s.laneRec l).state = .idle) :
    (s.completePair c l p n).state.matchedBut [] := by
  unfold State.completePair
  have ha : ((s.setPair l none).ifPass checksRoom fun s => s.planAndAdmit l
      { station := p.station, credential := p.credential, index := p.index, tag := p.tag } n).state.matchedBut [] :=
    (touches_clearPair.matched _ h).furtherChecks (l := l)
      (by rw [(touches_clearPair (s := s)).framed.laneRec l]; exact hl) touches_checksRoom fun t ht hl => ht.planAndAdmit hl
  dsimp only
  split
  · exact (touches_record.mono.then touches_send : Touches logParts _ _).matched _ ha
  · exact touches_send.matched _ ha

theorem State.matchedBut.dispenseSecond {k : Sender} {n a : Nat} (h : s.matchedBut []) :
    (s.dispenseSecond k n a).state.matchedBut [] := by
  unfold State.dispenseSecond
  refine h.consoleLaneOrder fun s c l h => h.admission (fun f hf s => ?_) fun t ht hl => ?_
  · obtain rfl := List.mem_singleton.1 hf
    exact touches_need.mono
  · split
    · exact ht
    · refine ht.furtherChecks hl (fun f hf s => ?_) fun u hu hl => hu.completePair hl
      simp only [List.mem_append, List.mem_singleton] at hf
      rcases hf with (rfl | hf) | rfl
      · exact touches_checkStored
      · exact touches_checksLimits f hf s
      · exact touches_need.mono

theorem State.matchedBut.openDeposit {k : Sender} {n : Nat} (h : s.matchedBut []) :
    (s.openDeposit k n).state.matchedBut [] := by
  unfold State.openDeposit
  refine h.consoleLaneOrder fun s c l h => h.admission touches_checksDeposit fun t ht hl => ht.admitSession hl

end Admission

end Sys2Proof.Machine
end

section
/-! SUPPORT. The parts the operations of Management and the events touch. -/

namespace Sys2Proof.Machine

open Sys2Proof

-- One thread, so that the check's memory holds the stacks.
set_option Elab.async false

/-! ## Management -/

section Management

variable {s : State}

theorem touches_tableWrite {t : TableRef} {v : List Nat} {n : Nat} : Touches [.journal, .sticky] s (s.tableWrite t v n) :=
  touches_record

theorem touches_writeCopy {p : Profile} {l : Lane} {c : PolicyCopy} :
    Touches [.copies, .policies] s (s.mapLanes fun k => k.setCopy p l c) := by
  refine .of_framed fun q hq => ?_
  cases q with
  | copies | policies => exact absurd (by decide) hq
  | _ => cases p <;> rfl

theorem touches_writeLanePolicy {w : LanePolicyWrite} :
    Touches (.policies :: announceParts) s (s.writeLanePolicy w).state := by
  unfold State.writeLanePolicy
  split
  · exact .refl
  · split
    · dsimp only [answer]
      have h : ∀ p l c t v n, Touches (.policies :: announceParts) s
          ((s.mapLanes fun k => k.setCopy p l c).tableWrite t v n) := fun p l c t v n =>
        touches_writeCopy.mono.then touches_tableWrite
      exact .ite (fun _ => (h _ _ _ _ _ _).then touches_settleAndAnnounce) fun _ => h _ _ _ _ _ _
    · exact .refl

theorem touches_writeAuthority {w : AuthorityWrite} :
    Touches (.authority :: signOffParts) s (s.writeAuthority w).state := by
  unfold State.writeAuthority
  split
  · next i rights _ _ =>
    split
    · dsimp only [answer]
      have h : Touches (.authority :: signOffParts) s (s.mapAuthority i fun e =>
          { e with credential := w.credential, rights := rights, perDispense := w.perDispense, shiftLimit := w.shiftLimit }) :=
        touches_mapAuthority.mono
      exact (Touches.ite (fun _ => h) fun _ => h.then touches_resetShiftOf).then touches_mapAuthority
        |>.then touches_tableWrite
        |>.then (touches_forEach (ps := signOffParts) (fun _ _ => .ite (fun _ => touches_forceSignOff) fun _ => .refl) _ _)
    · exact .refl
  · exact .refl

theorem touches_writeDenomination {i v : Nat} :
    Touches [.denominations, .journal, .sticky] s (s.writeDenomination i v).state := by
  unfold State.writeDenomination
  split
  · exact .refl
  · next i _ =>
    have h : Touches [.denominations] s
        (s.mapCash fun k => { k with denominations := k.denominations.set i { value := v } }) :=
      .of_framed fun p hp => by
        cases p with
        | denominations => exact absurd (by decide) hp
        | _ => rfl
    split
    · exact .refl
    · split
      · exact .refl
      · split
        · exact .refl
        · exact h.mono.then touches_tableWrite

theorem touches_writeCassette {c : Nat} {r : Option Role} {m f : Nat} :
    Touches moneyParts s (s.writeCassette c r m f).state := by
  unfold State.writeCassette
  split
  · split
    · dsimp only [answer]
      exact touches_mapCassette.mono.then touches_tableWrite |>.then touches_arbitrate
    · exact .refl
  · exact .refl

theorem touches_restartLoop {i : LoopId} : Touches [.loops] s (s.restartLoop i) := by
  unfold State.restartLoop
  dsimp only
  split
  · exact touches_disarm.then touches_mapLoop
  · split
    · exact touches_enterArming
    · exact touches_disarm

theorem touches_writeLoop {w : LoopWrite} : Touches (.loops :: moneyParts) s (s.writeLoop w).state := by
  unfold State.writeLoop
  split
  · next i kind arm response _ _ _ _ =>
    dsimp only
    split
    · exact .refl
    · split
      · exact .refl
      · split
        · exact .refl
        · dsimp only [answer]
          have h : Touches (.loops :: moneyParts) s (if (s.loop i).tripped then s.endTrip i else s) :=
            .ite (fun _ => touches_endTrip.mono) fun _ => .refl
          exact h.then touches_mapLoop |>.then touches_restartLoop |>.then touches_tableWrite |>.then touches_arbitrate
  · exact .refl

theorem touches_checksModule {m : ModuleId} {n : Nat} {k : ModuleKind} {ps : List Part} :
    ∀ f ∈ checksModule m n k, ∀ s, Touches ps s (f s).1 :=
  touches_needs fun f hf => by
    simp only [checksModule, List.mem_cons, List.not_mem_nil, or_false] at hf
    rcases hf with rfl | rfl | rfl | rfl <;> exact ⟨_, _, rfl⟩

/-- What a write of a Module Table entry may change. -/
abbrev moduleWriteParts : List Part := .modules :: .restores :: .carriers :: .requests :: .blower :: moneyParts

theorem touches_writeModule {e n : Nat} {k : Option ModuleKind} {l : Nat} :
    Touches moduleWriteParts s (s.writeModule e n k l).state := by
  unfold State.writeModule
  split
  · split
    · exact .refl
    · refine touches_ifPass touches_checksModule fun s => ?_
      dsimp only [answer]
      exact touches_mapModule.mono.then (touches_forEach (fun _ _ => touches_endRestore) _ _) |>.then touches_tableWrite
        |>.then touches_evaluateNodes |>.then touches_arbitrateBlower |>.then touches_arbitrate
  · exact .refl

theorem touches_writeScreening {a b c : Nat} : Touches [.screening, .journal, .sticky] s (s.writeScreening a b c).state := by
  unfold State.writeScreening
  exact touches_setScreening.mono.then touches_tableWrite

theorem touches_writePlanner {n : Nat} : Touches [.planner, .journal, .sticky] s (s.writePlanner n).state := by
  have h : ∀ x, Touches [.planner] s (s.mapCash fun k => { k with planner := x }) := fun x =>
    .of_framed fun p hp => by
      cases p with
      | planner => exact absurd (by decide) hp
      | _ => rfl
  exact (h _).mono.then touches_tableWrite

theorem touches_writePresenter {n : Nat} : Touches [.presenter, .journal, .sticky] s (s.writePresenter n).state := by
  have h : ∀ x, Touches [.presenter] s (s.mapDispense fun k => { k with setting := x }) := fun x =>
    .of_framed fun p hp => by
      cases p with
      | presenter => exact absurd (by decide) hp
      | _ => rfl
  exact (h _).mono.then touches_tableWrite

theorem touches_writeDeposit {n : Nat} : Touches [.depositSetting, .journal, .sticky] s (s.writeDeposit n).state := by
  have h : ∀ x, Touches [.depositSetting] s (s.mapDeposit fun k => { k with setting := x }) := fun x =>
    .of_framed fun p hp => by
      cases p with
      | depositSetting => exact absurd (by decide) hp
      | _ => rfl
  exact (h _).mono.then touches_tableWrite

theorem touches_writeDepository {n : Nat} :
    Touches (.depository :: logParts) s (s.writeDepository n).state := by
  have h : ∀ x, Touches [.depository] s (s.mapEnvelope fun e => { e with setting := x }) := fun x =>
    .of_framed fun p hp => by
      cases p with
      | depository => exact absurd (by decide) hp
      | _ => rfl
  unfold State.writeDepository
  dsimp only [answer]
  exact (touches_changeDepository (h _)).mono.then touches_tableWrite

theorem touches_writeTube {n : Nat} : Touches [.tubeSetting, .journal, .sticky] s (s.writeTube n).state := by
  have h : ∀ x, Touches [.tubeSetting] s (s.mapTube fun k => { k with setting := x }) := fun x =>
    .of_framed fun p hp => by
      cases p with
      | tubeSetting => exact absurd (by decide) hp
      | _ => rfl
  exact (h _).mono.then touches_tableWrite

theorem touches_writeBus {w : BusWrite} : Touches [.busSetting, .journal, .sticky] s (s.writeBus w).state := by
  have h : ∀ x, Touches [.busSetting] s (s.mapBus fun k => { k with setting := x }) := fun x =>
    .of_framed fun p hp => by
      cases p with
      | busSetting => exact absurd (by decide) hp
      | _ => rfl
  exact (h _).mono.then touches_tableWrite

/-- What the checked reads of the tables may change. -/
abbrev readParts : List Part :=
  .copies :: .authority :: .denominations :: .loops :: .screening :: .planner :: .presenter :: .depositSetting :: .depository ::
    .tubeSetting :: .busSetting :: .watch :: isolateParts

theorem touches_readEntry {t : Option TableRef} : Touches readParts s (s.readEntry t).state := by
  unfold State.readEntry
  split
  · exact .refl
  · split
    · exact touches_checkCopy.mono
    · exact .refl
  · split
    · exact touches_checkAuthority.mono
    · exact .refl
  · split
    · exact touches_checkDenomination.mono
    · exact .refl
  · split
    · exact touches_checkCassette.mono
    · exact .refl
  · split
    · exact touches_checkLoop.mono
    · exact .refl
  · split
    · exact touches_checkModule.mono
    · exact .refl
  · exact touches_checkScreening.mono
  · exact touches_checkPlanner.mono
  · exact touches_checkPresenter.mono
  · exact touches_checkDepositSetting.mono
  · exact touches_checkDepositorySetting.mono
  · exact touches_checkTubeSetting.mono
  · exact touches_checkBusSetting.mono

theorem touches_readEveryEntry : Touches readParts s s.readEveryEntry := by
  unfold State.readEveryEntry
  dsimp only
  have hc : ∀ (s : State) (l : Lane), Touches [.copies, .journal, .sticky] s ((s.checkCopy .day l).checkCopy .night l) :=
    fun _ _ => touches_checkCopy.then touches_checkCopy
  exact (touches_forEach hc _ _).mono.then (touches_forEach (fun _ _ => touches_checkAuthority) _ _)
    |>.then (touches_forEach (fun _ _ => touches_checkDenomination) _ _)
    |>.then (touches_forEach (fun _ _ => touches_checkCassette) _ _)
    |>.then (touches_forEach (fun _ _ => touches_checkLoop) _ _)
    |>.then (touches_forEach (fun _ _ => touches_checkModule) _ _)
    |>.then touches_checkScreening |>.then touches_checkPlanner |>.then touches_checkPresenter
    |>.then touches_checkDepositSetting |>.then touches_checkDepositorySetting |>.then touches_checkTubeSetting
    |>.then touches_checkBusSetting

theorem touches_selectWrite {p : Option Profile} : Touches [.writeSelect] s (s.selectWrite p).state := by
  unfold State.selectWrite
  split
  · exact .refl
  · refine .of_framed fun p hp => ?_
    cases p with
    | writeSelect => exact absurd (by decide) hp
    | _ => rfl

theorem touches_selectOperate {p : Option Profile} :
    Touches (.operateSelect :: .profiles :: announceParts) s (s.selectOperate p).state := by
  unfold State.selectOperate
  split
  · exact .refl
  · next p =>
    have h : Touches [.operateSelect] s (s.mapLanes fun k => { k with operateSelect := p }) :=
      .of_framed fun p hp => by
        cases p with
        | operateSelect => exact absurd (by decide) hp
        | _ => rfl
    dsimp only [answer]
    exact h.mono.then (touches_forEach (fun _ _ => touches_operateLane) _ _)

theorem touches_sendBinCount {c : CassetteId} : Touches [.outgoing, .journal, .sticky] s (s.sendBinCount c) := by
  unfold State.sendBinCount
  exact .ite (fun _ => .refl) fun _ => touches_post

theorem touches_loadCassette {c n : Nat} {d : Option Nat} : Touches moneyParts s (s.loadCassette c d n).state := by
  have h : ∀ (s : State) c d, Touches moneyParts s ((s.load c d n).arbitrate) := fun s c d => by
    unfold State.load
    exact touches_mapCassette.mono.then touches_sendBinCount |>.then touches_record |>.then touches_arbitrate
  unfold State.loadCassette
  split
  · exact .refl
  · split
    · exact .refl
    · dsimp only
      split
      · dsimp only [answer]
        exact touches_checkCassette.mono.then (h _ _ _)
      · exact touches_checkCassette.mono

theorem touches_reconcileCassette {c n : Nat} : Touches moneyParts s (s.reconcileCassette c n).state := by
  have h : ∀ (s : State) c, Touches moneyParts s ((s.reconcileCount c n).arbitrate) := fun s c => by
    unfold State.reconcileCount
    exact touches_mapCassette.mono.then touches_sendBinCount |>.then touches_record |>.then touches_arbitrate
  unfold State.reconcileCassette
  split
  · exact .refl
  · dsimp only
    split
    · dsimp only [answer]
      exact touches_checkCassette.mono.then (h _ _)
    · exact touches_checkCassette.mono

theorem touches_storeHalf {op : MgmtOp} {n : Nat} :
    Touches (.managementSlot :: .screening :: logParts) s (s.storeHalf op n).state := by
  have h : Touches (.managementSlot :: .screening :: logParts) s (match s.screen.managementSlot with
      | none => s
      | some old => (s.record { kind := .pairBroken, station := 7, facts := [.tag old.tag] }).send .supervisor old.tag
          .brokenPair) := by
    split
    · exact .refl
    · exact touches_record.mono.then touches_send
  unfold State.storeHalf
  exact h.then touches_checkScreening |>.then touches_setManagementSlot |>.then touches_record

theorem touches_exchangeFirst {c n : Nat} :
    Touches (.managementSlot :: .screening :: logParts) s (s.exchangeFirst c n).state := by
  unfold State.exchangeFirst
  split
  · exact touches_storeHalf
  · exact .refl

theorem touches_checksArm {i : LoopId} {p : State → Bool} :
    ∀ f ∈ checksArm i ++ [need p .wrongState], ∀ s, Touches (.loops :: logParts) s (f s).1 := by
  intro f hf s
  simp only [checksArm, List.cons_append, List.nil_append, List.mem_cons, List.not_mem_nil, or_false] at hf
  rcases hf with rfl | rfl | rfl | rfl
  case inr.inl => exact touches_checkLoop.mono
  all_goals exact touches_need.mono

theorem touches_armLoop {n : Nat} : Touches (.loops :: logParts) s (s.armLoop n).state := by
  unfold State.armLoop
  split
  · exact .refl
  · exact touches_ifPass touches_checksArm fun s => touches_enterArming.mono

theorem touches_disarmLoop {n : Nat} : Touches (.loops :: logParts) s (s.disarmLoop n).state := by
  unfold State.disarmLoop
  split
  · exact .refl
  · refine touches_ifPass touches_checksArm fun s => ?_
    dsimp only [answer]
    exact touches_disarm.mono.then touches_recordLoop |>.then touches_reportLoop

theorem touches_ackLoop {n : Nat} : Touches (.loops :: moneyParts) s (s.ackLoop n).state := by
  unfold State.ackLoop
  split
  · exact .refl
  · split
    · dsimp only [answer]
      exact touches_acknowledge
    · exact .refl

theorem touches_restoreNode {n : Nat} : Touches restoreParts s (s.restoreNode n).state := by
  unfold State.restoreNode
  split
  · exact .refl
  · split
    · exact .refl
    · split
      · exact .refl
      · split
        · exact .refl
        · dsimp only [answer]
          exact touches_beginRestore

theorem touches_resumeRecycler : Touches moneyParts s s.resumeRecycler.state := by
  unfold State.resumeRecycler
  split
  · exact .refl
  · split
    · exact .refl
    · split
      · exact .refl
      · dsimp only [answer]
        exact touches_setRecycler.mono.then touches_record |>.then touches_send7 |>.then touches_arbitrate

theorem touches_clearTube {n : Nat} : Touches (.holds :: arrivalParts) s (s.clearTube n).state := by
  unfold State.clearTube
  split
  · exact .refl
  · split
    · dsimp only [answer]
      exact touches_overdue
    · exact .refl

theorem touches_resetShift {t : ShiftTarget} : Touches [.authority, .journal, .sticky] s (s.resetShift t).state := by
  unfold State.resetShift
  split
  · exact .refl
  · dsimp only [answer]
    refine touches_forEach (fun s i => ?_) _ _
    unfold State.resetShiftIfOk
    refine .ite (fun _ => .refl) fun _ => ?_
    exact .ite (fun _ => touches_checkAuthority) fun _ => touches_checkAuthority.then touches_resetShiftOf
  · split
    · exact .refl
    · dsimp only
      split
      · exact touches_checkAuthority
      · dsimp only [answer]
        exact touches_checkAuthority.then touches_resetShiftOf

theorem touches_readStatus {b : Bool} :
    Touches (.denominations :: .watch :: cassetteParts) s (s.readStatus b).state := by
  have h : Touches (.denominations :: .watch :: cassetteParts) s s.readForStatus :=
    (touches_forEach (fun _ _ => touches_checkCassette) _ _).mono.then
      (touches_forEach (fun _ _ => touches_checkValueOf) _ _)
  unfold State.readStatus
  exact .ite (fun _ => h.then touches_clearSticky) fun _ => h

theorem framed_drainJournal {n : Nat} : Framed [.journal] s (s.drainJournal n).state := by
  have h : ∀ j : Journal, (j.drained n).reserved = j.reserved := fun j => by
    unfold Journal.drained
    split
    · rfl
    · split <;> rfl
  unfold State.drainJournal
  dsimp only
  exact framed_mapJournal h

theorem touches_checksGo {ps : List Part} : ∀ f ∈ checksGo, ∀ s, Touches ps s (f s).1 :=
  touches_needs fun f hf => by
    simp only [checksGo, List.mem_cons, List.not_mem_nil, or_false] at hf
    rcases hf with rfl | rfl | rfl | rfl | rfl <;> exact ⟨_, _, rfl⟩

/-- What GO SERVICE may change. -/
abbrev serviceParts : List Part := .partState :: readParts

theorem touches_goService : Touches serviceParts s s.goService.state := by
  unfold State.goService
  split
  · exact .refl
  · refine touches_readEveryEntry.mono.trans (t := s.readEveryEntry) (touches_ifPass touches_checksGo fun s => ?_)
    dsimp only [answer]
    have h : ∀ e w o, Touches serviceParts s ((s.mapMgmt fun m => { m with goPending := true }).placeFor e w o).1 :=
      fun e w o => touches_setGoPending.mono.then touches_placeFor
    exact .ite (fun _ => h _ _ _) fun _ => (h _ _ _).then touches_goEnded

theorem touches_suspend : Touches (.partState :: .goPending :: logParts ++ frameParts) s s.suspend.state := by
  have h : Touches (.partState :: .goPending :: logParts ++ frameParts) s
      ((s.mapMgmt fun m => { m with goPending := false }).retireIf Content.isDenominations) :=
    touches_setGoPending.mono.then touches_retireIf
  unfold State.suspend
  exact .ite (fun _ => h) fun _ => h.then touches_enterPartState

/-! ### CONFIRM -/

/-- What a confirmed operation may change. -/
abbrev confirmParts : List Part := .managementSlot :: .consoles :: .pairSlots :: lockdownParts

theorem touches_carryOut {op : MgmtOp} {e : Entry} : Touches lockdownParts s (s.carryOut op e).1 := by
  cases op
  · exact touches_openExchange.mono
  · exact touches_openSafe.mono
  · exact touches_clearLockdown.mono

theorem touches_confirmSteps {c : Console} {right : Rights → Bool} {p : State → Bool} :
    ∀ f ∈ stepsWho c false right ++ [need p .pairMismatch], ∀ s, Touches confirmParts s (f s).1 := by
  intro f hf s
  rcases List.mem_append.1 hf with hf | hf
  · exact (touches_stepsWho f hf s).mono
  · obtain rfl := List.mem_singleton.1 hf
    exact touches_need.mono

theorem touches_confirm {st : Station} {right : Rights → Bool} {op : Option MgmtOp} :
    Touches confirmParts s (s.confirm st right op).state := by
  unfold State.confirm
  split
  · exact .refl
  · refine touches_ifPass touches_confirmSteps fun s => ?_
    split
    · exact .refl
    · dsimp only [answer]
      exact touches_setManagementSlot.mono.then touches_record |>.then touches_carryOut |>.then touches_send

/-! ### The soft reset -/

/-- What a soft reset may change: everything but the latches, the commands waiting and the time. -/
abbrev resetParts : List Part :=
  .reports :: .watch :: .rx :: .partState :: .goPending :: .consoles :: .pairSlots :: .managementSlot :: .loops :: .modules ::
    .restores :: .asked :: .due :: .exchange :: .safe :: .captures :: .captured :: tubeParts ++ moneyParts

/-- The Console Link's part of a soft reset empties the Report Queue (R182). -/
theorem framed_clearLink :
    Framed [.reports, .rx] s (s.mapLink fun k => { k with reports := [], rxBuffer := [], rxPartial := [] }) := by
  intro p hp
  cases p with
  | reports | rx => exact absurd (by decide) hp
  | _ => rfl

/-- What follows it only adds to the queue. -/
theorem touches_softReset : Touches resetParts
    (s.mapLink fun k => { k with reports := [], rxBuffer := [], rxPartial := [] }) s.softReset := by
  have hm : ∀ s : State, Touches [.partState, .sticky, .watch, .low, .goPending] s
      (s.mapMgmt fun m => { m with partState := .suspended, sticky := {}, goPending := false }) := fun s =>
    .of_framed fun p hp => by
      cases p with
      | partState | sticky | watch | low | goPending => exact absurd (by decide) hp
      | _ => rfl
  have h0 : Touches resetParts (s.mapLink fun k => { k with reports := [], rxBuffer := [], rxPartial := [] })
      (((s.mapLink fun k => { k with reports := [], rxBuffer := [], rxPartial := [] }).record { kind := .reset }).mapMgmt
        fun m => { m with partState := .suspended, sticky := {}, goPending := false }) :=
    touches_record.mono.then (hm _)
  unfold State.softReset
  exact h0.then touches_resetBus |>.then touches_resetScreen |>.then touches_resetDispenses |>.then touches_resetSessions
    |>.then touches_resetCash |>.then touches_resetEnvelope |>.then touches_resetTube |>.then touches_resetAlarm
    |>.then (touches_forEach (fun _ _ => touches_settleAndAnnounce) _ _)

theorem framed_softReset : Framed resetParts s s.softReset := framed_clearLink.mono.then touches_softReset.framed

theorem State.matchedBut.softReset {ls : List Lane} (h : s.matchedBut ls) : s.softReset.matchedBut ls :=
  touches_softReset.matched _ (h.framed framed_clearLink)

theorem State.matchedBut.restart {h : Sender} {ls : List Lane} (hs : s.matchedBut ls) : (s.restart h).matchedBut ls := by
  unfold State.restart
  split
  · have ht := (touches_takeFrame (h := h) (k := .restart) (form := OrderKind.restart.fits)).matched _ hs
    dsimp only
    split
    · exact touches_send7.matched _ (touches_respond.matched _ ht.softReset)
    · exact touches_respond.matched _ ht
  · exact hs

/-! ### Orders taken -/

/-- An order that finds a place touches what its effect does, the frame and the response. -/
theorem touches_takeOrder {ps : List Part} {h : Sender} {k : OrderKind} {act : State → Answer} {form : List Byte → Bool}
    (ha : ∀ s, Touches ps s (act s).state) : Touches (.rx :: .held :: .reports :: ps) s (s.takeOrder h k act form) := by
  unfold State.takeOrder
  refine .ite (fun _ => ?_) fun _ => .refl
  have hs : covers (.rx :: .held :: .reports :: ps) ps = true := by
    simp +contextual [covers, List.all_eq_true]
  exact ((touches_takeFrame.mono (by rfl)).trans ((ha _).mono hs)).trans (touches_respond.mono (by rfl))

theorem touches_takeMgmt {ps : List Part} {h : Sender} {k : OrderKind} {act : State → Answer}
    (ha : ∀ s, Touches ps s (act s).state) : Touches (.rx :: .held :: .reports :: ps) s (s.takeMgmt h k act) := by
  refine touches_takeOrder fun s => ?_
  split
  · exact ha s
  · exact .refl

end Management

end Sys2Proof.Machine
end

section
/-! PROOFS. Every dispense and session is its lane's one open transaction: what the events touch, and the invariant of O7. -/

namespace Sys2Proof.Machine

open Sys2Proof

-- One thread, so that the check's memory holds the stacks.
set_option Elab.async false

/-! ## The events that are no orders -/

section Events

variable {s : State}

theorem touches_receiveByte {b : Byte} : Touches [.rx, .sticky] s (s.receiveByte b) := by
  have hp : ∀ x, Touches [.rx] s (s.mapLink fun k => { k with rxPartial := x }) := fun x =>
    .of_framed fun p hp => by
      cases p with
      | rx => exact absurd (by decide) hp
      | _ => rfl
  have hb : ∀ (s : State) f, Touches [.rx, .sticky] s (s.bufferFrame f) := fun s f => by
    unfold State.bufferFrame
    have h : Touches [.rx] s (s.mapLink fun k => { k with rxBuffer := k.rxBuffer ++ [f] }) :=
      .of_framed fun p hp => by
        cases p with
        | rx => exact absurd (by decide) hp
        | _ => rfl
    exact .ite (fun _ => h.mono) fun _ => (touches_mapSticky).mono
  unfold State.receiveByte
  refine .ite (fun _ => .refl) fun _ => .ite (fun _ => (hp _).mono) fun _ => .ite (fun _ => (hp _).mono) fun _ =>
    .ite (fun _ => (hp _).mono) fun _ => ?_
  dsimp only
  split
  · exact (hp _).mono.then (hb _ _)
  · exact (hp _).mono

theorem framed_sendItem : Framed [.reports, .rx] s s.sendItem := by
  unfold State.sendItem
  split
  · exact .refl
  · intro p hp
    cases p with
    | reports | rx => exact absurd (by decide) hp
    | _ => rfl

theorem touches_pickTimer {id : Nat} : Touches moneyParts s (s.pickTimer id) := by
  unfold State.pickTimer
  split
  · exact (touches_mapDispenseAt).mono.then touches_pickReportExpired
  · exact .refl

theorem touches_retractTimer {id : Nat} : Touches moneyParts s (s.retractTimer id) := by
  unfold State.retractTimer
  split
  · exact touches_retractLost
  · exact .refl

theorem touches_presentTimer {id : Nat} : Touches moneyParts s (s.presentTimer id) := by
  unfold State.presentTimer
  split
  · exact touches_touchDispense.mono.then touches_orderRetract
  · exact .refl

theorem touches_exchangeTimer : Touches (.exchange :: moneyParts) s s.exchangeTimer := by
  unfold State.exchangeTimer
  exact .ite (fun _ => touches_endExchange.mono.then touches_arbitrate) fun _ => .refl

theorem touches_idleTimer {l : Lane} : Touches (.slots :: .outgoing :: logParts) s (s.idleTimer l) := by
  unfold State.idleTimer
  exact .ite (fun _ => touches_idleExpired) fun _ => .refl

theorem touches_endTimer {l : Lane} : Touches moneyParts s (s.endTimer l) := by
  unfold State.endTimer
  exact .ite (fun _ => touches_endExpired.mono.then touches_arbitrate) fun _ => .refl

theorem touches_completionTimer {l : Lane} : Touches captureParts s (s.completionTimer l) := by
  unfold State.completionTimer
  exact .ite (fun _ => touches_voidCapture) fun _ => .refl

theorem touches_safeTimer : Touches (.safe :: logParts) s s.safeTimer := by
  unfold State.safeTimer
  split
  · exact .ite (fun _ => touches_closeSafe) fun _ => .refl
  · exact .refl

theorem touches_restTimer : Touches arrivalParts s s.restTimer := by
  unfold State.restTimer
  split
  · exact .ite (fun _ => touches_setBlower.mono.then touches_arbitrateBlower) fun _ => .refl
  · exact .refl

theorem touches_transitTimer {l : Lane} : Touches (.holds :: arrivalParts) s (s.transitTimer l) := by
  unfold State.transitTimer
  exact .ite (fun _ => touches_overdue) fun _ => .refl

theorem touches_armTimer {i : LoopId} : Touches (.loops :: logParts) s (s.armTimer i) := by
  unfold State.armTimer
  exact .ite (fun _ => touches_armExpired) fun _ => .refl

theorem touches_qualifyTimer {i : LoopId} : Touches (.loops :: lockdownParts) s (s.qualifyTimer i) := by
  unfold State.qualifyTimer
  exact .ite (fun _ => touches_tripLoop) fun _ => .refl

theorem touches_breakByBody {b : Bool} {k : Nat} {body : List Byte} :
    Touches (.pairSlots :: logParts) s (s.breakByBody b k body) := by
  unfold State.breakByBody
  split
  · exact .ite (fun _ => touches_breakNamed) fun _ => .refl
  · exact .refl

theorem touches_refuseForm {h : Sender} {b : Bool} {k : Nat} {body : List Byte} :
    Touches (.pairSlots :: logParts) s (s.refuseForm h b k body).state := by
  unfold State.refuseForm
  split
  · exact .refl
  · exact touches_breakByBody

end Events

/-! ## The invariant of O7 -/

section Invariant

variable {s : State}

/-- An order that finds a place keeps what its effect keeps. -/
theorem State.matchedBut.takeOrder {h : Sender} {k : OrderKind} {act : State → Answer} {form : List Byte → Bool}
    (hs : s.matchedBut []) (ha : ∀ t, t.matchedBut [] → (act t).state.matchedBut []) :
    (s.takeOrder h k act form).matchedBut [] := by
  unfold State.takeOrder
  split
  · exact touches_respond.matched _ (ha _ (touches_takeFrame.matched _ hs))
  · exact hs

theorem State.matchedBut.takeMgmt {h : Sender} {k : OrderKind} {act : State → Answer} (hs : s.matchedBut [])
    (ha : ∀ t, t.matchedBut [] → (act t).state.matchedBut []) : (s.takeMgmt h k act).matchedBut [] :=
  hs.takeOrder fun t ht => by
    split
    · exact ha t ht
    · exact ht

theorem State.matchedBut.dispenseBy {h : Sender} {n p a : Nat} (hs : s.matchedBut []) :
    (s.dispenseBy h n p a).state.matchedBut [] := by
  unfold State.dispenseBy
  split
  · exact hs.dispenseSingle
  · split
    · exact hs.dispenseFirst
    · exact hs.dispenseSecond

theorem State.matchedBut.unknownOrder {h : Sender} {b : Bool} {k : Nat} {body : List Byte} (hs : s.matchedBut []) :
    (s.unknownOrder h b k body).matchedBut [] := by
  unfold State.unknownOrder
  split
  · exact hs.takeOrder fun t ht => ht.dispenseBy
  · exact hs.takeOrder fun t ht => touches_refuseForm.matched _ ht

theorem matchedBut_hardReset : s.hardReset.matchedBut [] := by
  have hn : ∀ i, Part.view .names s.hardReset i = none := fun i => by
    simp [Part.view, State.hardReset, State.reset]
  have hl : ∀ l, (s.hardReset.laneRec l).txn = none := fun l => by
    simp [State.hardReset, State.reset, State.laneRec]
  have hs : ∀ l, Part.view .occupied s.hardReset l = false := fun l => by
    simp [Part.view, State.session, State.hardReset, State.reset]
  refine ⟨fun l h => ?_, fun i id l h => ?_, fun l h => ?_, fun i j id k l h => ?_⟩
  · rw [hl] at h; cases h
  · rw [hn] at h; cases h
  · rw [hs] at h; cases h
  · rw [hn] at h; cases h

/-- Every command keeps every dispense and session its lane's transaction. -/
theorem State.matchedBut.exec (hs : s.matchedBut []) (c : Instr) : ∃ t, Machine.exec c s = .next t ∧ t.matchedBut [] :=
  match c with
  | .hardReset => ⟨_, rfl, matchedBut_hardReset⟩
  | .consoleFrameReceived _ => ⟨_, rfl, (touches_forEach (fun _ _ => touches_receiveByte) _ _).matched _ hs⟩
  | .reportQueueItemSent => ⟨_, rfl, hs.framed framed_sendItem⟩
  | .signOn _ _ => ⟨_, rfl, (touches_takeOrder fun _ => touches_signOn).matched _ hs⟩
  | .signOff _ => ⟨_, rfl, (touches_takeOrder fun _ => touches_signOff).matched _ hs⟩
  | .dispenseSingle _ _ _ => ⟨_, rfl, hs.takeOrder fun _ ht => ht.dispenseSingle⟩
  | .dispenseFirst _ _ _ => ⟨_, rfl, hs.takeOrder fun _ ht => ht.dispenseFirst⟩
  | .dispenseSecond _ _ _ => ⟨_, rfl, hs.takeOrder fun _ ht => ht.dispenseSecond⟩
  | .cancelDispense _ _ _ => ⟨_, rfl, hs.takeOrder fun _ ht => touches_cancelDispense.matched _ (touches_breakNamed.matched _ ht)⟩
  | .openDeposit _ _ => ⟨_, rfl, hs.takeOrder fun _ ht => ht.openDeposit⟩
  | .closeDeposit _ _ => ⟨_, rfl, hs.takeOrder fun _ ht => touches_closeDepositOrder.matched _ (touches_breakNamed.matched _ ht)⟩
  | .sendCarrier _ _ => ⟨_, rfl, hs.takeOrder fun _ ht => touches_sendCarrier.matched _ (touches_breakNamed.matched _ ht)⟩
  | .recallCarrier _ _ => ⟨_, rfl, hs.takeOrder fun _ ht => touches_recallCarrier.matched _ (touches_breakNamed.matched _ ht)⟩
  | .openLane _ _ => ⟨_, rfl, hs.takeOrder fun _ ht => touches_openLane.matched _ (touches_breakNamed.matched _ ht)⟩
  | .closeLane _ _ => ⟨_, rfl, hs.takeOrder fun _ ht => touches_closeLane.matched _ (touches_breakNamed.matched _ ht)⟩
  | .releaseLane _ _ => ⟨_, rfl, hs.takeOrder fun _ ht => touches_releaseLane.matched _ (touches_breakNamed.matched _ ht)⟩
  | .confirmExchangeCassette _ _ => ⟨_, rfl, (touches_takeOrder fun _ => touches_confirm).matched _ hs⟩
  | .confirmEmptyDepository _ => ⟨_, rfl, (touches_takeOrder fun _ => touches_confirm).matched _ hs⟩
  | .confirmClearCondition _ _ => ⟨_, rfl, (touches_takeOrder fun _ => touches_confirm).matched _ hs⟩
  | .writeEntryLanePolicy _ _ => ⟨_, rfl, (touches_takeMgmt fun _ => touches_writeLanePolicy).matched _ hs⟩
  | .writeEntryAuthority _ _ => ⟨_, rfl, (touches_takeMgmt fun _ => touches_writeAuthority).matched _ hs⟩
  | .writeEntryDenomination _ _ _ => ⟨_, rfl, (touches_takeMgmt fun _ => touches_writeDenomination).matched _ hs⟩
  | .writeEntryCassette _ _ _ _ _ => ⟨_, rfl, (touches_takeMgmt fun _ => touches_writeCassette).matched _ hs⟩
  | .writeEntryLoop _ _ => ⟨_, rfl, (touches_takeMgmt fun _ => touches_writeLoop).matched _ hs⟩
  | .writeEntryModule _ _ _ _ _ => ⟨_, rfl, (touches_takeMgmt fun _ => touches_writeModule).matched _ hs⟩
  | .writeEntryScreening _ _ _ _ => ⟨_, rfl, (touches_takeMgmt fun _ => touches_writeScreening).matched _ hs⟩
  | .writeEntryPlanner _ _ => ⟨_, rfl, (touches_takeMgmt fun _ => touches_writePlanner).matched _ hs⟩
  | .writeEntryPresenter _ _ => ⟨_, rfl, (touches_takeMgmt fun _ => touches_writePresenter).matched _ hs⟩
  | .writeEntryDeposit _ _ => ⟨_, rfl, (touches_takeMgmt fun _ => touches_writeDeposit).matched _ hs⟩
  | .writeEntryDepository _ _ => ⟨_, rfl, (touches_takeMgmt fun _ => touches_writeDepository).matched _ hs⟩
  | .writeEntryTube _ _ => ⟨_, rfl, (touches_takeMgmt fun _ => touches_writeTube).matched _ hs⟩
  | .writeEntryBus _ _ => ⟨_, rfl, (touches_takeMgmt fun _ => touches_writeBus).matched _ hs⟩
  | .readEntry _ _ => ⟨_, rfl, (touches_takeMgmt fun _ => touches_readEntry).matched _ hs⟩
  | .selectProfileWrite _ _ => ⟨_, rfl, (touches_takeMgmt fun _ => touches_selectWrite).matched _ hs⟩
  | .selectProfileOperate _ _ => ⟨_, rfl, (touches_takeMgmt fun _ => touches_selectOperate).matched _ hs⟩
  | .loadCassette _ _ _ _ => ⟨_, rfl, (touches_takeMgmt fun _ => touches_loadCassette).matched _ hs⟩
  | .reconcileCassette _ _ _ => ⟨_, rfl, (touches_takeMgmt fun _ => touches_reconcileCassette).matched _ hs⟩
  | .exchangeCassette _ _ => ⟨_, rfl, (touches_takeMgmt fun _ => touches_exchangeFirst).matched _ hs⟩
  | .emptyDepository _ => ⟨_, rfl, (touches_takeMgmt fun _ => touches_storeHalf).matched _ hs⟩
  | .clearConditionLockdown _ => ⟨_, rfl, (touches_takeMgmt fun _ => touches_storeHalf).matched _ hs⟩
  | .clearConditionDuress _ => ⟨_, rfl, (touches_takeMgmt fun _ => touches_clearDuress).matched _ hs⟩
  | .armLoop _ _ => ⟨_, rfl, (touches_takeMgmt fun _ => touches_armLoop).matched _ hs⟩
  | .disarmLoop _ _ => ⟨_, rfl, (touches_takeMgmt fun _ => touches_disarmLoop).matched _ hs⟩
  | .ackLoop _ _ => ⟨_, rfl, (touches_takeMgmt fun _ => touches_ackLoop).matched _ hs⟩
  | .restoreNode _ _ => ⟨_, rfl, (touches_takeMgmt fun _ => touches_restoreNode).matched _ hs⟩
  | .resumeRecycler _ => ⟨_, rfl, (touches_takeMgmt fun _ => touches_resumeRecycler).matched _ hs⟩
  | .clearTube _ _ => ⟨_, rfl, (touches_takeMgmt fun _ => touches_clearTube).matched _ hs⟩
  | .resetShift _ _ => ⟨_, rfl, (touches_takeMgmt fun _ => touches_resetShift).matched _ hs⟩
  | .readStatus _ _ => ⟨_, rfl, (touches_takeMgmt fun _ => touches_readStatus).matched _ hs⟩
  | .readJournal _ _ => ⟨_, rfl, (touches_takeMgmt (ps := []) fun _ => .refl).matched _ hs⟩
  | .drainJournal _ _ => ⟨_, rfl, hs.takeMgmt fun _ ht => ht.framed framed_drainJournal⟩
  | .goService _ => ⟨_, rfl, (touches_takeMgmt fun _ => touches_goService).matched _ hs⟩
  | .suspend _ => ⟨_, rfl, (touches_takeMgmt fun _ => touches_suspend).matched _ hs⟩
  | .restart _ => ⟨_, rfl, hs.restart⟩
  | .pairTimerExpiry _ => ⟨_, rfl, touches_pairExpired.matched _ hs⟩
  | .managementPairTimerExpiry => ⟨_, rfl, touches_managementPairExpired.matched _ hs⟩
  | .pickReportTimerExpiry _ => ⟨_, rfl, touches_pickTimer.matched _ hs⟩
  | .retractReportTimerExpiry _ => ⟨_, rfl, touches_retractTimer.matched _ hs⟩
  | .presentTimerExpiry _ => ⟨_, rfl, touches_presentTimer.matched _ hs⟩
  | .exchangeAuthorisationExpiry => ⟨_, rfl, touches_exchangeTimer.matched _ hs⟩
  | .idleTimerExpiry _ => ⟨_, rfl, touches_idleTimer.matched _ hs⟩
  | .endTimerExpiry _ => ⟨_, rfl, touches_endTimer.matched _ hs⟩
  | .completionTimerExpiry _ => ⟨_, rfl, touches_completionTimer.matched _ hs⟩
  | .safeOpeningExpiry => ⟨_, rfl, touches_safeTimer.matched _ hs⟩
  | .restTimerExpiry => ⟨_, rfl, touches_restTimer.matched _ hs⟩
  | .transitTimerExpiry _ => ⟨_, rfl, touches_transitTimer.matched _ hs⟩
  | .armTimerExpiry _ => ⟨_, rfl, touches_armTimer.matched _ hs⟩
  | .qualifyTimerExpiry _ => ⟨_, rfl, touches_qualifyTimer.matched _ hs⟩
  | .loopReading _ _ => ⟨_, rfl, touches_readLoop.matched _ hs⟩
  | .exchangeBegin => ⟨_, rfl, touches_beginExchange.matched _ hs⟩
  | .wallBusReplyTaken _ => ⟨_, rfl, touches_takeReply.matched _ hs⟩
  | .replyWindowExpiry => ⟨_, rfl, touches_windowExpired.matched _ hs⟩
  | .busFrameDiscarded _ => ⟨_, rfl, hs⟩
  | .unknownOrderKind _ _ _ _ => ⟨_, rfl, hs.unknownOrder⟩

theorem touches_tick : Touches [.time] s s.tick :=
  .of_framed fun p hp => by
    cases p with
    | time => exact absurd (by decide) hp
    | _ => rfl

end Invariant

/-- Settles O7: each command touches lanes, records and slots only as `Touches` allows, but for the orders that admit, which take an
IDLE lane, and the outcomes, which free what they close. -/
theorem transactionsMatchTheirLanes : Obligations.TransactionsMatchTheirLanes := by
  unfold Obligations.TransactionsMatchTheirLanes
  intro s t hs ht
  rw [← matchedBut_nil] at hs ⊢
  unfold step at ht
  split at ht
  · cases ht
    exact touches_tick.matched _ hs
  · next c rest _ =>
    have hq : ({ s with pending := rest } : State).matchedBut [] := ⟨hs.taken, hs.dispense, hs.deposit, hs.apart⟩
    obtain ⟨u, hu, hk⟩ := hq.exec c
    rw [hu] at ht
    cases ht
    exact hk

end Sys2Proof.Machine
end

section
/-! PROOFS. The state after reset meets the invariants and holds what the chapters give. -/

namespace Sys2Proof.Machine

open Sys2Proof

-- One thread, so that the check's memory holds the stacks.
set_option Elab.async false

theorem reset_cassette (c : CassetteId) : State.reset.cassette c = {} := by
  simp [State.cassette, State.reset]

/-- Settles O11, by evaluation of the registers' values after reset. -/
theorem resetMeetsTheInvariants : Obligations.ResetMeetsTheInvariants := by
  unfold Obligations.ResetMeetsTheInvariants
  refine ⟨⟨rfl, rfl⟩, by decide, by decide, matchedBut_nil.1 (matchedBut_hardReset (s := State.reset)), by decide,
    by decide, fun c d hc => ?_, fun c => ?_, fun c => ?_, by decide⟩
  · simp [State.binding, State.reset] at hc
  · rw [reset_cassette]; revert c; decide
  · rw [reset_cassette]; decide

/-- Settles O14: a hard reset in any state is the state after reset, but for the commands waiting. -/
theorem hardResetLeavesTheOtherBlocks : Obligations.HardResetLeavesTheOtherBlocks := by
  unfold Obligations.HardResetLeavesTheOtherBlocks
  intro s
  have hcarrier : ∀ l, s.hardReset.carrier l = {} := fun l => by simp [State.carrier, State.hardReset, State.reset]
  have hloop : ∀ i, s.hardReset.loop i = {} := fun i => by simp [State.loop, State.hardReset, State.reset]
  refine ⟨s.hardReset, rfl, fun p l => ?copies, rfl, rfl, fun l => ?lanes, fun c => ?consoles, fun i => ?authority,
    fun l => ?pairs, rfl, fun c => ?rates, rfl, rfl, fun l => ?sessions, rfl, fun l => ?captures, rfl, rfl, rfl, rfl,
    by rfl, by rfl, fun l => ?carriers, rfl, rfl, rfl, fun i => ?loops, rfl, rfl, rfl, rfl, fun m => ?modules, rfl, rfl,
    rfl, rfl, rfl, rfl, rfl, rfl, rfl, rfl, rfl⟩
  case copies => cases p <;> simp [LaneControl.copy, State.hardReset, State.reset]
  case lanes => simp [State.laneRec, State.hardReset, State.reset]
  case consoles => simp [State.binding, State.hardReset, State.reset]
  case authority => simp [State.authority, State.hardReset, State.reset]
  case pairs => simp [State.hardReset, State.reset]
  case rates => simp [State.hardReset, State.reset]
  case sessions => simp [State.session, State.hardReset, State.reset]
  case captures => simp [State.capture, State.hardReset, State.reset]
  case carriers => rw [hcarrier]; decide
  case loops => rw [hloop]; decide
  case modules => simp [State.module, State.hardReset, State.reset]

end Sys2Proof.Machine
end

section
/-! SUPPORT. What an event writes and queues, followed through the operations it is made of: `Event s c t items records` says that it
leads from `s` to `c` with its reports and records added, and that these are `items` and `records` where there is room for them. -/

namespace Sys2Proof.Machine

open Sys2Proof

-- One thread, so that the check's memory holds the stacks.
set_option Elab.async false

/-! ## Reports queued and records written -/

/-- With room for them, exactly these reports were queued and these records written, and no sticky cause was raised. -/
structure Writes (s t : State) (items : List Item) (records : List Entry) : Prop where
  clock : t.now = s.now
  room : s.link.used + items.length ≤ 64 → s.journal.reserved + records.length ≤ s.journal.free →
    t.link = { s.link with reports := s.link.reports ++ items } ∧ t.journal = s.journal.appendAll s.now records
      ∧ t.mgmt.sticky = s.mgmt.sticky

section Writes

variable {s t u : State} {items more : List Item} {records others : List Entry}

theorem appendAll_append (j : Journal) (now : Time) (xs ys : List Entry) :
    j.appendAll now (xs ++ ys) = (j.appendAll now xs).appendAll now ys := List.foldl_append

theorem appendAll_room (j : Journal) (now : Time) (xs : List Entry) :
    (j.appendAll now xs).ring.length = j.ring.length + xs.length ∧ (j.appendAll now xs).reserved = j.reserved := by
  induction xs generalizing j with
  | nil => exact ⟨rfl, rfl⟩
  | cons x xs ih =>
    obtain ⟨h1, h2⟩ := ih (j.append now x)
    refine ⟨?_, h2⟩
    rw [show j.appendAll now (x :: xs) = (j.append now x).appendAll now xs from rfl, h1, append_ring]
    simp only [List.length_append, List.length_cons, List.length_nil]
    omega

theorem Writes.refl : Writes s s [] [] := ⟨rfl, fun _ _ => ⟨by rw [List.append_nil], rfl, rfl⟩⟩

theorem Writes.trans (h : Writes s t items records) (k : Writes t u more others) :
    Writes s u (items ++ more) (records ++ others) := by
  refine ⟨k.clock.trans h.clock, fun hi hr => ?_⟩
  simp only [List.length_append] at hi hr
  have hw := h.room (by omega) (by omega)
  obtain ⟨hl, hj, hs⟩ := hw
  obtain ⟨hlen, hres⟩ := appendAll_room s.journal s.now records
  have hk := k.room (by rw [hl]; simp only [Link.used, List.length_append] at *; omega)
    (by rw [hj]; simp only [Journal.free, hlen, hres] at *; omega)
  obtain ⟨hl', hj', hs'⟩ := hk
  refine ⟨?_, ?_, hs'.trans hs⟩
  · rw [hl', hl, List.append_assoc]
  · rw [hj', hj, h.clock, appendAll_append]

/-- An operation on other blocks writes nothing. -/
theorem Writes.of_eq (hl : t.link = s.link) (hj : t.journal = s.journal) (hs : t.mgmt.sticky = s.mgmt.sticky)
    (hn : t.now = s.now) : Writes s t [] [] := ⟨hn, fun _ _ => ⟨by rw [hl, List.append_nil], hj, hs⟩⟩

theorem writes_record (s : State) (e : Entry) : Writes s (s.record e) [] [s.stamped e] := by
  refine ⟨?_, fun _ hr => ?_⟩
  · rw [logsOnly_record s e]; rfl
  · simp only [List.length_cons, List.length_nil] at hr
    unfold State.record
    rw [if_pos (by omega), List.append_nil]
    exact ⟨rfl, rfl, rfl⟩

theorem writes_send (s : State) (d : Station) (tag : Nat) (r : Report) : Writes s (s.send d tag r) [reportItem d tag r] [] := by
  refine ⟨?_, fun hi _ => ?_⟩
  · rw [logsOnly_send s d tag r]; rfl
  · simp only [List.length_cons, List.length_nil] at hi
    unfold State.send
    rw [if_pos (by omega)]
    exact ⟨rfl, rfl, rfl⟩

end Writes

/-! ## An event -/

/-- The event leads from `s` to `t`, which is `c` but for what was written and queued, namely the records and items. -/
structure Event (s c t : State) (items : List Item) (records : List Entry) : Prop where
  state : LogsOnly c t
  writes : Writes s t items records

section Event

variable {s c t : State} {items : List Item} {records : List Entry}

theorem Event.refl : Event s s s [] [] := ⟨.refl s, .refl⟩

/-- The same event, its lists written otherwise. -/
theorem Event.cast {more : List Item} {others : List Entry} (h : Event s c t items records) (hi : items = more)
    (hr : records = others) : Event s c t more others := hi ▸ hr ▸ h

theorem Event.record (h : Event s c t items records) (e : Entry) :
    Event s c (t.record e) items (records ++ [c.stamped e]) := by
  have he : t.stamped e = c.stamped e := by rw [h.state]; rfl
  have hw := h.writes.trans (writes_record t e)
  rw [List.append_nil, he] at hw
  exact ⟨h.state.trans (logsOnly_record t e), hw⟩

theorem Event.send (h : Event s c t items records) (d : Station) (tag : Nat) (r : Report) :
    Event s c (t.send d tag r) (items ++ [reportItem d tag r]) records := by
  have hw := h.writes.trans (writes_send t d tag r)
  rw [List.append_nil] at hw
  exact ⟨h.state.trans (logsOnly_send t d tag r), hw⟩

theorem Event.send7 (h : Event s c t items records) (r : Report) : Event s c (t.send7 r) (items ++ to7 r) records :=
  h.send .supervisor 0 r

theorem Event.sendCopied (h : Event s c t items records) (d : Station) (tag : Nat) (own copy : Report) :
    Event s c (t.sendCopied d tag own copy) (items ++ copied d tag own copy) records := by
  cases d
  · exact ((h.send _ tag own).send .supervisor tag copy).cast (by simp [copied]) rfl
  · exact h.send .supervisor tag copy

/-- One report to each of some consoles. -/
theorem Event.sendEach (h : Event s c t items records) (l : List Console) (tag : Nat) (r : Report) :
    Event s c (t.forEach l fun s c => s.send (.console c) tag r) (items ++ l.map fun c => reportItem (.console c) tag r)
      records := by
  induction l generalizing t items with
  | nil => exact h.cast (List.append_nil _).symm rfl
  | cons x l ih => exact (ih (h.send (.console x) tag r)).cast (by simp) rfl

theorem Event.sendServing (h : Event s c t items records) (l : Lane) (own copy : Report) :
    Event s c (t.sendServing l 0 own copy) (items ++ c.toServing l own copy) records := by
  have hs : t.servingOf l = c.servingOf l := by rw [h.state]; rfl
  unfold State.sendServing
  rw [hs]
  exact ((h.sendEach _ 0 own).send .supervisor 0 copy).cast (by simp [State.toServing, to7]) rfl

theorem Event.sendSignedOn (h : Event s c t items records) (r : Report) :
    Event s c (t.sendSignedOn r) (items ++ c.toSignedOn r) records := by
  have hs : t.signedOn = c.signedOn := by rw [h.state]; rfl
  unfold State.sendSignedOn
  rw [hs]
  exact h.sendEach _ 0 r

/-! ### Changes of the other blocks -/

/-- A change of other blocks writes nothing. -/
theorem Event.change {c' t' : State} (h : Event s c t items records) (hc : LogsOnly c' t') (hl : t'.link = t.link)
    (hj : t'.journal = t.journal) (hs : t'.mgmt.sticky = t.mgmt.sticky) (hn : t'.now = t.now) :
    Event s c' t' items records := by
  have hw := h.writes.trans (.of_eq hl hj hs hn)
  rw [List.append_nil, List.append_nil] at hw
  exact ⟨hc, hw⟩

theorem Event.mapScreen (h : Event s c t items records) (f : OrderScreen → OrderScreen) :
    Event s (c.mapScreen f) (t.mapScreen f) items records := h.change (by rw [h.state]; rfl) rfl rfl rfl rfl

theorem Event.mapLanes (h : Event s c t items records) (f : LaneControl → LaneControl) :
    Event s (c.mapLanes f) (t.mapLanes f) items records := h.change (by rw [h.state]; rfl) rfl rfl rfl rfl

theorem Event.mapDispense (h : Event s c t items records) (f : DispenseControl → DispenseControl) :
    Event s (c.mapDispense f) (t.mapDispense f) items records := h.change (by rw [h.state]; rfl) rfl rfl rfl rfl

theorem Event.mapCash (h : Event s c t items records) (f : CashPosition → CashPosition) :
    Event s (c.mapCash f) (t.mapCash f) items records := h.change (by rw [h.state]; rfl) rfl rfl rfl rfl

theorem Event.mapDeposit (h : Event s c t items records) (f : DepositControl → DepositControl) :
    Event s (c.mapDeposit f) (t.mapDeposit f) items records := h.change (by rw [h.state]; rfl) rfl rfl rfl rfl

theorem Event.mapEnvelope (h : Event s c t items records) (f : EnvelopeControl → EnvelopeControl) :
    Event s (c.mapEnvelope f) (t.mapEnvelope f) items records := h.change (by rw [h.state]; rfl) rfl rfl rfl rfl

theorem Event.mapTube (h : Event s c t items records) (f : TubeScheduler → TubeScheduler) :
    Event s (c.mapTube f) (t.mapTube f) items records := h.change (by rw [h.state]; rfl) rfl rfl rfl rfl

theorem Event.mapAlarm (h : Event s c t items records) (f : AlarmSupervisor → AlarmSupervisor) :
    Event s (c.mapAlarm f) (t.mapAlarm f) items records := h.change (by rw [h.state]; rfl) rfl rfl rfl rfl

theorem Event.mapBus (h : Event s c t items records) (f : BusController → BusController) :
    Event s (c.mapBus f) (t.mapBus f) items records := h.change (by rw [h.state]; rfl) rfl rfl rfl rfl

theorem Event.mapLane (h : Event s c t items records) (l : Lane) (f : LaneRecord → LaneRecord) :
    Event s (c.mapLane l f) (t.mapLane l f) items records := h.mapLanes _

theorem Event.settle (h : Event s c t items records) (l : Lane) : Event s (c.settle l) (t.settle l) items records :=
  h.change (by rw [h.state]; rfl) rfl rfl rfl rfl

/-! ### Lanes told of (R11) -/

/-- The reports of a change of a lane since `b`. -/
def State.announced (s : State) (l : Lane) (b : LaneRecord) : List Item :=
  if (s.laneRec l).state ≠ b.state ∨ (s.laneRec l).holds ≠ b.holds then
    s.toServing l (laneReportOf l (s.laneRec l)) (laneReportOf l (s.laneRec l))
  else if (s.laneRec l).switchPending ≠ b.switchPending then to7 (laneReportOf l (s.laneRec l))
  else []

theorem mapLane_congr {l : Lane} {f g : LaneRecord → LaneRecord} (h : f (s.laneRec l) = g (s.laneRec l)) :
    s.mapLane l f = s.mapLane l g := by
  change { s with lanes := { s.lanes with records := s.lanes.records.set l (f (s.laneRec l)) } } = _
  rw [h]
  rfl

theorem mapLane_mapLane {l : Lane} {f g : LaneRecord → LaneRecord} :
    (s.mapLane l f).mapLane l g = s.mapLane l fun r => g (f r) := by
  have hself : (s.mapLane l f).laneRec l = f (s.laneRec l) := by rw [mapLane_laneRec, if_pos rfl]
  rw [mapLane_congr (g := fun _ => g (f (s.laneRec l))) (by rw [hself])]
  unfold State.mapLane State.mapLanes
  simp only [Vector.set_set]
  rfl

/-- A change of a Lane Record to itself is none. -/
theorem mapLane_self {l : Lane} {f : LaneRecord → LaneRecord} (h : f (s.laneRec l) = s.laneRec l) : s.mapLane l f = s := by
  have hr : s.lanes.records.set l (f (s.laneRec l)) = s.lanes.records := by
    rw [h]
    exact Vector.set_getElem_self _
  change { s with lanes := { s.lanes with records := s.lanes.records.set l (f (s.laneRec l)) } } = s
  rw [hr]

/-- Settling a settled lane changes nothing. -/
theorem settle_settled {l : Lane} (h : settledState (s.laneRec l) (s.policy l).readsOpen = (s.laneRec l).state) :
    s.settle l = s := mapLane_self (by rw [h])

theorem checkCopy_ok {p : Profile} {l : Lane} (h : (s.lanes.copy p l).check = {}) : s.checkCopy p l = s := by
  simp [State.checkCopy, h]

theorem settledState_idem (r : LaneRecord) (b : Bool) :
    settledState { r with state := settledState r b } b = settledState r b := by
  unfold settledState
  dsimp only
  split
  · rw [if_pos rfl]
  · split
    · rw [if_pos rfl]
    · split <;> simp_all

theorem settle_laneRec (s : State) (l m : Lane) : (s.settle l).laneRec m =
    if m = l then { s.laneRec l with state := settledState (s.laneRec l) (s.policy l).readsOpen } else s.laneRec m :=
  mapLane_laneRec ..

/-- A lane's policy stays when its record keeps its profile. -/
theorem mapLane_policy (s : State) (l m : Lane) {f : LaneRecord → LaneRecord}
    (hf : (f (s.laneRec l)).profile = (s.laneRec l).profile) : (s.mapLane l f).policy m = s.policy m := by
  have hp : ((s.mapLane l f).laneRec m).profile = (s.laneRec m).profile := by
    rw [mapLane_laneRec]
    split
    · next h => rw [hf, h]
    · rfl
  unfold State.policy
  rw [hp]
  rfl

theorem settle_policy (s : State) (l m : Lane) : (s.settle l).policy m = s.policy m := mapLane_policy s l m rfl

/-- A lane whose copy in force is OK, and which is settled where it changed, is reported as it stands. -/
theorem Event.announce (h : Event s c t items records) {l : Lane} {b : LaneRecord} (hc : (c.policy l).check = {})
    (hs : (c.laneRec l).state ≠ b.state ∨ (c.laneRec l).holds ≠ b.holds →
      settledState (c.laneRec l) (c.policy l).readsOpen = (c.laneRec l).state) :
    Event s c (t.announce l b) (items ++ c.announced l b) records := by
  have hr : t.laneRec l = c.laneRec l := by rw [h.state]; rfl
  have hp : t.policy l = c.policy l := by rw [h.state]; rfl
  have hcopy : t.checkCopy (c.laneRec l).profile l = t :=
    checkCopy_ok (by rw [← hr, show t.lanes.copy (t.laneRec l).profile l = t.policy l from rfl, hp, hc])
  have hf : (t.policy l).check.faulted = false := by rw [hp, hc]
  have hrep : t.laneReport l = laneReportOf l (c.laneRec l) := by unfold State.laneReport; rw [hr]; rfl
  unfold State.announce State.announced
  dsimp only
  simp only [hf, Bool.false_eq_true, if_false, hcopy, hr]
  split
  · next hch =>
    have hset : t.settle l = t := settle_settled (by rw [hr, hp]; exact hs hch)
    rw [hset, hf, if_neg (by decide), hrep]
    exact h.sendServing l _ _
  · split
    · rw [hrep]
      exact h.send7 _
    · exact h.cast (List.append_nil _).symm rfl

/-- A lane settled and told of. -/
theorem Event.settleAndAnnounce (h : Event s c t items records) {l : Lane} {b : LaneRecord}
    (hc : (c.policy l).check = {}) :
    Event s (c.settle l) (t.settleAndAnnounce l b) (items ++ (c.settle l).announced l b) records := by
  refine (h.settle l).announce (by rw [settle_policy]; exact hc) ?_
  rw [settle_policy, settle_laneRec, if_pos rfl]
  exact fun _ => settledState_idem _ _

/-! ### The end of an event -/

theorem Event.noted (h : Event s c t items records) : Noted s t items records := fun hr =>
  h.writes.room (by omega) hr.2

/-- An order answered. -/
theorem Event.told {a : State} {h : Sender} {k : OrderKind} {form : List Byte → Bool} (code : Code) (body : ResponseBody)
    (he : Event (s.takeFrame h k form) c a items records) :
    LogsOnly c (a.respond h k code body) ∧ Told s (a.respond h k code body) h k code body items records form := by
  refine ⟨he.state.trans (logsOnly_respond ..), answered_respond .., fun hr => ?_⟩
  obtain ⟨hl, hj, hs⟩ := he.writes.room (by rw [takeFrame_used]; omega) hr.2
  refine ⟨?_, hj, hs⟩
  unfold State.respond State.mapLink
  rw [hl]
  simp only [State.repliedWith, State.takeFrame, State.mapLink, Nat.add_sub_cancel, responseTo]

/-- An order taken whose effect is an event: its answer, its reports and its records. -/
theorem takeOrder_event {a : State} {h : Sender} {k : OrderKind} {act : State → Answer} {form : List Byte → Bool}
    {code : Code} {body : ResponseBody} (hu : s.link.used < 64) (ha : act (s.takeFrame h k form) = ⟨a, code, body⟩)
    (he : Event (s.takeFrame h k form) c a items records) :
    ∃ t, s.takeOrder h k act form = t ∧ LogsOnly c t ∧ Told s t h k code body items records form := by
  refine ⟨_, takeOrder_room s h k act form hu, ?_⟩
  rw [ha]
  exact he.told code body

/-- A management order from station 7 likewise. -/
theorem takeMgmt_event {a : State} {h : Sender} {k : OrderKind} {act : State → Answer} {code : Code} {body : ResponseBody}
    (hs : s.supervised h) (ha : act (s.takeFrame h k) = ⟨a, code, body⟩) (he : Event (s.takeFrame h k) c a items records) :
    ∃ t, s.takeMgmt h k act = t ∧ LogsOnly c t ∧ Told s t h k code body items records := by
  refine ⟨_, takeMgmt_supervised s h k act hs, ?_⟩
  rw [ha]
  exact he.told code body

end Event

end Sys2Proof.Machine
end

section
/-! PROOFS. OPEN LANE, CLOSE LANE and RELEASE LANE, and the half that an order naming a lane breaks (O30). -/

namespace Sys2Proof.Machine

open Sys2Proof

-- One thread, so that the check's memory holds the stacks.
set_option Elab.async false

section LaneOrders

variable {s t : State} {l : Lane} {n : Nat}

/-! ## The screening of an order on a lane -/

theorem breakNamed_some (hn : numbered 6 n = some l) : s.breakNamed n = s.breakPair l := by
  unfold State.breakNamed
  rw [hn]

theorem breakPair_none (hp : s.screen.pairSlots[l] = none) : s.breakPair l = s := by
  unfold State.breakPair
  rw [hp]

theorem breakPair_some {p : PairHalf} (hp : s.screen.pairSlots[l] = some p) : s.breakPair l =
    ((s.setPair l none).record (brokenEntry p l)).sendCopied (.console p.station) p.tag .brokenPair .brokenPair := by
  unfold State.breakPair
  rw [hp]
  rfl

theorem breakPair_slot : (s.breakPair l).screen.pairSlots[l] = none := by
  cases hp : s.screen.pairSlots[l] with
  | none => rw [breakPair_none hp, hp]
  | some p =>
    rw [breakPair_some hp]
    have h := touches_record.mono.then touches_sendCopied (s := s.setPair l none) (ps := logParts) (qs := [.reports, .sticky])
      (u := ((s.setPair l none).record (brokenEntry p l)).sendCopied (.console p.station) p.tag .brokenPair .brokenPair)
    exact h.grows.pairs l (by rw [setPair_slot, if_pos rfl])

/-- Checks that pass and leave the state let the effect follow. -/
theorem ifPass_pass {fs : List Step} {act : State → Answer} (h : s.checks fs = (s, none)) : s.ifPass fs act = act s := by
  unfold State.ifPass
  rw [h]

/-- From station 7 an order on a lane with no half stored is checked by its part state and lane alone (R24). -/
theorem sharedLaneOrder_supervisor {b : Bool} {right : Rights → Bool} {act : State → Lane → Answer}
    (hn : numbered 6 n = some l) (hp : s.screen.pairSlots[l] = none)
    (hm : s.mgmt.partState = .inService ∨ b = false ∧ s.mgmt.partState ≠ .unconfigured) :
    s.sharedLaneOrder .supervisor n b right act = act s l := by
  have hpart : (s.mgmt.partState == .inService || (!b && s.mgmt.partState == .suspended)) = true := by
    rcases hm with hm | ⟨hb, hm⟩
    · rw [hm]; rfl
    · rw [hb]
      generalize s.mgmt.partState = x at hm ⊢
      cases x <;> simp_all
  unfold State.sharedLaneOrder State.onLane
  rw [breakNamed_some hn, breakPair_none hp]
  dsimp only
  rw [stepPart, stepRange, checks_need, if_pos hpart, checks_need, hn, if_pos (by rfl), checks_nil]

/-! ## What the orders leave -/

theorem toServing_congr {a b : Report} (h : t.policy l = s.policy l) : t.toServing l a b = s.toServing l a b := by
  unfold State.toServing State.servingOf
  rw [h]

/-- A lane whose state or holds changed is told of to its serving consoles. -/
theorem announced_changed {b : LaneRecord} (h : (s.laneRec l).state ≠ b.state ∨ (s.laneRec l).holds ≠ b.holds) :
    s.announced l b = s.toServing l (laneReportOf l (s.laneRec l)) (laneReportOf l (s.laneRec l)) := if_pos h

/-- The lane set to a state that settles to itself, with its record and report. -/
theorem event_setLaneState {x : LaneState} {e : Entry} (hc : (s.policy l).check = {}) (hx : x ≠ (s.laneRec l).state)
    (hs : settledState { s.laneRec l with state := x } (s.policy l).readsOpen = x) :
    Event s (s.mapLane l fun r => { r with state := x })
      (((s.mapLane l fun r => { r with state := x }).record e).announce l (s.laneRec l))
      (s.toServing l (laneReportOf l { s.laneRec l with state := x }) (laneReportOf l { s.laneRec l with state := x }))
      [s.stamped e] := by
  have hr : (s.mapLane l fun r => { r with state := x }).laneRec l = { s.laneRec l with state := x } := by
    rw [mapLane_laneRec, if_pos rfl]
  have hp : (s.mapLane l fun r => { r with state := x }).policy l = s.policy l := mapLane_policy s l l rfl
  refine (((Event.refl.mapLane l _).record e).announce (l := l) (b := s.laneRec l) (by rw [hp]; exact hc)
    (fun _ => by rw [hp, hr]; exact hs)).cast ?_ rfl
  rw [announced_changed (.inl (by rw [hr]; exact hx)), hr, List.nil_append]
  exact toServing_congr hp

theorem readsOpen_ok {p : PolicyCopy} (h : p.check = {}) : p.readsOpen = p.isOpen := by
  unfold PolicyCopy.readsOpen
  rw [h]
  exact Bool.and_true _

/-- The checks of OPEN LANE pass on a CLOSED lane with a station and an open copy. -/
theorem checksOpenLane_pass (hs : s.soundTables = true) (hc : (s.laneRec l).state = .closed)
    (ho : (s.policy l).isOpen = true) (hst : (s.stationEntry l).isSome = true) :
    s.checks (checksOpenLane l) = (s, none) := by
  have hf : (s.policy l).check.faulted = false := by rw [sound_policy hs]
  unfold checksOpenLane
  rw [checks_need, if_pos (by simp [hc]), checks_cons_pass s s _ _ (by simp [usePolicy_sound hs, hf, ho]), checks_need,
    if_pos hst, checks_nil]

theorem openLane_event {st : Station} (hst : st = .supervisor) (hs : s.soundTables = true)
    (hm : s.mgmt.partState = .inService) (hn : numbered 6 n = some l) (hp : s.screen.pairSlots[l] = none)
    (hc : (s.laneRec l).state = .closed) (ht : (s.laneRec l).txn = none) (ho : (s.policy l).isOpen = true)
    (hse : (s.stationEntry l).isSome = true) {x : LaneState} (hx : x = if (s.laneRec l).holds.any then .held else .idle) :
    ∃ a, s.openLane st n = ⟨a, .done, .empty⟩ ∧ Event s (s.mapLane l fun r => { r with state := x }) a
      (s.toServing l (laneReportOf l { s.laneRec l with state := x }) (laneReportOf l { s.laneRec l with state := x }))
      [s.stamped { kind := .laneOpen, station := 7, lane := numberOf l }] := by
  subst hst
  have hpol := sound_policy hs l
  refine ⟨_, ?_, event_setLaneState (x := x) (e := { kind := .laneOpen, station := 7, lane := numberOf l }) hpol ?_ ?_⟩
  · unfold State.openLane
    rw [sharedLaneOrder_supervisor hn hp (.inl hm), ifPass_pass (checksOpenLane_pass hs hc ho hse)]
    dsimp only
    rw [mapLane_congr (g := fun r => { r with state := x }) (by rw [hx])]
    rfl
  · rw [hx, hc]
    split <;> decide
  · rw [readsOpen_ok hpol, ho, hx]
    unfold settledState
    split <;> simp_all

theorem closeLane_event {st : Station} (hst : st = .supervisor) (hs : s.soundTables = true)
    (hm : s.mgmt.partState ≠ .unconfigured) (hn : numbered 6 n = some l) (hp : s.screen.pairSlots[l] = none)
    (hc : (s.laneRec l).state ≠ .closed) (ht : (s.laneRec l).txn = none) :
    ∃ a, s.closeLane st n = ⟨a, .done, .empty⟩ ∧ Event s (s.mapLane l fun r => { r with state := .closed }) a
      (s.toServing l (laneReportOf l { s.laneRec l with state := .closed })
        (laneReportOf l { s.laneRec l with state := .closed }))
      [s.stamped { kind := .laneClose, station := 7, lane := numberOf l }] := by
  subst hst
  refine ⟨_, ?_, event_setLaneState (e := { kind := .laneClose, station := 7, lane := numberOf l }) (sound_policy hs l)
    hc.symm (by rw [settledState, if_pos rfl])⟩
  have hpass : s.checks [need (fun s => (s.laneRec l).state != .closed) .wrongState,
      need (fun s => (s.laneRec l).txn.isNone) .laneBusy] = (s, none) := by
    rw [checks_need, if_pos (by simp [hc]), checks_need, if_pos (by simp [ht]), checks_nil]
  unfold State.closeLane
  rw [sharedLaneOrder_supervisor hn hp (.inr ⟨rfl, hm⟩), ifPass_pass hpass]
  rfl

/-- A lane freed of its latched reasons, and with CASH of its place in the in-doubt set. -/
def State.freed (s : State) (l : Lane) : State :=
  let u := s.mapLane l fun r => { r with holds := { node := r.holds.node } }
  if (s.laneRec l).holds.cash then u.leaveInDoubt l else u

theorem freed_laneRec (s : State) (l : Lane) :
    (s.freed l).laneRec l = { s.laneRec l with holds := { node := (s.laneRec l).holds.node } } := by
  have h : ∀ u : State, (u.leaveInDoubt l).laneRec l = u.laneRec l := fun _ => rfl
  unfold State.freed
  dsimp only
  split
  · rw [h, mapLane_laneRec, if_pos rfl]
  · rw [mapLane_laneRec, if_pos rfl]

theorem freed_policy (s : State) (l : Lane) : (s.freed l).policy l = s.policy l := by
  unfold State.policy
  rw [freed_laneRec]
  unfold State.freed
  dsimp only
  split <;> rfl

theorem event_freed (s : State) (l : Lane) : Event s (s.freed l) (s.freed l) [] [] := by
  unfold State.freed
  dsimp only
  split
  · exact (Event.refl.mapLane l _).mapDispense _
  · exact Event.refl.mapLane l _

theorem settle_freed_laneRec (s : State) (l : Lane) : ((s.freed l).settle l).laneRec l = s.released l := by
  rw [settle_laneRec, if_pos rfl, freed_policy, freed_laneRec]
  rfl

theorem releaseLane_event {st : Station} (hst : st = .supervisor) (hs : s.soundTables = true)
    (hm : s.mgmt.partState ≠ .unconfigured) (hn : numbered 6 n = some l) (hp : s.screen.pairSlots[l] = none)
    (hl : (s.laneRec l).holds.latched = true) (hloop : (s.laneRec l).holds.loop = true → s.laneLoopsClear l = true)
    (hcar : (s.laneRec l).holds.carrier = true → (s.carrier l).location ≠ .unknown) :
    ∃ a, s.releaseLane st n = ⟨a, .done, .empty⟩ ∧ Event s ((s.freed l).settle l) a
      (s.toServing l (laneReportOf l (s.released l)) (laneReportOf l (s.released l)))
      [s.stamped { kind := .release, station := 7, lane := numberOf l
                   facts := [.reasons { (s.laneRec l).holds with node := false }] }] := by
  subst hst
  have hpass : s.checks (checksRelease l) = (s, none) := by
    unfold checksRelease
    rw [checks_need, if_pos hl, checks_need, if_pos ?_, checks_need, if_pos ?_, checks_nil]
    · cases h : (s.laneRec l).holds.carrier <;> simp_all
    · cases h : (s.laneRec l).holds.loop <;> simp_all
  have hch : ((s.freed l).settle l).announced l (s.laneRec l) =
      s.toServing l (laneReportOf l (s.released l)) (laneReportOf l (s.released l)) := by
    have hne : (s.released l).holds ≠ (s.laneRec l).holds := fun he => by
      rw [← he] at hl
      exact absurd hl (by simp [State.released, Holds.latched])
    rw [announced_changed (.inr (by rw [settle_freed_laneRec]; exact hne)), settle_freed_laneRec]
    exact toServing_congr (by rw [settle_policy, freed_policy])
  refine ⟨_, ?_, (((event_freed s l).record { kind := .release, station := 7, lane := numberOf l
                                              facts := [.reasons { (s.laneRec l).holds with node := false }] }).settleAndAnnounce
    (l := l) (b := s.laneRec l) (by rw [freed_policy]; exact sound_policy hs l)).cast (by rw [hch]; rfl) ?_⟩
  · unfold State.releaseLane
    rw [sharedLaneOrder_supervisor hn hp (.inr ⟨rfl, hm⟩), ifPass_pass hpass]
    dsimp only
    rw [checkCopy_sound hs]
    rfl
  · unfold State.freed
    dsimp only
    split <;> rfl

theorem settle_freed (s : State) (l : Lane) : (s.freed l).settle l =
    { s with
      lanes := { s.lanes with records := s.lanes.records.set l (s.released l) }
      dispense := if (s.laneRec l).holds.cash then
        { s.dispense with inDoubtLanes := s.dispense.inDoubtLanes.filter (· ≠ l) } else s.dispense } := by
  have hset : (s.freed l).settle l = (s.freed l).mapLane l fun _ => s.released l :=
    mapLane_congr (by rw [freed_laneRec, freed_policy]; rfl)
  have hrec : ∀ x, (s.lanes.records.set l x).set l (s.released l) = s.lanes.records.set l (s.released l) := fun x =>
    Vector.set_set ..
  rw [hset]
  unfold State.freed State.mapLane State.mapLanes State.leaveInDoubt State.mapDispense
  dsimp only
  split <;> simp [hrec]

/-! ## The half that an order breaks (R32) -/

theorem event_breakPair {p : PairHalf} (hp : s.screen.pairSlots[l] = some p) :
    Event s (s.setPair l none) (s.breakPair l) (brokenReports p) [s.stamped (brokenEntry p l)] := by
  rw [breakPair_some hp]
  exact ((Event.refl.mapScreen _).record _).sendCopied _ _ _ _

theorem send_reports (s : State) (d : Station) (tag : Nat) (r : Report) (h : s.link.used < 64) :
    (s.send d tag r).link.reports = s.link.reports ++ [reportItem d tag r] := by
  unfold State.send
  rw [if_pos h]
  rfl

/-- What the half broken leaves in the journal and the Report Queue, with room for it. -/
theorem breakPair_logged {p : PairHalf} (hp : s.screen.pairSlots[l] = some p) :
    (s.journal.reserved < s.journal.free → s.journal.ring ++ [⟨s.journal.nextSeq, s.now, s.stamped (brokenEntry p l)⟩] <+:
        (s.breakPair l).journal.ring)
      ∧ (s.link.used + 1 < 64 → s.link.reports ++ brokenReports p <+: (s.breakPair l).link.reports) := by
  rw [breakPair_some hp]
  refine ⟨fun hj => ?_, fun hu => ?_⟩
  · have hr : ((s.setPair l none).record (brokenEntry p l)).journal = s.journal.append s.now (s.stamped (brokenEntry p l)) := by
      rcases record_cases (s.setPair l none) (brokenEntry p l) with ⟨_, h⟩ | ⟨h, _⟩
      · rw [h]; rfl
      · exact absurd hj (Nat.not_lt.2 h)
    refine List.IsPrefix.trans ?_ touches_sendCopied.grows.records
    rw [hr, append_ring]
  · have hl : ((s.setPair l none).record (brokenEntry p l)).link = s.link := record_link _ _
    have hw := (writes_send ((s.setPair l none).record (brokenEntry p l)) (.console p.station) p.tag .brokenPair).trans
      (writes_send _ .supervisor p.tag .brokenPair)
    generalize (s.setPair l none).record (brokenEntry p l) = u at hl hw
    have hr := (send_reports u (.console p.station) p.tag .brokenPair (by rw [hl]; omega))
    unfold State.sendCopied
    dsimp only
    rw [send_reports, hr, hl, List.append_assoc]
    · exact List.prefix_rfl
    · simp only [Link.used, hr, send_held, hl, List.length_append, List.length_cons, List.length_nil] at hu ⊢
      omega

theorem onLane_notReady {b : Bool} {fs : List Step} {act : State → Lane → Answer}
    (h : s.mgmt.partState = .unconfigured) : s.onLane (stepPart b :: fs) n act = answer s .notReady := by
  unfold State.onLane
  rw [stepPart, checks_need, if_neg (by simp [h])]

/-- A broken pair leaves the part state. -/
theorem breakNamed_partState : (s.breakNamed n).mgmt.partState = s.mgmt.partState :=
  touches_breakNamed.framed .partState (by decide)

/-- Every order of R24's list that names a lane, from a console while the part is UNCONFIGURED: the half is broken, and the order is
refused NOT READY. -/
theorem laneOrders_notReady {h : Sender} {c : Console} {id : Nat} {order : Instr × OrderKind}
    (hst : h.station = .console c) (ho : order ∈ laneOrders h n id) :
    ∃ act, (∀ s, exec order.1 s = .next (s.takeOrder h order.2 act)) ∧
      ∀ s : State, s.mgmt.partState = .unconfigured → act s = answer (s.breakNamed n) .notReady := by
  have hshared : ∀ (s : State) b right act, s.mgmt.partState = .unconfigured →
      s.sharedLaneOrder h.station n b right act = answer (s.breakNamed n) .notReady := fun s b right act hs => by
    rw [hst]
    exact onLane_notReady (by rw [breakNamed_partState]; exact hs)
  have hconsole : ∀ (s : State) b right act, s.mgmt.partState = .unconfigured →
      s.consoleLaneOrder h.station n b true right act = answer (s.breakNamed n) .notReady := fun s b right act hs => by
    unfold State.consoleLaneOrder
    rw [hst, if_pos rfl]
    exact onLane_notReady (by rw [breakNamed_partState]; exact hs)
  simp only [laneOrders, List.mem_cons, List.not_mem_nil, or_false] at ho
  rcases ho with rfl | rfl | rfl | rfl | rfl | rfl | rfl | rfl
  · exact ⟨_, fun _ => rfl, fun s hs => hshared s _ _ _ hs⟩
  · exact ⟨_, fun _ => rfl, fun s hs => hconsole s _ _ _ hs⟩
  · exact ⟨_, fun _ => rfl, fun s hs => hshared s _ _ _ hs⟩
  · exact ⟨_, fun _ => rfl, fun s hs => hconsole s _ _ _ hs⟩
  all_goals exact ⟨_, fun _ => rfl, fun s hs => hshared s _ _ _ hs⟩

/-! ## Behind the broken pair an order only adds -/

theorem grows_ifPass {fs : List Step} {act : State → Answer} {ps : List Part} (hf : ∀ f ∈ fs, ∀ s, Touches ps s (f s).1)
    (ha : ∀ s, Grows s (act s).state) : Grows s (s.ifPass fs act).state :=
  ifPass_state (touches_checks hf).grows fun _ => (touches_checks hf).grows.trans (ha _)

/-- What holds of an order's state whether it is refused or its effect follows on the lane it names. -/
theorem onLane_state {Q : State → Prop} {fs : List Step} {act : State → Lane → Answer} (hf : Q (s.checks fs).1)
    (ha : ∀ l, numbered 6 n = some l → Q (act (s.checks fs).1 l).state) : Q (s.onLane fs n act).state := by
  unfold State.onLane
  split
  · next heq => rw [heq] at hf; exact hf
  · next heq =>
    rw [heq] at hf ha
    split
    · exact ha _ ‹_›
    · exact hf

theorem consoleLaneOrder_state {Q : State → Prop} {st : Station} {b : Bool} {right : Rights → Bool}
    {act : State → Console → Lane → Answer} (hq : ∀ t, Touches screenParts (s.breakNamed n) t → Q t)
    (ha : ∀ t c l, numbered 6 n = some l → Touches screenParts (s.breakNamed n) t → Q (act t c l).state) :
    Q (s.consoleLaneOrder st n b true right act).state := by
  unfold State.consoleLaneOrder
  rw [if_pos rfl]
  cases st with
  | supervisor => exact hq _ .refl
  | console c =>
    have hk := touches_checks (s := s.breakNamed n) (touches_consoleSteps (c := c) (b := b) (right := right) (n := n))
    exact onLane_state (hq _ hk) fun l hl => ha _ c l hl hk

theorem grows_planAndAdmit {p : Payer} {a : Nat} : Grows s (s.planAndAdmit l p a).state := by
  have hadmit : ∀ (s : State) plan, Grows s (s.admitDispense l p a plan).state := fun s plan => by
    unfold State.admitDispense
    split
    · exact .refl
    · next i _ =>
      have hk : ∀ (u : State) id x e, Touches admitParts u ((((((u.mapDispense fun d => { d with lastId := id }).chargeShift p.index
          a).mapRate p.station x).reserve).record e)) := fun u id x e =>
        touches_setLastId.mono.then touches_chargeShift |>.then touches_mapRate |>.then touches_reserve |>.then touches_record
      have hw : ∀ (u : State) w, Touches moneyParts u ((u.enqueueWork w).arbitrate) := fun u w =>
        touches_enqueueWork.mono.then touches_arbitrate
      exact (((Grows.of_framed framed_setDispense).trans (hk _ _ _ _).grows).trans grows_openTxn).trans (hw _ _).grows
  have hk := (touches_readForPlan (s := s)).grows
  unfold State.planAndAdmit
  dsimp only
  generalize s.readForPlan = u at hk
  generalize mixOf _ _ _ = x
  cases x
  case plan items => exact hk.trans (hadmit _ _)
  all_goals exact hk

theorem grows_dispenseSingle {h : Sender} {a : Nat} : Grows (s.breakNamed n) (s.dispenseSingle h n a).state := by
  unfold State.dispenseSingle
  refine consoleLaneOrder_state (fun t ht => ht.grows) fun t c l _ ht => ht.grows.trans ?_
  refine grows_ifPass (ps := limitParts) (fun f hf s => ?_) fun s => grows_planAndAdmit
  simp only [List.mem_append, List.mem_singleton] at hf
  rcases hf with (((hf | rfl) | hf) | rfl) | hf
  · exact touches_stepsAdmission f hf s
  · exact touches_need.mono
  · exact touches_checksLimits f hf s
  · exact touches_need.mono
  · exact touches_checksRoom f hf s

theorem grows_openDeposit {h : Sender} : Grows (s.breakNamed n) (s.openDeposit h n).state := by
  unfold State.openDeposit
  refine consoleLaneOrder_state (fun t ht => ht.grows) fun t c l _ ht => ht.grows.trans ?_
  refine grows_ifPass (ps := []) (fun f hf s => ?_) fun s => ?_
  · rcases List.mem_append.1 hf with hf | hf
    · exact touches_stepsAdmission f hf s
    · exact touches_checksDeposit f hf s
  · have hw : ∀ (u : State) w e, Touches moneyParts u (((u.enqueueWork w).record e).arbitrate) := fun u w e =>
      touches_enqueueWork.mono.then touches_record |>.then touches_arbitrate
    exact (((Grows.of_framed framed_setSession).trans touches_reserve.grows).trans grows_openTxn).trans (hw _ _ _).grows

/-- A DISPENSE SINGLE and every other order that names a lane, once the half is broken, only adds. -/
theorem laneOrders_grow {h : Sender} {a id : Nat} {cmd : Instr}
    (hc : cmd ∈ .dispenseSingle h n a :: (laneOrders h n id).map Prod.fst) :
    ∃ k act form, (∀ s, exec cmd s = .next (s.takeOrder h k act form)) ∧ ∀ s : State, Grows (s.breakNamed n) (act s).state := by
  simp only [laneOrders, List.map_cons, List.map_nil, List.mem_cons, List.not_mem_nil, or_false] at hc
  rcases hc with rfl | rfl | rfl | rfl | rfl | rfl | rfl | rfl | rfl
  · exact ⟨_, _, _, fun _ => rfl, fun s => grows_dispenseSingle⟩
  · exact ⟨_, _, _, fun _ => rfl, fun s => touches_cancelDispense.grows⟩
  · exact ⟨_, _, _, fun _ => rfl, fun s => grows_openDeposit⟩
  · exact ⟨_, _, _, fun _ => rfl, fun s => touches_closeDepositOrder.grows⟩
  · exact ⟨_, _, _, fun _ => rfl, fun s => touches_sendCarrier.grows⟩
  · exact ⟨_, _, _, fun _ => rfl, fun s => touches_recallCarrier.grows⟩
  · exact ⟨_, _, _, fun _ => rfl, fun s => touches_openLane.grows⟩
  · exact ⟨_, _, _, fun _ => rfl, fun s => touches_closeLane.grows⟩
  · exact ⟨_, _, _, fun _ => rfl, fun s => touches_releaseLane.grows⟩

/-- `t` adds to `s`, and a half in the lane's slot is one stored now with a tag and an amount. -/
structure Stores (s t : State) (l : Lane) (tag amount : Nat) : Prop where
  records : s.journal.ring <+: t.journal.ring
  reports : s.link.reports <+: t.link.reports
  slot : ∀ q ∈ t.screen.pairSlots[l], q.arrival = s.now ∧ q.tag = tag ∧ q.amount = amount

theorem Grows.stores {tag a : Nat} (h : Grows s t) (hp : s.screen.pairSlots[l] = none) : Stores s t l tag a :=
  ⟨h.records, h.reports, by rw [h.pairs l hp]; simp⟩

/-- A DISPENSE FIRST, once the half is broken, stores its own or none. -/
theorem dispenseFirst_stores {h : Sender} {a : Nat} (hn : numbered 6 n = some l) :
    Stores (s.breakNamed n) (s.dispenseFirst h n a).state l h.tag a := by
  have hnone : (s.breakNamed n).screen.pairSlots[l] = none := by rw [breakNamed_some hn]; exact breakPair_slot
  unfold State.dispenseFirst
  refine consoleLaneOrder_state (Q := fun t => Stores (s.breakNamed n) t l h.tag a) (fun t ht => ht.grows.stores hnone)
    fun t c l' hl' ht => ?_
  obtain rfl : l' = l := by rw [hn] at hl'; exact (Option.some.inj hl').symm
  have hsteps : ∀ f ∈ stepsAdmission l' ++ [checkAmount a, checkFirst l' a], ∀ s, Touches [] s (f s).1 := fun f hf s => by
    rcases List.mem_append.1 hf with hf | hf
    · exact touches_stepsAdmission f hf s
    · rcases List.mem_pair.1 hf with rfl | rfl <;> exact touches_need
  have hu := ht.then (ps := screenParts) (touches_checks (s := t) hsteps)
  refine ifPass_state (Q := fun t => Stores (s.breakNamed n) t l' h.tag a) (hu.grows.stores hnone) fun _ => ?_
  generalize (t.checks (stepsAdmission l' ++ [checkAmount a, checkFirst l' a])).1 = u at hu
  have hk := (hu.mono (ps := .screening :: screenParts)).then touches_checkScreening
  have hnow : u.checkScreening.now = (s.breakNamed n).now := hk.framed .time (by decide)
  dsimp only [answer]
  generalize u.checkScreening = v at hk hnow
  have hrec : ∀ (x : PairHalf) e, Touches [.journal, .sticky] (v.setPair l' (some x)) ((v.setPair l' (some x)).record e) :=
    fun x e => touches_record
  refine ⟨hk.grows.records.trans (hrec _ _).grows.records, hk.grows.reports.trans (hrec _ _).grows.reports, fun q hq => ?_⟩
  have hslot : ∀ (x : PairHalf) e, ((v.setPair l' (some x)).record e).screen.pairSlots[l'] = some x := fun x e => by
    rw [show ((v.setPair l' (some x)).record e).screen.pairSlots = (v.setPair l' (some x)).screen.pairSlots from
      (hrec x e).framed .pairSlots (by decide), setPair_slot, if_pos rfl]
  rw [hslot] at hq
  obtain rfl := Option.some.inj hq
  exact ⟨hnow, rfl, rfl⟩

end LaneOrders

/-- Settles O30: the three orders by the events they are, and the broken half by what every order on a lane adds behind it. -/
theorem laneOrdersChangeTheLane : Obligations.LaneOrdersChangeTheLane := by
  unfold Obligations.LaneOrdersChangeTheLane
  refine ⟨?openLane, ?closeLane, ?releaseLane, ?notReady, ?breaks, ?first⟩
  case openLane =>
    intro s h n l hs hh hm hn hp hc ht ho hst
    obtain ⟨a, ha, he⟩ := openLane_event (s := s.takeFrame h .openLane) hh.1 hs hm hn hp hc ht ho hst rfl
    obtain ⟨t, ht, hl, htold⟩ := takeOrder_event (act := fun s => s.openLane h.station n) hh.2 ha he
    exact ⟨t, congrArg _ ht, hl, htold⟩
  case closeLane =>
    intro s h n l hs hh hm hn hp hc ht
    obtain ⟨a, ha, he⟩ := closeLane_event (s := s.takeFrame h .closeLane) hh.1 hs hm hn hp hc ht
    obtain ⟨t, ht, hl, htold⟩ := takeOrder_event (act := fun s => s.closeLane h.station n) hh.2 ha he
    exact ⟨t, congrArg _ ht, hl, htold⟩
  case releaseLane =>
    intro s h n l hs hh hm hn hp hl hloop hcar
    obtain ⟨a, ha, he⟩ := releaseLane_event (s := s.takeFrame h .releaseLane) hh.1 hs hm hn hp hl hloop hcar
    rw [settle_freed] at he
    obtain ⟨t, ht, hl, htold⟩ := takeOrder_event (act := fun s => s.releaseLane h.station n) hh.2 ha he
    exact ⟨t, congrArg _ ht, hl, htold⟩
  case notReady =>
    intro s h c n id l p order hst hu hm hn hp ho
    obtain ⟨act, hexec, hact⟩ := laneOrders_notReady hst ho
    have he := event_breakPair (s := s.takeFrame h order.2) hp
    rw [← breakNamed_some hn] at he
    obtain ⟨t, ht, hl, htold⟩ := takeOrder_event (act := act) hu (hact _ hm) he
    exact ⟨t, (hexec s).trans (congrArg _ ht), hl, htold⟩
  case breaks =>
    intro s h n a id l p cmd hu hn hp hc
    obtain ⟨k, act, form, hexec, hact⟩ := laneOrders_grow hc
    have hg := (hact (s.takeFrame h k form)).trans (touches_respond (h := h) (k := k)
      (c := (act (s.takeFrame h k form)).code) (b := (act (s.takeFrame h k form)).body)).grows
    rw [breakNamed_some hn, ← takeOrder_room s h k act form hu] at hg
    obtain ⟨hj, hr⟩ := breakPair_logged (s := s.takeFrame h k form) hp
    refine ⟨_, hexec s, hg.pairs l breakPair_slot, fun hfree => (hj hfree).trans hg.records, fun hroom => ?_⟩
    exact (hr (by rw [takeFrame_used]; omega)).trans hg.reports
  case first =>
    intro s h n a l p hu hn hp
    have hst := dispenseFirst_stores (s := s.takeFrame h .dispense (spellsDispense n 1 a)) (h := h) (a := a) hn
    obtain ⟨hj, hr⟩ := breakPair_logged (s := s.takeFrame h .dispense (spellsDispense n 1 a)) hp
    rw [breakNamed_some hn] at hst
    have hnow : ((s.takeFrame h .dispense (spellsDispense n 1 a)).breakPair l).now = s.now :=
      touches_breakPair.framed .time (by decide)
    have ht := takeOrder_room s h .dispense (fun s => s.dispenseFirst h n a) (spellsDispense n 1 a) hu
    generalize (s.takeFrame h .dispense (spellsDispense n 1 a)).dispenseFirst h n a = ans at hst ht
    have hg := (touches_respond (s := ans.state) (h := h) (k := .dispense) (c := ans.code) (b := ans.body)).grows
    refine ⟨ans.state.respond h .dispense ans.code ans.body, congrArg Host.Outcome.next ht,
      fun q hq => hnow ▸ hst.slot q hq, fun hfree => ((hj hfree).trans hst.records).trans hg.records, fun hroom => ?_⟩
    exact ((hr (by rw [takeFrame_used]; omega)).trans hst.reports).trans hg.reports

end Sys2Proof.Machine
end

section
/-! PROOFS. WRITE ENTRY to the Lane Policy Table (O33). -/

namespace Sys2Proof.Machine

open Sys2Proof

-- One thread, so that the check's memory holds the stacks.
set_option Elab.async false

section LanePolicy

variable {s t c : State} {l : Lane}

/-- A state that differs in what was written and queued has the same lanes. -/
theorem LogsOnly.lanes (h : LogsOnly c t) : t.lanes = c.lanes := by rw [h]; rfl

theorem LogsOnly.laneRec (h : LogsOnly c t) (l : Lane) : t.laneRec l = c.laneRec l := by rw [h]; rfl

theorem LogsOnly.policy (h : LogsOnly c t) (l : Lane) : t.policy l = c.policy l := by rw [h]; rfl

/-- Only Lane Control differs, beside what was written and queued. -/
theorem LogsOnly.of_lanes (h : LogsOnly c t) (hc : c = { s with lanes := c.lanes }) :
    t = { s.logged t with lanes := t.lanes } := by
  rw [h.lanes]
  unfold LogsOnly at h
  rw [hc] at h
  exact h

theorem setCopy_records (k : LaneControl) (p : Profile) (l : Lane) (x : PolicyCopy) :
    (k.setCopy p l x).records = k.records ∧ (k.setCopy p l x).writeSelect = k.writeSelect
      ∧ (k.setCopy p l x).operateSelect = k.operateSelect := by
  cases p <;> exact ⟨rfl, rfl, rfl⟩

/-- The lane with its written copy. -/
def State.withCopy (s : State) (p : Profile) (l : Lane) (x : PolicyCopy) : State := s.mapLanes fun k => k.setCopy p l x

theorem withCopy_laneRec (s : State) (p : Profile) (l m : Lane) (x : PolicyCopy) :
    (s.withCopy p l x).laneRec m = s.laneRec m := by
  unfold State.withCopy State.laneRec
  rw [State.mapLanes_lanes, (setCopy_records s.lanes p l x).1]

theorem withCopy_policy (s : State) (l : Lane) (x : PolicyCopy) :
    (s.withCopy (s.laneRec l).profile l x).policy l = x := by
  unfold State.policy
  rw [withCopy_laneRec]
  unfold State.withCopy
  rw [State.mapLanes_lanes, setCopy_copy, if_pos ⟨rfl, rfl⟩]

/-- What a policy write leaves: the copy, and the lane settled by it if it is the one in force. -/
def State.policyWritten (s : State) (p : Profile) (l : Lane) (x : PolicyCopy) : State :=
  if (s.laneRec l).profile = p then (s.withCopy p l x).settle l else s.withCopy p l x

theorem policyWritten_records {p : Profile} {x : PolicyCopy} (hx : x.check = {}) :
    (s.policyWritten p l x).lanes.records = s.lanes.records.set l { s.laneRec l with
      state := if (s.laneRec l).profile = p then settledState (s.laneRec l) x.isOpen else (s.laneRec l).state } := by
  have hset : ∀ u : State, (u.settle l).lanes.records =
      u.lanes.records.set l { u.laneRec l with state := settledState (u.laneRec l) (u.policy l).readsOpen } := fun _ => rfl
  have hrec : (s.withCopy p l x).lanes.records = s.lanes.records := (setCopy_records s.lanes p l x).1
  unfold State.policyWritten
  split
  · next h =>
    subst h
    rw [hset, withCopy_policy, withCopy_laneRec, hrec, readsOpen_ok hx]
  · rw [hrec]
    exact (Vector.set_getElem_self _).symm

theorem policyWritten_rest {p : Profile} {x : PolicyCopy} :
    (∀ q m, (s.policyWritten p l x).lanes.copy q m = if q = p ∧ m = l then x else s.lanes.copy q m)
      ∧ (s.policyWritten p l x).lanes.writeSelect = s.lanes.writeSelect
      ∧ (s.policyWritten p l x).lanes.operateSelect = s.lanes.operateSelect := by
  have hcopy : ∀ q m, (s.withCopy p l x).lanes.copy q m = if q = p ∧ m = l then x else s.lanes.copy q m := fun q m =>
    setCopy_copy ..
  have hsel := (setCopy_records s.lanes p l x).2
  unfold State.policyWritten
  split
  · exact ⟨hcopy, hsel⟩
  · exact ⟨hcopy, hsel⟩

theorem policyWritten_event {p : Profile} {x : PolicyCopy} (hx : x.check = {}) (e : Entry) :
    ∃ a, (if (s.laneRec l).profile = p then ((s.withCopy p l x).record e).settleAndAnnounce l (s.laneRec l)
        else (s.withCopy p l x).record e) = a ∧
      Event s (s.policyWritten p l x) a
        (if ((s.policyWritten p l x).laneRec l).state = (s.laneRec l).state then []
          else (s.policyWritten p l x).toServing l (laneReportOf l ((s.policyWritten p l x).laneRec l))
            (laneReportOf l ((s.policyWritten p l x).laneRec l))) [s.stamped e] := by
  refine ⟨_, rfl, ?_⟩
  have he : Event s (s.withCopy p l x) ((s.withCopy p l x).record e) [] [s.stamped e] := (Event.refl.mapLanes _).record e
  by_cases h : (s.laneRec l).profile = p
  · subst h
    have hr : ((s.withCopy (s.laneRec l).profile l x).settle l).laneRec l =
        { s.laneRec l with state := settledState (s.laneRec l) x.readsOpen } := by
      rw [settle_laneRec, if_pos rfl, withCopy_policy, withCopy_laneRec]
    unfold State.policyWritten
    rw [if_pos rfl, if_pos rfl]
    refine (he.settleAndAnnounce (by rw [withCopy_policy]; exact hx)).cast ?_ rfl
    rw [List.nil_append, State.announced, hr]
    dsimp only
    by_cases hst : settledState (s.laneRec l) x.readsOpen = (s.laneRec l).state
    · simp [hst]
    · simp [hst]
  · unfold State.policyWritten
    rw [if_neg h, if_neg h]
    exact he.cast (by rw [withCopy_laneRec, if_pos rfl]) rfl

end LanePolicy

/-- Settles O33: the write is one event, whose core is the copy written and its lane settled. -/
theorem lanePolicyWriteStoresTheCopy : Obligations.LanePolicyWriteStoresTheCopy := by
  unfold Obligations.LanePolicyWriteStoresTheCopy
  intro s h w l hs hh hn hsl hdt hdc hsv
  have hok : policyWriteOk w = true := by
    simp only [policyWriteOk, Bool.and_eq_true, decide_eq_true_eq, List.all_eq_true]
    exact ⟨⟨hsl.1, hsl.2, hdt.1, hdt.2, hdc⟩, hsv⟩
  obtain ⟨a, ha, he⟩ := policyWritten_event (s := s.takeFrame h .writeEntry) (l := l) (p := s.lanes.writeSelect)
    (x := policyWriteCopy w) rfl
    { kind := .tableWrite, lane := numberOf l
      facts := [.table (.lanePolicy (numberOf l) (some s.lanes.writeSelect))] }
  have hact : (s.takeFrame h .writeEntry).writeLanePolicy w = ⟨a, .done, .empty⟩ := by
    unfold State.writeLanePolicy
    rw [hn]
    dsimp only
    rw [if_pos hok, ← ha]
    rfl
  obtain ⟨t, ht, hl, htold⟩ := takeMgmt_event (act := fun s => s.writeLanePolicy w) hh hact he
  have hrec := policyWritten_records (s := s.takeFrame h .writeEntry) (l := l) (p := s.lanes.writeSelect)
    (x := policyWriteCopy w) rfl
  obtain ⟨hcopy, hwsel, hosel⟩ := policyWritten_rest (s := s.takeFrame h .writeEntry) (l := l) (p := s.lanes.writeSelect)
    (x := policyWriteCopy w)
  refine ⟨t, congrArg _ ht, ?_, fun p k hpk => ?_, ?_, ?_, ?_, ?_, ?_⟩
  · rw [hl.lanes, hcopy, if_pos ⟨rfl, rfl⟩]
    rfl
  · rw [hl.lanes, hcopy, if_neg (by tauto)]
    rfl
  · rw [hl.lanes, hwsel]; rfl
  · rw [hl.lanes, hosel]; rfl
  · rw [hl.lanes, hrec]; rfl
  · refine LogsOnly.of_lanes (s := s.takeFrame h .writeEntry) hl ?_
    unfold State.policyWritten
    split <;> rfl
  · rw [hl.laneRec, toServing_congr (hl.policy l)]
    exact htold

end Sys2Proof.Machine
end

section
/-! SUPPORT. Whole blocks that an operation leaves as they were, read off the parts it can touch; and the lanes taken in order. -/

namespace Sys2Proof.Machine

open Sys2Proof

-- One thread, so that the check's memory holds the stacks.
set_option Elab.async false

/-! ## Blocks left as they were -/

section Blocks

variable {ps : List Part} {s t : State}

/-- No part of one list is in another. -/
def apart (qs ps : List Part) : Bool := qs.all fun q => !ps.contains q

theorem not_mem_of_apart {qs : List Part} (h : apart qs ps = true) {p : Part} (hp : p ∈ qs) : p ∉ ps := by
  simpa using List.all_eq_true.1 h p hp

theorem Framed.screen (h : Framed ps s t)
    (hd : apart [.consoles, .authority, .pairSlots, .managementSlot, .rateWindows, .screening] ps = true := by decide) :
    t.screen = s.screen :=
  have k := fun p hp => h p (not_mem_of_apart hd hp)
  (OrderScreen.mk.injEq ..).mpr ⟨k .consoles (by decide), k .authority (by decide), k .pairSlots (by decide), k .managementSlot (by decide), k .rateWindows (by decide), k .screening (by decide)⟩

theorem Framed.dispense (h : Framed ps s t)
    (hd : apart [.records, .lastId, .lastTag, .inDoubtLanes, .presenter] ps = true := by decide) :
    t.dispense = s.dispense :=
  have k := fun p hp => h p (not_mem_of_apart hd hp)
  (DispenseControl.mk.injEq ..).mpr ⟨k .records (by decide), k .lastId (by decide), k .lastTag (by decide), k .inDoubtLanes (by decide), k .presenter (by decide)⟩

theorem Framed.cash (h : Framed ps s t)
    (hd : apart [.denominations, .cassettes, .recycler, .condition, .workQueue, .exchange, .planner] ps = true := by decide) :
    t.cash = s.cash :=
  have k := fun p hp => h p (not_mem_of_apart hd hp)
  (CashPosition.mk.injEq ..).mpr ⟨k .denominations (by decide), k .cassettes (by decide), k .recycler (by decide), k .condition (by decide), k .workQueue (by decide), k .exchange (by decide), k .planner (by decide)⟩

theorem Framed.deposit (h : Framed ps s t)
    (hd : apart [.slots, .depositSetting] ps = true := by decide) :
    t.deposit = s.deposit :=
  have k := fun p hp => h p (not_mem_of_apart hd hp)
  (DepositControl.mk.injEq ..).mpr ⟨k .slots (by decide), k .depositSetting (by decide)⟩

theorem Framed.tube (h : Framed ps s t)
    (hd : apart [.carriers, .requests, .blower, .tubeSetting] ps = true := by decide) :
    t.tube = s.tube :=
  have k := fun p hp => h p (not_mem_of_apart hd hp)
  (TubeScheduler.mk.injEq ..).mpr ⟨k .carriers (by decide), k .requests (by decide), k .blower (by decide), k .tubeSetting (by decide)⟩

theorem Framed.envelope (h : Framed ps s t) (hd : apart [.captures, .envelopes, .depository, .safe] ps = true := by decide) :
    t.envelope = s.envelope :=
  have k := fun p hp => h p (not_mem_of_apart hd hp)
  (EnvelopeControl.mk.injEq ..).mpr ⟨k .captures (by decide), congrArg Prod.fst (k .envelopes (by decide)),
    congrArg Prod.snd (k .envelopes (by decide)), k .depository (by decide), k .safe (by decide)⟩

theorem Framed.alarm (h : Framed ps s t) (hd : apart [.loops, .latches] ps = true := by decide) : t.alarm = s.alarm :=
  have k := fun p hp => h p (not_mem_of_apart hd hp)
  have hl := k .latches (by decide)
  (AlarmSupervisor.mk.injEq ..).mpr ⟨k .loops (by decide), congrArg (·.1.1) hl, congrArg (·.1.2) hl, congrArg (·.2.1) hl,
    congrArg (·.2.2) hl⟩

theorem Framed.bus (h : Framed ps s t)
    (hd : apart [.modules, .outgoing, .resend, .outstanding, .line, .restores, .busSetting] ps = true := by decide) :
    t.bus = s.bus :=
  have k := fun p hp => h p (not_mem_of_apart hd hp)
  have hl := k .line (by decide)
  (BusController.mk.injEq ..).mpr ⟨k .modules (by decide), k .outgoing (by decide), k .resend (by decide),
    k .outstanding (by decide), congrArg Prod.fst hl, k .restores (by decide), k .busSetting (by decide),
    congrArg Prod.snd hl⟩

/-- The waiting commands and Management, but for what an event may add. -/
theorem Framed.unlogged (h : Framed ps s t) (hd : apart [.pending, .partState, .goPending, .time] ps = true := by decide) :
    t = { s.logged t with
      screen := t.screen, lanes := t.lanes, dispense := t.dispense, cash := t.cash, deposit := t.deposit
      envelope := t.envelope, tube := t.tube, alarm := t.alarm, bus := t.bus } :=
  have k := fun p hp => h p (not_mem_of_apart hd hp)
  have hm : t.mgmt = { s.mgmt with sticky := t.mgmt.sticky } :=
    (Management.mk.injEq ..).mpr ⟨k .partState (by decide), k .time (by decide), k .goPending (by decide), rfl⟩
  (State.mk.injEq ..).mpr ⟨k .pending (by decide), rfl, rfl, rfl, rfl, rfl, rfl, rfl, rfl, rfl, rfl, rfl, hm⟩

theorem Framed.operateSelect (h : Framed ps s t) (hp : .operateSelect ∉ ps := by decide) :
    t.lanes.operateSelect = s.lanes.operateSelect := h .operateSelect hp

theorem Framed.writeSelect (h : Framed ps s t) (hp : .writeSelect ∉ ps := by decide) :
    t.lanes.writeSelect = s.lanes.writeSelect := h .writeSelect hp

theorem Framed.now (h : Framed ps s t) (hp : .time ∉ ps := by decide) : t.now = s.now := h .time hp

/-- Lane Control but for its records, where no copy lost or kept a stored field. -/
theorem Framed.policiesKept (h : Framed ps s t) (hp : apart [.policies, .writeSelect, .operateSelect] ps = true := by decide)
    (hs : s.soundTables = true → t.lanes = { s.lanes with records := t.lanes.records }) : PoliciesKept s t := by
  have k := fun p hq => h p (not_mem_of_apart hp hq)
  refine ⟨k .writeSelect (by decide), k .operateSelect (by decide), fun p l => ?_, hs⟩
  have hc : ({ t.lanes.copy p l with check := {} } : PolicyCopy) = { s.lanes.copy p l with check := {} } :=
    congrFun (congrFun (k .policies (by decide)) p) l
  exact congrArg (fun c : PolicyCopy => { c with check := (t.lanes.copy p l).check }) hc

end Blocks

/-! ## The lanes taken in order -/

section Turns

variable {s : State}

/-- What holds before and after each turn holds after all. -/
theorem forEach_preserves {α : Type} {f : State → α → State} {I : State → Prop} (hi : ∀ s a, I s → I (f s a)) (ls : List α)
    (hs : I s) : I (s.forEach ls f) := by
  induction ls generalizing s with
  | nil => exact hs
  | cons a ls ih => exact ih (hi s a hs)

/-- What one of some things taken in order is left with is what its own turn leaves, in a state that still has it as it was. -/
theorem forEach_turn_of {α β : Type} {f : State → α → State} {V : α → State → β} {I : State → Prop}
    (hi : ∀ s a, I s → I (f s a)) (hother : ∀ s a b, b ≠ a → V b (f s a) = V b s) (hs : I s) {ls : List α} (hn : ls.Nodup)
    {a : α} (ha : a ∈ ls) : ∃ u, I u ∧ V a u = V a s ∧ V a (s.forEach ls f) = V a (f u a) := by
  have after : ∀ (ls : List α), a ∉ ls → ∀ s, V a (s.forEach ls f) = V a s := by
    intro ls
    induction ls with
    | nil => exact fun _ _ => rfl
    | cons b ls ih =>
      intro hl s
      obtain ⟨hb, hl⟩ := List.ne_and_not_mem_of_not_mem_cons hl
      exact (ih hl (f s b)).trans (hother s b a hb)
  induction ls generalizing s with
  | nil => exact absurd ha (by simp)
  | cons b ls ih =>
    obtain ⟨hb, hn⟩ := List.nodup_cons.1 hn
    by_cases hab : a = b
    · subst hab
      exact ⟨s, hs, rfl, after ls hb (f s a)⟩
    · obtain ⟨u, hu, hv, hf⟩ := ih (hi s b hs) hn (by simpa [hab] using ha)
      exact ⟨u, hu, hv.trans (hother s b a hab), hf⟩

/-- The same for all of a kind numbered from 1. -/
theorem forEach_turn {n : Nat} {β : Type} {f : State → Fin n → State} {V : Fin n → State → β} {I : State → Prop}
    (hi : ∀ s l, I s → I (f s l)) (hother : ∀ s l m, m ≠ l → V m (f s l) = V m s) (hs : I s) (l : Fin n) :
    ∃ u, I u ∧ V l u = V l s ∧ V l (s.forEach (List.finRange n) f) = V l (f u l) :=
  forEach_turn_of hi hother hs (List.nodup_finRange n) (List.mem_finRange l)

end Turns

end Sys2Proof.Machine
end

section
/-! PROOFS. SELECT PROFILE (O39), and events that take the lanes in order. -/

namespace Sys2Proof.Machine

open Sys2Proof

-- One thread, so that the check's memory holds the stacks.
set_option Elab.async false

/-! ## The lanes taken in order -/

section Lanes

variable {s c t : State} {items : List Item} {records : List Entry}

/-- What each lane's turn changes of that lane alone, all the turns change of every lane. -/
theorem forEach_lanes {β : Type} {f : State → Lane → State} {V : Lane → State → β} {g : Lane → β → β} {I : State → Prop}
    (hi : ∀ s l, I s → I (f s l)) (hown : ∀ s l, I s → V l (f s l) = g l (V l s))
    (hother : ∀ s l m, m ≠ l → V m (f s l) = V m s) (hs : I s) (l : Lane) :
    V l (s.forEach (List.finRange 6) f) = g l (V l s) := by
  obtain ⟨u, hu, hv, hf⟩ := forEach_turn hi hother hs l
  rw [hf, hown u l hu, hv]

/-- A Lane Record set. -/
def State.setLane (s : State) (l : Lane) (r : LaneRecord) : State := s.mapLane l fun _ => r

theorem setLane_laneRec (s : State) (l m : Lane) (r : LaneRecord) :
    (s.setLane l r).laneRec m = if m = l then r else s.laneRec m := mapLane_laneRec ..

/-- Every Lane Record set. -/
def State.setLanes (s : State) (new : Lane → LaneRecord) : State :=
  s.mapLanes fun k => { k with records := Vector.ofFn new }

theorem setLanes_laneRec (s : State) (new : Lane → LaneRecord) (l : Lane) : (s.setLanes new).laneRec l = new l := by
  simp [State.setLanes, State.laneRec]

theorem foldl_setLane (ls : List Lane) (new : Lane → LaneRecord) (c : State) :
    ls.foldl (fun c l => c.setLane l (new l)) c =
      c.mapLanes fun k => { k with records := Vector.ofFn fun m => if m ∈ ls then new m else k.records[m] } := by
  induction ls generalizing c with
  | nil =>
    have hv : (Vector.ofFn fun m : Lane => c.lanes.records[m]) = c.lanes.records := by ext i hi; simp
    simp only [List.foldl_nil, List.not_mem_nil, if_false, State.mapLanes, hv]
  | cons l ls ih =>
    have hv : (Vector.ofFn fun m : Lane => if m ∈ ls then new m else (c.lanes.records.set l (new l))[m]) =
        Vector.ofFn fun m : Lane => if m ∈ l :: ls then new m else c.lanes.records[m] := by
      congr 1
      funext m
      have hval : l.val = m.val ↔ m = l := by rw [Fin.ext_iff, eq_comm]
      simp only [Fin.getElem_fin, Vector.getElem_set, hval, List.mem_cons]
      by_cases hm : m ∈ ls <;> by_cases hl : m = l <;> simp [hm, hl]
    rw [List.foldl_cons, ih]
    change { c with lanes := { c.lanes with records := Vector.ofFn fun m : Lane =>
        if m ∈ ls then (new m) else ((c.lanes.records.set l (new l))[m]) } } = _
    rw [hv]
    rfl

/-- Events that each set one lane's record, one after the other, in lane order. -/
theorem Event.forEachLane {f : State → Lane → State} {new : Lane → LaneRecord} {R : Lane → List Item}
    {E : Lane → List Entry} {I : State → Prop} (hi : ∀ c l, I c → I (c.setLane l (new l)))
    (hstep : ∀ {c t items records} l, Event s c t items records → c.laneRec l = s.laneRec l → I c →
      Event s (c.setLane l (new l)) (f t l) (items ++ R l) (records ++ E l))
    (h : Event s c t items records) (hc : ∀ l, c.laneRec l = s.laneRec l) (hI : I c) :
    Event s (c.setLanes new) (t.forEach (List.finRange 6) f) (items ++ (List.finRange 6).flatMap R)
      (records ++ (List.finRange 6).flatMap E) := by
  have key : ∀ (ls : List Lane), ls.Nodup → ∀ {c t items records}, Event s c t items records →
      (∀ l ∈ ls, c.laneRec l = s.laneRec l) → I c →
      Event s (ls.foldl (fun c l => c.setLane l (new l)) c) (t.forEach ls f) (items ++ ls.flatMap R)
        (records ++ ls.flatMap E) := by
    intro ls
    induction ls with
    | nil => exact fun _ _ _ _ _ h _ _ => h.cast (List.append_nil _).symm (List.append_nil _).symm
    | cons m ls ih =>
      intro hn c t items records h hc hI
      obtain ⟨hm, hn⟩ := List.nodup_cons.1 hn
      have hrest := ih hn (hstep m h (hc m (by simp)) hI) (fun l hl => ?_) (hi c m hI)
      · exact hrest.cast (by simp) (by simp)
      · have hlm : l ≠ m := fun he => hm (he ▸ hl)
        rw [setLane_laneRec, if_neg hlm]
        exact hc l (by simp [hl])
  have hfold : (List.finRange 6).foldl (fun c l => c.setLane l (new l)) c = c.setLanes new := by
    rw [foldl_setLane]
    unfold State.setLanes
    simp only [List.mem_finRange, if_true]
  rw [← hfold]
  exact key _ (List.nodup_finRange 6) h (fun l _ => hc l) hI

end Lanes

/-! ## SELECT PROFILE (R6) -/

section Select

variable {s c t : State} {l : Lane} {items : List Item} {records : List Entry}

/-- An adoption sets the lane's profile and clears its flag (R5). -/
theorem adopt_profile (s : State) (l m : Lane) :
    (((s.adopt l).laneRec m).profile, ((s.adopt l).laneRec m).switchPending) =
      if m = l then (s.lanes.operateSelect, false) else ((s.laneRec m).profile, (s.laneRec m).switchPending) := by
  have hbase : ∀ e, (((s.mapLane l fun r => { r with profile := s.lanes.operateSelect, switchPending := false }).record
      e).checkCopy s.lanes.operateSelect l).laneRec m =
      if m = l then { s.laneRec l with profile := s.lanes.operateSelect, switchPending := false } else s.laneRec m :=
    fun e => by
      rw [touches_checkCopy.framed.laneRec m, touches_record.framed.laneRec m, mapLane_laneRec]
  unfold State.adopt
  dsimp only
  split
  · rw [hbase]
    split <;> rfl
  · rw [mapLane_laneRec]
    split
    · next h => subst h; rw [hbase, if_pos rfl]
    · next h => rw [hbase, if_neg h]

/-- What SELECT PROFILE OPERATE leaves of a lane's profile and flag, once the transaction it holds is known (R6). -/
def operatedTo (p : Profile) (x : Profile × Bool × Option Txn) : Profile × Bool × Option Txn :=
  if x.1 = p then (x.1, false, x.2.2) else if x.2.2 = none then (p, false, x.2.2) else (x.1, true, x.2.2)

/-- A lane's profile, flag and transaction. -/
def State.profileOf (s : State) (l : Lane) : Profile × Bool × Option Txn :=
  ((s.laneRec l).profile, (s.laneRec l).switchPending, (s.laneRec l).txn)

theorem profileOf_framed {ps : List Part} (h : Framed ps s t) (hp : .profiles ∉ ps := by decide)
    (ht : .txns ∉ ps := by decide) : t.profileOf l = s.profileOf l := by
  unfold State.profileOf
  rw [h.profile l hp, h.switchPending l hp, h.txn l ht]

theorem operateLane_profileOf (s : State) (l m : Lane) :
    (s.operateLane l).profileOf m =
      if m = l then operatedTo s.lanes.operateSelect (s.profileOf l) else s.profileOf m := by
  have hann : ∀ (u : State) b, (u.announce l b).profileOf m = u.profileOf m := fun u b =>
    profileOf_framed touches_announce.framed
  have hflag : ∀ b, (s.mapLane l fun r => { r with switchPending := b }).profileOf m =
      if m = l then ((s.laneRec l).profile, b, (s.laneRec l).txn) else s.profileOf m := fun b => by
    unfold State.profileOf
    rw [mapLane_laneRec]
    split <;> rfl
  unfold State.operateLane
  dsimp only
  by_cases hp : (s.laneRec l).profile = s.lanes.operateSelect
  · have hto : operatedTo s.lanes.operateSelect (s.profileOf l) = ((s.laneRec l).profile, false, (s.laneRec l).txn) :=
      if_pos hp
    rw [if_pos hp, hann, hflag, hto]
  · rw [if_neg hp]
    by_cases ht : (s.laneRec l).txn = none
    · have hto : operatedTo s.lanes.operateSelect (s.profileOf l) = (s.lanes.operateSelect, false, (s.laneRec l).txn) :=
        (if_neg hp).trans (if_pos ht)
      have hx := adopt_profile s l m
      have htx := (touches_adopt ht).framed.txn m
      rw [if_pos ht, hann, hto]
      unfold State.profileOf
      rw [htx]
      split at hx
      · next h => subst h; rw [if_pos rfl]; simp_all
      · next h => rw [if_neg h]; simp_all
    · have hto : operatedTo s.lanes.operateSelect (s.profileOf l) = ((s.laneRec l).profile, true, (s.laneRec l).txn) :=
        (if_neg hp).trans (if_neg ht)
      rw [if_neg ht, hann, hflag, hto]

theorem touches_operateLanes (s : State) :
    Touches (.profiles :: announceParts) s (s.forEach (List.finRange 6) State.operateLane) :=
  touches_forEach (fun _ _ => touches_operateLane) _ _

theorem operateLanes_select (s : State) :
    (s.forEach (List.finRange 6) State.operateLane).lanes.operateSelect = s.lanes.operateSelect :=
  (touches_operateLanes s).framed.operateSelect

/-- The lanes after SELECT PROFILE OPERATE, whatever the tables. -/
theorem operateLanes_profileOf (s : State) (l : Lane) :
    (s.forEach (List.finRange 6) State.operateLane).profileOf l = operatedTo s.lanes.operateSelect (s.profileOf l) := by
  refine forEach_lanes (V := fun l s => s.profileOf l) (g := fun _ => operatedTo s.lanes.operateSelect)
    (I := fun u => u.lanes.operateSelect = s.lanes.operateSelect) (fun u l hu => ?_) (fun u l hu => ?_) (fun u l m hm => ?_)
    rfl l
  · exact (touches_operateLane.framed .operateSelect (by decide)).trans hu
  · rw [operateLane_profileOf, if_pos rfl, hu]
  · rw [operateLane_profileOf, if_neg hm]

/-! ### With every table OK -/

/-- A lane's turn, its copies OK: the record of an adoption and the report of the change. -/
theorem Event.operateLane {u : State} (hu : u.soundTables = true) (h : Event u c t items records)
    (hc : c.laneRec l = u.laneRec l) (hcopy : ∀ q m, c.lanes.copy q m = u.lanes.copy q m) :
    Event u (c.setLane l (u.operated c.lanes.operateSelect l)) (t.operateLane l)
      (items ++ (c.setLane l (u.operated c.lanes.operateSelect l)).announced l (u.laneRec l))
      (records ++ (if (u.laneRec l).profile ≠ c.lanes.operateSelect ∧ (u.laneRec l).txn = none then
        [c.stamped { kind := .profileSwitch, lane := numberOf l
                     facts := [.profiles (u.laneRec l).profile c.lanes.operateSelect] }] else [])) := by
  have hr : t.laneRec l = u.laneRec l := by rw [h.state.laneRec, hc]
  have ho : t.lanes.operateSelect = c.lanes.operateSelect := by rw [h.state.lanes]
  have hok : ∀ r, ((c.setLane l r).policy l).check = {} := fun r => by
    unfold State.policy
    rw [show (c.setLane l r).lanes.copy = c.lanes.copy from rfl, hcopy]
    exact sound_copy hu _ _
  have hset : ∀ f : LaneRecord → LaneRecord, c.mapLane l f = c.setLane l (f (u.laneRec l)) := fun f =>
    mapLane_congr (by rw [hc])
  unfold State.operateLane State.operated
  dsimp only
  rw [hr, ho]
  by_cases hp : (u.laneRec l).profile = c.lanes.operateSelect
  · rw [if_pos hp, if_pos hp, if_neg (by simp [hp])]
    have hm := h.mapLane l fun r => { r with switchPending := false }
    rw [hset] at hm
    exact (hm.announce (hok _) fun hch => absurd hch (by rw [setLane_laneRec, if_pos rfl]; simp)).cast rfl
      (List.append_nil _).symm
  · rw [if_neg hp, if_neg hp]
    by_cases ht : (u.laneRec l).txn = none
    · rw [if_pos ht, if_pos ht, if_pos (And.intro hp ht)]
      have hm := (h.mapLane l fun r => { r with profile := c.lanes.operateSelect, switchPending := false }).record
        { kind := .profileSwitch, lane := numberOf l
          facts := [.profiles (u.laneRec l).profile c.lanes.operateSelect] }
      have hck : ((c.mapLane l fun r => { r with profile := c.lanes.operateSelect, switchPending := false }).lanes.copy
          c.lanes.operateSelect l).check = {} := (hcopy _ l).symm ▸ sound_copy hu _ _
      unfold State.adopt
      dsimp only
      rw [hr, ho, checkCopy_ok (by rw [hm.state.lanes]; exact hck), hm.state.lanes, readsOpen_ok hck]
      have hopen : ((c.mapLane l fun r => { r with profile := c.lanes.operateSelect, switchPending := false }).lanes.copy
          c.lanes.operateSelect l).isOpen = (u.lanes.copy c.lanes.operateSelect l).isOpen := by rw [← hcopy]; rfl
      rw [hopen]
      by_cases hop : (u.lanes.copy c.lanes.operateSelect l).isOpen = true
      · rw [if_pos hop, if_pos hop]
        rw [hset] at hm
        exact (hm.announce (hok _) fun hch => absurd hch (by rw [setLane_laneRec, if_pos rfl]; simp)).cast rfl rfl
      · rw [if_neg hop, if_neg hop]
        have hm := hm.mapLane l fun r => { r with state := .closed }
        rw [mapLane_mapLane, hset] at hm
        exact (hm.announce (hok _) fun _ => by
          rw [setLane_laneRec, if_pos rfl]; exact if_pos rfl).cast rfl rfl
    · rw [if_neg ht, if_neg ht, if_neg (fun hx => ht hx.2)]
      have hm := h.mapLane l fun r => { r with switchPending := true }
      rw [hset] at hm
      exact (hm.announce (hok _) fun hch => absurd hch (by rw [setLane_laneRec, if_pos rfl]; simp)).cast rfl
        (List.append_nil _).symm

/-- The lanes' reports, as the statement reads them off the state that is left. -/
theorem announced_operated {p : Profile} (ht : t.laneRec l = c.laneRec l) (hp : t.policy l = c.policy l)
    (hc : c.laneRec l = s.operated p l) : c.announced l (s.laneRec l) = operatedReports s t l := by
  have hh : (s.operated p l).holds = (s.laneRec l).holds := by
    unfold State.operated
    dsimp only
    split
    · rfl
    · split <;> rfl
  unfold State.announced operatedReports
  dsimp only
  rw [ht, hc, hh, toServing_congr hp]
  simp

theorem selectOperate_state (s : State) (p : Profile) : (s.selectOperate (some p)).state =
    (s.mapLanes fun k => { k with operateSelect := p }).forEach (List.finRange 6) State.operateLane := by
  dsimp only [State.selectOperate, answer]

/-- SELECT PROFILE OPERATE answered, with the profile and flag of every lane. -/
theorem selectOperate_answered (h : Sender) (p : Profile) (hh : s.supervised h) :
    ∃ t, s.takeMgmt h .selectProfile (fun s => s.selectOperate (some p)) = t ∧ Answered t h .selectProfile .done .empty
      ∧ t.lanes.operateSelect = p ∧ ∀ l, t.profileOf l = operatedTo p (s.profileOf l) := by
  have hs : ∀ u : State, (u.selectOperate (some p)).state.lanes.operateSelect = p := fun u => by
    rw [selectOperate_state, operateLanes_select]
    rfl
  have hl : ∀ (u : State) l, (u.selectOperate (some p)).state.profileOf l = operatedTo p (u.profileOf l) := fun u l => by
    rw [selectOperate_state, operateLanes_profileOf]
    rfl
  refine ⟨_, takeMgmt_supervised s h _ _ hh, answered_respond .., ?_, fun l => ?_⟩
  · rw [(touches_respond (s := (State.selectOperate _ _).state)).framed.operateSelect, hs]
  · rw [profileOf_framed (touches_respond (s := (State.selectOperate _ _).state)).framed, hl]
    rfl

/-- Lane Control once every lane has had its turn, its copies OK (R6). -/
def State.operatedLanes (s : State) (p : Profile) : State :=
  (s.mapLanes fun k => { k with operateSelect := p }).setLanes (s.operated p)

/-- With every table OK, the lanes' turns as one event. -/
theorem Event.operateLanes {p : Profile} (hs : s.soundTables = true) (h : Event s s t [] []) {u : State}
    (hu : u.lanes = (s.operatedLanes p).lanes) :
    Event s (s.operatedLanes p) ((t.mapLanes fun k => { k with operateSelect := p }).forEach (List.finRange 6) State.operateLane)
      ((List.finRange 6).flatMap (operatedReports s u)) ((List.finRange 6).filterMap (s.operatedRecord p)) := by
  have hrec : ∀ l, u.laneRec l = s.operated p l := fun l => by
    rw [show u.laneRec l = (s.operatedLanes p).laneRec l by unfold State.laneRec; rw [hu]]
    exact setLanes_laneRec ..
  have hall := (h.mapLanes fun k => { k with operateSelect := p }).forEachLane (f := State.operateLane)
    (new := s.operated p) (R := operatedReports s u) (E := fun l => (s.operatedRecord p l).toList)
    (I := fun c => c.lanes.operateSelect = p ∧ c.alarm = s.alarm ∧ ∀ q m, c.lanes.copy q m = s.lanes.copy q m)
    (fun c l hc => hc) (fun {c t items records} l hev hc hI => ?_) (fun l => rfl) ⟨rfl, rfl, fun q m => rfl⟩
  · exact hall.cast rfl (List.filterMap_eq_flatMap_toList ..).symm
  · obtain ⟨ho, ha, hcopy⟩ := hI
    have hstep := Event.operateLane hs hev hc hcopy
    rw [ho] at hstep
    have hset : (c.setLane l (s.operated p l)).laneRec l = s.operated p l := by rw [setLane_laneRec, if_pos rfl]
    refine hstep.cast (congrArg _ (announced_operated ((hrec l).trans hset.symm) ?_ hset)) (congrArg _ ?_)
    · have hl : u.lanes.copy = s.lanes.copy := by rw [hu]; rfl
      unfold State.policy
      rw [hrec l, hset, hl]
      exact (hcopy _ l).symm
    · unfold State.operatedRecord
      split
      · unfold State.stamped; rw [ha]; rfl
      · rfl

end Select

/-- Settles O39: the write select by evaluation, OPERATE by the lanes' turns, which touch one lane each. -/
theorem selectProfileChoosesTheCopies : Obligations.SelectProfileChoosesTheCopies := by
  unfold Obligations.SelectProfileChoosesTheCopies
  refine ⟨?write, ?operate, ?sound⟩
  case write =>
    intro s h p hh
    refine congrArg Host.Outcome.next ((takeMgmt_supervised s h _ _ hh).trans ?_)
    simp [State.selectWrite, answer, State.respond, State.takeFrame, State.mapLink, State.mapLanes, State.answeredWith,
      State.repliedWith, responseTo]
  case operate =>
    intro s h p hh
    obtain ⟨t, ht, hans, hop, hof⟩ := selectOperate_answered h p hh
    have hk := (touches_takeMgmt (h := h) (k := .selectProfile) (s := s) fun s => touches_selectOperate (s := s) (p := some p)).framed
    rw [ht] at hk
    refine ⟨t, congrArg Host.Outcome.next ht, hans, hop, hk.writeSelect,
      fun l => ⟨hk.txn l, hk.holds l⟩, fun l hl => ?_, fun l hp htx => ?_, ?_⟩
    · have hl' : operatedTo p (s.profileOf l) = (p, false, (s.laneRec l).txn) := by
        unfold operatedTo State.profileOf
        rcases hl with hl | hl <;> simp +contextual [hl]
      have hx := (hof l).trans hl'
      exact ⟨congrArg Prod.fst hx, congrArg (·.2.1) hx⟩
    · have hx := (hof l).trans ((if_neg hp).trans (if_neg htx))
      exact ⟨congrArg Prod.fst hx, congrArg (·.2.1) hx⟩
    · refine hk.unlogged.trans ?_
      rw [hk.screen, hk.dispense, hk.cash, hk.deposit, hk.envelope, hk.tube, hk.alarm, hk.bus]
      rfl
  case sound =>
    intro s h p hs hh
    have hu := Event.operateLanes (s := s.takeFrame h .selectProfile) (p := p) hs .refl
      (u := (s.takeFrame h .selectProfile).operatedLanes p) rfl
    obtain ⟨t, ht, hlog, htold⟩ := takeMgmt_event hh (act := fun s => s.selectOperate (some p)) rfl hu
    have heq : t = { s.logged t with
        lanes := { s.lanes with operateSelect := p, records := Vector.ofFn (s.operated p) } } := hlog
    refine ⟨t, congrArg Host.Outcome.next ht, heq, ?_⟩
    have hrep : operatedReports s t = operatedReports (s.takeFrame h .selectProfile)
        ((s.takeFrame h .selectProfile).operatedLanes p) := by rw [heq]; rfl
    rw [hrep]
    exact htold

end Sys2Proof.Machine
end

section
/-! SUPPORT. NODE judged anew (R10): what it leaves of a lane and of all, whatever the tables, and what it writes with every table OK. -/

namespace Sys2Proof.Machine

open Sys2Proof

-- One thread, so that the check's memory holds the stacks.
set_option Elab.async false

/-! ## A lane settled and announced -/

section Settling

variable {s t u : State} {l m : Lane}

/-- The copy in force, where neither the copies nor the profiles were touched. -/
theorem Framed.policy {ps : List Part} (h : Framed ps s t) (l : Lane) (hc : .copies ∉ ps := by decide)
    (hp : .profiles ∉ ps := by decide) : t.policy l = s.policy l := by
  have hd : (t.lanes.dayCopies, t.lanes.nightCopies) = (s.lanes.dayCopies, s.lanes.nightCopies) := h .copies hc
  have hday : t.lanes.dayCopies = s.lanes.dayCopies := congrArg Prod.fst hd
  have hnight : t.lanes.nightCopies = s.lanes.nightCopies := congrArg Prod.snd hd
  unfold State.policy LaneControl.copy
  rw [h.profile l hp, hday, hnight]

theorem Framed.moduleTable {ps : List Part} (h : Framed ps s t) (hp : .modules ∉ ps := by decide) :
    t.bus.modules = s.bus.modules := h .modules hp

/-- A check made on the way can only close a lane that was settled before it. -/
theorem settledState_narrowed {r : LaneRecord} {a b : Bool} (h : b = true → a = true) :
    settledState { r with state := settledState r a } b = settledState r b := by
  cases b with
  | true => rw [h rfl]; exact settledState_idem r true
  | false =>
    by_cases hr : r.state = .closed
    · simp [settledState, hr]
    · by_cases ht : r.txn = none
      · simp [settledState, hr, ht]
      · have hsome : r.txn.isSome = true := Option.isSome_iff_ne_none.2 ht
        by_cases hh : r.holds.any = true <;> simp [settledState, hr, ht, hsome, hh]

theorem Check.read_good {c : Check} (h : c.parityGood = true) : c.read = c := by
  cases c
  simp_all [Check.read]

/-- Parity only closes: a copy just checked reads open only if it did before. -/
theorem checkCopy_copy (s : State) (p q : Profile) (l m : Lane) : (s.checkCopy p l).lanes.copy q m =
    if q = p ∧ m = l then { s.lanes.copy p l with check := (s.lanes.copy p l).check.read } else s.lanes.copy q m := by
  unfold State.checkCopy
  dsimp only
  split
  · next h =>
    split
    · next he =>
      obtain ⟨rfl, rfl⟩ := he
      rw [Check.read_good h]
    · rfl
  · rw [(logsOnly_tableFault ..).lanes, State.mapLanes_lanes, setCopy_copy]

/-- A change announced settles the lane by its copy, once that was checked. -/
theorem announce_settles {b : LaneRecord} (h : (s.laneRec l).state ≠ b.state ∨ (s.laneRec l).holds ≠ b.holds) :
    ∃ u, Framed [.copies, .journal, .sticky] s u ∧ ((u.policy l).readsOpen = true → (s.policy l).readsOpen = true)
      ∧ (∀ m, m ≠ l → u.policy m = s.policy m) ∧ Framed [.reports, .sticky] (u.settle l) (s.announce l b) := by
  refine ⟨if (s.policy l).check.faulted then s else s.checkCopy (s.laneRec l).profile l, ?_, ?_, fun m hm => ?_, ?_⟩
  · split
    · exact .refl
    · exact touches_checkCopy.framed
  · split
    · exact id
    · have hf := (touches_checkCopy (s := s) (p := (s.laneRec l).profile) (l := l)).framed.profile l
      unfold State.policy
      rw [hf, checkCopy_copy, if_pos ⟨rfl, rfl⟩]
      simp +contextual [PolicyCopy.readsOpen, Check.read]
  · split
    · rfl
    · have hf := (touches_checkCopy (s := s) (p := (s.laneRec l).profile) (l := l)).framed.profile m
      unfold State.policy
      rw [hf, checkCopy_copy, if_neg (fun h => hm h.2)]
  · unfold State.announce
    dsimp only
    rw [if_pos h]
    generalize (if (s.policy l).check.faulted then s else s.checkCopy (s.laneRec l).profile l).settle l = u
    split
    · exact touches_send7.framed
    · exact touches_sendServing.framed

/-- A lane whose hold reasons changed, settled and announced: it stands as the copy left in force says. -/
theorem settleAndAnnounce_laneRec {b : LaneRecord} (h : (s.laneRec l).holds ≠ b.holds) :
    (s.settleAndAnnounce l b).laneRec m = if m = l then
      { s.laneRec l with state := settledState (s.laneRec l) ((s.settleAndAnnounce l b).policy l).readsOpen }
    else s.laneRec m := by
  have hl : (s.settle l).laneRec l = { s.laneRec l with state := settledState (s.laneRec l) (s.policy l).readsOpen } := by
    rw [settle_laneRec, if_pos rfl]
  obtain ⟨u, hu, hopen, -, ht⟩ := announce_settles (s := s.settle l) (l := l) (b := b) (.inr (by rw [hl]; exact h))
  rw [settle_policy] at hopen
  unfold State.settleAndAnnounce
  rw [ht.laneRec m, ht.policy l, settle_policy, settle_laneRec, hu.laneRec l, hu.laneRec m, hl, settle_laneRec]
  split
  · dsimp only
    rw [settledState_narrowed hopen]
  · rfl

/-- Another lane's copy in force is not read. -/
theorem settleAndAnnounce_policy {b : LaneRecord} (h : (s.laneRec l).holds ≠ b.holds) (hm : m ≠ l) :
    (s.settleAndAnnounce l b).policy m = s.policy m := by
  obtain ⟨u, hu, -, hp, ht⟩ := announce_settles (s := s.settle l) (l := l) (b := b)
    (.inr (by rw [settle_laneRec, if_pos rfl]; exact h))
  unfold State.settleAndAnnounce
  rw [ht.policy m, settle_policy, hp m hm, settle_policy]

end Settling

/-! ## NODE of a lane -/

section Node

variable {s c t u : State} {l m : Lane} {items : List Item} {records : List Entry}

/-- NODE hangs on the Module Table alone. -/
theorem nodeStands_congr (h : t.bus.modules = s.bus.modules) : t.nodeStands l = s.nodeStands l := by
  unfold State.nodeStands State.healthOf State.stationEntry State.findModule
  rw [h]

theorem nodeJudged_congr (hr : u.laneRec l = s.laneRec l) (hn : t.nodeStands l = c.nodeStands l)
    (hp : t.policy l = c.policy l) : u.nodeJudged t l = s.nodeJudged c l := by
  unfold State.nodeJudged
  rw [hr, hn, hp]

/-- NODE as it should stand, with the record of the change. -/
def State.withNode (s : State) (l : Lane) : State :=
  (s.mapLane l fun r => { r with holds := { r.holds with node := s.nodeStands l } }).record
    { kind := if s.nodeStands l then .hold else .release, lane := numberOf l, facts := [.reason .node] }

theorem evaluateNode_eq (s : State) (l : Lane) : s.evaluateNode l =
    if s.nodeStands l = (s.laneRec l).holds.node then s else (s.withNode l).settleAndAnnounce l (s.laneRec l) := by
  unfold State.evaluateNode State.withNode
  cases s.nodeStands l <;> rfl

theorem withNode_laneRec (s : State) (l m : Lane) : (s.withNode l).laneRec m = if m = l then
    { s.laneRec l with holds := { (s.laneRec l).holds with node := s.nodeStands l } } else s.laneRec m := by
  unfold State.withNode
  rw [touches_record.framed.laneRec m, mapLane_laneRec]

theorem withNode_policy (s : State) (l m : Lane) : (s.withNode l).policy m = s.policy m := by
  unfold State.withNode
  rw [touches_record.framed.policy m]
  exact mapLane_policy s l m rfl

theorem withNode_holds (h : ¬s.nodeStands l = (s.laneRec l).holds.node) :
    ((s.withNode l).laneRec l).holds ≠ (s.laneRec l).holds := fun he => h (by
  rw [withNode_laneRec, if_pos rfl] at he
  exact congrArg Holds.node he)

/-- What the judgement of a lane's NODE leaves of the Lane Records. -/
theorem evaluateNode_laneRec (s : State) (l m : Lane) :
    (s.evaluateNode l).laneRec m = if m = l then s.nodeJudged (s.evaluateNode l) l else s.laneRec m := by
  have hn : (s.evaluateNode l).nodeStands l = s.nodeStands l := nodeStands_congr (touches_evaluateNode.framed.moduleTable)
  unfold State.nodeJudged
  rw [hn, evaluateNode_eq]
  by_cases h : s.nodeStands l = (s.laneRec l).holds.node
  · simp only [if_pos h]
    split
    · next hm => rw [hm]
    · rfl
  · simp only [if_neg h]
    rw [settleAndAnnounce_laneRec (withNode_holds h), withNode_laneRec, withNode_laneRec, if_pos rfl]
    split <;> rfl

theorem evaluateNode_policy (hm : m ≠ l) : (s.evaluateNode l).policy m = s.policy m := by
  rw [evaluateNode_eq]
  split
  · rfl
  · next h => rw [settleAndAnnounce_policy (withNode_holds h) hm, withNode_policy]

/-- NODE of every lane as its station entry says. -/
theorem evaluateNodes_laneRec (s : State) (l : Lane) : s.evaluateNodes.laneRec l = s.nodeJudged s.evaluateNodes l := by
  obtain ⟨u, hu, hv, hf⟩ := forEach_turn (s := s) (f := State.evaluateNode) (V := fun m s => (s.laneRec m, s.policy m))
    (I := fun u => u.bus.modules = s.bus.modules)
    (fun u m hu => (touches_evaluateNode.framed.moduleTable).trans hu)
    (fun u l m hm => Prod.ext (by rw [evaluateNode_laneRec, if_neg hm]) (evaluateNode_policy hm)) rfl l
  simp only [Prod.mk.injEq] at hv hf
  obtain ⟨hrec, hpol⟩ := hf
  have hm := (touches_evaluateNodes (s := s)).framed.moduleTable
  unfold State.evaluateNodes at hm ⊢
  rw [hrec, evaluateNode_laneRec, if_pos rfl]
  refine nodeJudged_congr hv.1 (nodeStands_congr ?_) hpol.symm
  rw [hm, touches_evaluateNode.framed.moduleTable]
  exact hu

/-! ### With every table OK -/

/-- The record of a change of NODE (R10). -/
def State.nodeRecord (s t : State) (l : Lane) : Option Entry :=
  if (t.laneRec l).holds.node = (s.laneRec l).holds.node then none
  else some (s.stamped { kind := if (t.laneRec l).holds.node then .hold else .release, lane := numberOf l, facts := [.reason .node] })

/-- The reports of a change of NODE (R11). -/
def State.nodeReport (s t : State) (l : Lane) : List Item :=
  if (t.laneRec l).holds.node = (s.laneRec l).holds.node then []
  else t.toServing l (laneReportOf l (t.laneRec l)) (laneReportOf l (t.laneRec l))

theorem nodeRecords_eq (s t : State) : s.nodeRecords t = (List.finRange 6).filterMap (s.nodeRecord t) := rfl

theorem nodeReports_eq (s t : State) : s.nodeReports t = (List.finRange 6).flatMap (s.nodeReport t) := rfl

/-- A lane record with its NODE judged: the reason as it stands, settled where that is a change. -/
theorem nodeJudged_holds (s t : State) (l : Lane) :
    (s.nodeJudged t l).holds = { (s.laneRec l).holds with node := t.nodeStands l } := by
  unfold State.nodeJudged
  dsimp only
  split
  · next h => rw [h]
  · rfl

theorem nodeJudged_rest (s t : State) (l : Lane) : (s.nodeJudged t l).txn = (s.laneRec l).txn
    ∧ (s.nodeJudged t l).profile = (s.laneRec l).profile := by
  unfold State.nodeJudged
  dsimp only
  split <;> exact ⟨rfl, rfl⟩

/-- A change of a lane's NODE, read off any state that shows the lane as it is left. -/
theorem Event.evaluateNode (h : Event s c t items records) (hc : (c.policy l).check = {}) (hr : c.laneRec l = s.laneRec l)
    (ha : c.alarm = s.alarm) (hu : u.laneRec l = c.nodeJudged c l) (hp : u.policy l = c.policy l) :
    Event s (c.setLane l (c.nodeJudged c l)) (t.evaluateNode l) (items ++ s.nodeReport u l)
      (records ++ (s.nodeRecord u l).toList) := by
  have hn : t.nodeStands l = c.nodeStands l := by rw [h.state]; rfl
  have hl : t.laneRec l = c.laneRec l := h.state.laneRec l
  have hnode : (u.laneRec l).holds.node = c.nodeStands l := by rw [hu, nodeJudged_holds]
  unfold State.nodeReport State.nodeRecord
  rw [evaluateNode_eq, hn, hnode, hl, ← hr]
  by_cases hst : c.nodeStands l = (c.laneRec l).holds.node
  · have hj : c.nodeJudged c l = c.laneRec l := if_pos hst
    have hset : c.setLane l (c.nodeJudged c l) = c := mapLane_self hj
    simp only [if_pos hst, hset]
    exact h.cast (List.append_nil _).symm (List.append_nil _).symm
  · have hj : c.nodeJudged c l = { c.laneRec l with
        holds := { (c.laneRec l).holds with node := c.nodeStands l }
        state := settledState { c.laneRec l with holds := { (c.laneRec l).holds with node := c.nodeStands l } }
          (c.policy l).readsOpen } := if_neg hst
    have hmap := (h.mapLane l fun r => { r with holds := { r.holds with node := c.nodeStands l } }).record
      { kind := if c.nodeStands l then .hold else .release, lane := numberOf l, facts := [.reason .node] }
    have hpol := mapLane_policy c l l (f := fun r => { r with holds := { r.holds with node := c.nodeStands l } }) rfl
    have hset : (c.mapLane l fun r => { r with holds := { r.holds with node := c.nodeStands l } }).settle l =
        c.setLane l (c.nodeJudged c l) := by
      unfold State.settle
      rw [mapLane_mapLane, hpol, hj]
      exact mapLane_congr rfl
    have hann := hmap.settleAndAnnounce (b := c.laneRec l) (by rw [hpol]; exact hc)
    have hleft : (c.setLane l (c.nodeJudged c l)).laneRec l = u.laneRec l := by rw [setLane_laneRec, if_pos rfl, hu]
    have hserve : (c.setLane l (c.nodeJudged c l)).policy l = u.policy l := by
      rw [hp]
      exact mapLane_policy c l l (nodeJudged_rest c c l).2
    rw [hset, announced_changed (.inr (by rw [hleft]; exact fun he => hst (hnode.symm.trans (congrArg Holds.node he)))),
      hleft, ← toServing_congr hserve.symm] at hann
    unfold State.withNode
    rw [hn]
    simp only [if_neg hst]
    refine hann.cast rfl (congrArg _ ?_)
    unfold State.stamped
    rw [show (c.mapLane l _).alarm = s.alarm from ha]
    rfl

/-- Every lane's NODE judged. -/
def State.nodesJudged (s : State) : State := s.setLanes fun l => s.nodeJudged s l

/-- With every copy OK, the lanes' NODE judged is one event. -/
theorem Event.evaluateNodes (h : Event s c t items records) (hc : ∀ q m, (c.lanes.copy q m).check = {})
    (hl : c.lanes = s.lanes) (ha : c.alarm = s.alarm) (hu : u.lanes = c.nodesJudged.lanes) :
    Event s c.nodesJudged t.evaluateNodes (items ++ s.nodeReports u) (records ++ s.nodeRecords u) := by
  have hrec : ∀ l, u.laneRec l = c.nodeJudged c l := fun l => by
    rw [show u.laneRec l = c.nodesJudged.laneRec l by unfold State.laneRec; rw [hu]]
    exact setLanes_laneRec ..
  have hpol : ∀ l, u.policy l = c.policy l := fun l => by
    unfold State.policy
    rw [hrec, (nodeJudged_rest c c l).2, hu]
    rfl
  have hall := h.forEachLane (f := State.evaluateNode) (new := fun l => c.nodeJudged c l) (R := s.nodeReport u)
    (E := fun l => (s.nodeRecord u l).toList)
    (I := fun d => d.bus.modules = c.bus.modules ∧ d.alarm = s.alarm ∧ ∀ q m, d.lanes.copy q m = c.lanes.copy q m)
    (fun d l hd => hd) (fun {d t items records} l hev hd hI => ?_)
    (fun l => by unfold State.laneRec; rw [hl]) ⟨rfl, ha, fun _ _ => rfl⟩
  · rw [nodeReports_eq, nodeRecords_eq, List.filterMap_eq_flatMap_toList]
    exact hall
  · obtain ⟨hm, hal, hcopy⟩ := hI
    have hdc : d.laneRec l = c.laneRec l := hd.trans (by unfold State.laneRec; rw [hl])
    have hdp : d.policy l = c.policy l := by unfold State.policy; rw [hdc, hcopy]
    have hj : d.nodeJudged d l = c.nodeJudged c l := nodeJudged_congr hdc (nodeStands_congr hm) hdp
    have := Event.evaluateNode hev (by rw [hdp]; exact hc _ _) hd hal (u := u) (by rw [hj, hrec]) (by rw [hdp, hpol])
    rw [hj] at this
    exact this

end Node

end Sys2Proof.Machine
end

section
/-! PROOFS. WRITE ENTRY to the Module Table (O37): the entry, then NODE of every lane judged by it. -/

namespace Sys2Proof.Machine

open Sys2Proof

-- One thread, so that the check's memory holds the stacks.
set_option Elab.async false

/-! ## Arbiters with nothing to decide -/

section Arbiters

variable {s : State}

theorem arbitrate_none (h : s.cash.workQueue = []) : s.arbitrate = s := by
  unfold State.arbitrate
  rw [h]
  rfl

theorem arbitrateBlower_none (h : s.tube.requests = []) : s.arbitrateBlower = s := by
  have hn : s.nextGrant = none := by
    unfold State.nextGrant
    rw [h]
    rfl
  unfold State.arbitrateBlower
  rw [hn]
  split <;> rfl

end Arbiters

/-! ## The module write (R158) -/

section ModuleWrite

variable {s : State} {m : ModuleId} {entry node lane : Nat} {kind : ModuleKind}

/-- An entry configured, before NODE is judged by it. -/
def State.withModule (s : State) (m : ModuleId) (node : Nat) (kind : ModuleKind) (lane : Nat) : State :=
  s.mapModule m fun _ => { node := node, kind := kind, lane := lane }

/-- The checks of a module write all pass on a part out of service whose node and kind are free and whose old node is quiet. -/
theorem checksModule_pass (hp : s.mgmt.partState ≠ .inService)
    (hnode : node ≠ 0 → ∀ i : ModuleId, i ≠ m → (s.module i).node ≠ node)
    (hkind : node ≠ 0 → kind ≠ .laneStation → ∀ i : ModuleId, i ≠ m → (s.module i).node = 0 ∨ (s.module i).kind ≠ kind)
    (hq : s.moduleQuiet m = true) : s.checks (checksModule m node kind) = (s, none) := by
  have h2 : (node == 0 || !(s.otherModule m fun e => e.node == node)) = true := by
    by_cases hz : node = 0
    · simp [hz]
    · have := hnode hz
      simp [State.otherModule]
      tauto
  have h3 : (node == 0 || kind == .laneStation || !(s.otherModule m fun e => e.kind == kind)) = true := by
    by_cases hz : node = 0
    · simp [hz]
    · by_cases hk : kind = .laneStation
      · simp [hk]
      · have := hkind hz hk
        simp [State.otherModule]
        grind
  unfold checksModule
  simp only [checks_need, h2, h3, hq, bne_iff_ne.2 hp, if_true, checks_nil]

theorem writeModule_pass (hn : numbered 16 entry = some m) (hform : node ≤ 30)
    (hlane : kind = .laneStation → 1 ≤ lane ∧ lane ≤ 6) (hpass : s.checks (checksModule m node kind) = (s, none))
    (hr : s.bus.restores = []) (ht : s.tube.requests = []) (hw : s.cash.workQueue = []) :
    s.writeModule entry node (some kind) lane =
      answer ((s.withModule m node kind lane).tableWrite (.module (numberOf m)) [node, lane]).evaluateNodes .done := by
  have hok : ¬(30 < node ∨ (kind = .laneStation ∧ (numbered 6 lane).isNone)) := by
    rintro (h | ⟨hk, h⟩)
    · omega
    · unfold numbered at h
      rw [dif_pos (hlane hk)] at h
      cases h
  generalize hv : ((s.withModule m node kind lane).tableWrite (.module (numberOf m)) [node, lane]).evaluateNodes = v
  have hf : Framed holdParts (s.withModule m node kind lane) v := by
    rw [← hv]
    exact touches_record.framed.mono.then touches_evaluateNodes.framed
  have hvt : v.tube.requests = [] := by rw [hf.tube]; exact ht
  have hvw : v.cash.workQueue = [] := by rw [hf.cash]; exact hw
  unfold State.writeModule
  rw [hn]
  dsimp only
  rw [if_neg hok, ifPass_pass hpass]
  rw [show (s.mapModule m _).bus.restores = [] from hr]
  change answer (((s.withModule m node kind lane).tableWrite (.module (numberOf m)) [node,
    lane]).evaluateNodes.arbitrateBlower.arbitrate) .done = _
  rw [hv, arbitrateBlower_none hvt, arbitrate_none hvw]

/-- With every table OK, the entry's write and the judgement of NODE are one event. -/
theorem writeModule_event (hs : s.soundTables = true) :
    Event s (s.withModule m node kind lane).nodesJudged
      ((s.withModule m node kind lane).tableWrite (.module (numberOf m)) [node, lane]).evaluateNodes
      (s.nodeReports (s.withModule m node kind lane).nodesJudged)
      (s.stamped { kind := .tableWrite, facts := [.table (.module (numberOf m)), .stored [node, lane]] } ::
        s.nodeRecords (s.withModule m node kind lane).nodesJudged) :=
  have he := (Event.refl.mapBus fun b => { b with modules := b.modules.set m { node := node, kind := kind, lane := lane } }).record
    { kind := .tableWrite, facts := [.table (.module (numberOf m)), .stored [node, lane]] }
  he.evaluateNodes (u := (s.withModule m node kind lane).nodesJudged) (fun q n => sound_copy hs q n) rfl rfl rfl

end ModuleWrite

/-- Settles O37: the write leaves one state whose lanes have NODE judged by the entry; with every table OK it is one event. -/
theorem moduleWriteConfiguresTheEntry : Obligations.ModuleWriteConfiguresTheEntry := by
  unfold Obligations.ModuleWriteConfiguresTheEntry
  intro s h entry node lane kind m hh hn hform hlane hp hnode hkind hq hr ht hw
  have hact : (s.takeFrame h .writeEntry).writeModule entry node (some kind) lane = _ :=
    writeModule_pass hn hform hlane (checksModule_pass hp hnode hkind hq) hr ht hw
  have hrun := takeMgmt_supervised s h .writeEntry (fun s => s.writeModule entry node (some kind) lane) hh
  rw [hact] at hrun
  generalize hc : (s.takeFrame h .writeEntry).withModule m node kind lane = c at hrun
  generalize hv : (c.tableWrite (.module (numberOf m)) [node, lane]).evaluateNodes = v at hrun
  dsimp only [answer] at hrun
  generalize ht : v.respond h .writeEntry .done .empty = t at hrun
  have hft : Framed [.held, .reports] v t := ht ▸ touches_respond.framed
  have hfw : Framed [.journal, .sticky] c (c.tableWrite (.module (numberOf m)) [node, lane]) := touches_record.framed
  have hct : Framed (.held :: holdParts) c t := (hfw.mono.then (hv ▸ touches_evaluateNodes.framed)).then hft
  have hst : Framed (.rx :: .held :: .modules :: holdParts) s t := by
    have htake := (touches_takeFrame (s := s) (h := h) (k := .writeEntry) (form := OrderKind.writeEntry.fits)).framed
    have hmod : Framed [.modules] (s.takeFrame h .writeEntry) c := hc ▸ touches_mapModule.framed
    exact (htake.mono.then hmod).then hct
  have hrec : ∀ l, t.laneRec l = s.nodeJudged t l := fun l => by
    have hvl := evaluateNodes_laneRec (c.tableWrite (.module (numberOf m)) [node, lane]) l
    rw [hv] at hvl
    have hwl : (c.tableWrite (.module (numberOf m)) [node, lane]).laneRec l = s.laneRec l := by
      rw [hfw.laneRec, ← hc]
      rfl
    rw [hft.laneRec l, hvl]
    exact nodeJudged_congr hwl (nodeStands_congr hft.moduleTable).symm (hft.policy l).symm
  have hsound : s.soundTables = true →
      LogsOnly c.nodesJudged t ∧ Told s t h .writeEntry .done .empty (s.nodeReports t) (s.stamped
        { kind := .tableWrite, facts := [.table (.module (numberOf m)), .stored [node, lane]] } :: s.nodeRecords t) := by
    intro hs
    have he := writeModule_event (s := s.takeFrame h .writeEntry) (m := m) (node := node) (kind := kind) (lane := lane) hs
    rw [hc, hv] at he
    have htold := he.told .done .empty
    rw [ht] at htold
    have hreports : s.nodeReports t = (s.takeFrame h .writeEntry).nodeReports c.nodesJudged := by rw [htold.1]; rfl
    have hrecords : s.nodeRecords t = (s.takeFrame h .writeEntry).nodeRecords c.nodesJudged := by rw [htold.1]; rfl
    rw [hreports, hrecords]
    exact htold
  refine ⟨t, congrArg _ hrun, ht ▸ answered_respond .., ?_, fun l => ?_, fun l => ?_, hrec,
    hst.policiesKept (hs := fun hs => ?_), fun hs => (hsound hs).2, ?_⟩
  · rw [hct.bus, ← hc]; rfl
  · rw [hrec, nodeJudged_holds]
  · rw [hrec]; exact nodeJudged_rest s t l
  · rw [(hsound hs).1.lanes, ← hc]; rfl
  · refine hst.unlogged.trans ?_
    rw [hst.screen, hst.dispense, hst.cash, hst.deposit, hst.envelope, hst.tube, hst.alarm]
    rfl

end Sys2Proof.Machine
end

section
/-! PROOFS. RESTORE NODE, its probes and RESUME RECYCLER (O44). -/

namespace Sys2Proof.Machine

open Sys2Proof

-- One thread, so that the check's memory holds the stacks.
set_option Elab.async false

/-! ## How much an operation adds to the queue and the journal -/

section Adds

variable {s t u : State} {n k n' k' : Nat}

/-- At most `n` reports and `k` records more, no reserved slot used. -/
structure Adds (n k : Nat) (s t : State) : Prop where
  reports : t.link.used ≤ s.link.used + n
  records : t.journal.ring.length ≤ s.journal.ring.length + k
  reserved : t.journal.reserved = s.journal.reserved

theorem Adds.of_eq (hl : t.link = s.link) (hj : t.journal = s.journal) : Adds n k s t :=
  ⟨by rw [hl]; omega, by rw [hj]; omega, by rw [hj]⟩

theorem Adds.trans (h : Adds n k s t) (g : Adds n' k' t u) : Adds (n + n') (k + k') s u :=
  ⟨by have := h.reports; have := g.reports; omega, by have := h.records; have := g.records; omega,
    g.reserved.trans h.reserved⟩

/-- Changes of other blocks, before or after, add nothing. -/
theorem Adds.before (h : Adds n k u t) (hl : u.link = s.link) (hj : u.journal = s.journal) : Adds n k s t :=
  ⟨by rw [← hl]; exact h.reports, by rw [← hj]; exact h.records, by rw [← hj]; exact h.reserved⟩

theorem Adds.after (h : Adds n k s u) (hl : t.link = u.link) (hj : t.journal = u.journal) : Adds n k s t :=
  ⟨by rw [hl]; exact h.reports, by rw [hj]; exact h.records, by rw [hj]; exact h.reserved⟩

theorem Adds.mono (h : Adds n k s t) (hn : n ≤ n' := by omega) (hk : k ≤ k' := by omega) : Adds n' k' s t :=
  ⟨by have := h.reports; omega, by have := h.records; omega, h.reserved⟩

theorem adds_record (s : State) (e : Entry) : Adds 0 1 s (s.record e) := by
  unfold State.record
  split
  · exact ⟨Nat.le_refl _, by simp [State.mapJournal], rfl⟩
  · exact ⟨Nat.le_refl _, Nat.le_succ _, rfl⟩

theorem adds_send (s : State) (d : Station) (tag : Nat) (r : Report) : Adds 1 0 s (s.send d tag r) := by
  unfold State.send
  split
  · exact ⟨by simp [State.mapLink, Link.used]; omega, Nat.le_refl _, rfl⟩
  · exact ⟨Nat.le_succ _, Nat.le_refl _, rfl⟩

theorem adds_sendEach (s : State) (l : List Console) (tag : Nat) (r : Report) :
    Adds l.length 0 s (s.forEach l fun s c => s.send (.console c) tag r) := by
  induction l generalizing s with
  | nil => exact .of_eq rfl rfl
  | cons c l ih => exact ((adds_send s (.console c) tag r).trans (ih _)).mono (by simp; omega)

theorem adds_sendServing (s : State) (l : Lane) (tag : Nat) (own copy : Report) : Adds 5 0 s (s.sendServing l tag own copy) := by
  have h4 : (s.servingOf l).length ≤ 4 := by
    have := List.length_filter_le (fun c => (s.policy l).serving[c]) (List.finRange 4)
    simpa [State.servingOf] using this
  exact ((adds_sendEach s (s.servingOf l) tag own).trans (adds_send _ _ _ _)).mono

theorem adds_checkCopy (s : State) (p : Profile) (l : Lane) : Adds 0 1 s (s.checkCopy p l) := by
  unfold State.checkCopy
  dsimp only
  split
  · exact .of_eq rfl rfl
  · unfold State.tableFault
    exact (adds_record _ _).before rfl rfl

theorem adds_announce (s : State) (l : Lane) (b : LaneRecord) : Adds 5 1 s (s.announce l b) := by
  unfold State.announce
  dsimp only
  split
  · have hc : Adds 0 1 s ((if (s.policy l).check.faulted then s else s.checkCopy (s.laneRec l).profile l).settle l) := by
      split
      · exact .of_eq rfl rfl
      · exact (adds_checkCopy s _ l).after rfl rfl
    generalize (if (s.policy l).check.faulted then s else s.checkCopy (s.laneRec l).profile l).settle l = u at hc ⊢
    split
    · exact (hc.trans (adds_send u _ _ _)).mono
    · exact hc.trans (adds_sendServing u l _ _ _)
  · split
    · exact (adds_send s _ _ _).mono
    · exact .of_eq rfl rfl

theorem adds_evaluateNode (s : State) (l : Lane) : Adds 5 2 s (s.evaluateNode l) := by
  rw [evaluateNode_eq]
  split
  · exact .of_eq rfl rfl
  · have hw : Adds 0 1 s (s.withNode l) := (adds_record _ _).before rfl rfl
    have hs : Adds 0 1 s ((s.withNode l).settle l) := hw.after rfl rfl
    exact hs.trans (adds_announce _ _ _)

end Adds

/-! ## A station told of its health -/

section Station

variable {s t : State} {l m : Lane}

/-- The lane a station entry names. -/
def Module.station (e : Module) : Option Lane := if e.kind = .laneStation then numbered 6 e.lane else none

/-- NODE judged anew for the lane a station entry names. -/
def State.judgeStation (s : State) : Option Lane → State
  | some l => s.evaluateNode l
  | none => s

theorem numbered_eq_some {k n : Nat} {i : Fin k} : numbered k n = some i ↔ n = numberOf i := by
  unfold numbered numberOf
  split
  · simp only [Option.some.injEq, Fin.ext_iff]
    omega
  · simp only [reduceCtorEq, false_iff]
    omega

theorem station_eq_some {e : Module} : e.station = some l ↔ e.kind = .laneStation ∧ e.lane = numberOf l := by
  unfold Module.station
  split
  · next h => rw [numbered_eq_some]; exact ⟨fun he => ⟨h, he⟩, fun he => he.2⟩
  · next h => exact ⟨fun he => (by cases he), fun he => absurd he.1 h⟩

/-- The lane's station entry names the lane. -/
theorem station_of_stationEntry {i : ModuleId} (h : s.stationEntry l = some i) : (s.module i).station = some l := by
  have := List.find?_some h
  simp only [Bool.and_eq_true, beq_iff_eq] at this
  exact station_eq_some.2 this.2

/-- The look-ups of the Module Table hang on nodes, kinds and lanes alone. -/
theorem stationEntry_congr (h : ∀ i, (t.module i).node = (s.module i).node ∧ (t.module i).kind = (s.module i).kind
    ∧ (t.module i).lane = (s.module i).lane) : t.stationEntry l = s.stationEntry l := by
  unfold State.stationEntry State.findModule
  congr 1
  funext i
  obtain ⟨hn, hk, hl⟩ := h i
  change (((t.module i).node != 0) && ((t.module i).kind == .laneStation && (t.module i).lane == numberOf l)) =
    (((s.module i).node != 0) && ((s.module i).kind == .laneStation && (s.module i).lane == numberOf l))
  rw [hn, hk, hl]

/-- A module that is not ISOLATED, with nothing for the arbiters to decide: its lane's NODE is judged, and no more is done. -/
theorem tellHealth_reached {i : ModuleId} (h : (s.module i).health ≠ .isolated) (hw : s.cash.workQueue = [])
    (ht : s.tube.requests = []) : s.tellHealth i = s.judgeStation (s.module i).station := by
  have hi : ((s.module i).health == .isolated) = false := by simpa using h
  unfold State.tellHealth Module.station
  dsimp only
  rw [hi]
  cases hk : (s.module i).kind with
  | recycler => exact arbitrate_none hw
  | blower => exact arbitrateBlower_none ht
  | laneStation => 
    rw [if_pos rfl]
    cases numbered 6 (s.module i).lane <;> rfl

theorem touches_judgeStation {o : Option Lane} : Touches holdParts s (s.judgeStation o) := by
  cases o with
  | none => exact .refl
  | some l => exact touches_evaluateNode

theorem adds_judgeStation (s : State) (o : Option Lane) : Adds 5 2 s (s.judgeStation o) := by
  cases o with
  | none => exact .of_eq rfl rfl
  | some l => exact adds_evaluateNode s l

theorem judgeStation_laneRec (s : State) (o : Option Lane) (m : Lane) : (s.judgeStation o).laneRec m =
    if o = some m then s.nodeJudged (s.judgeStation o) m else s.laneRec m := by
  cases o with
  | none => simp [State.judgeStation]
  | some l =>
    simp only [State.judgeStation, Option.some.injEq, eq_comm (a := l)]
    rw [evaluateNode_laneRec]
    split
    · next h => rw [h]
    · rfl

/-! ### With every table OK -/

theorem flatMap_single {α β : Type} {f : α → List β} {ls : List α} {a : α} (hn : ls.Nodup) (ha : a ∈ ls)
    (h : ∀ b, b ≠ a → f b = []) : ls.flatMap f = f a := by
  induction ls with
  | nil => exact absurd ha (by simp)
  | cons b ls ih =>
    obtain ⟨hb, hn⟩ := List.nodup_cons.1 hn
    rw [List.flatMap_cons]
    by_cases hab : b = a
    · subst hab
      have hrest : ls.flatMap f = [] := List.flatMap_eq_nil_iff.2 fun x hx => h x fun he => hb (he ▸ hx)
      rw [hrest, List.append_nil]
    · rw [h b hab, ih hn (by simpa [Ne.symm hab] using ha), List.nil_append]

/-- One lane's NODE judged, if a station entry names it. -/
def State.stationJudged (s : State) : Option Lane → State
  | some l => s.setLane l (s.nodeJudged s l)
  | none => s

theorem stationJudged_laneRec (s : State) (o : Option Lane) (m : Lane) :
    (s.stationJudged o).laneRec m = if o = some m then s.nodeJudged s m else s.laneRec m := by
  cases o with
  | none => simp [State.stationJudged]
  | some l =>
    simp only [State.stationJudged, Option.some.injEq, eq_comm (a := l), setLane_laneRec]
    split
    · next h => rw [h]
    · rfl

/-- What is told of one lane's NODE is what the statement reads off all lanes. -/
theorem nodeTold_single {o : Option Lane} (h : ∀ m, o ≠ some m → t.laneRec m = s.laneRec m) :
    s.nodeReports t = o.elim [] (s.nodeReport t) ∧ s.nodeRecords t = o.elim [] fun l => (s.nodeRecord t l).toList := by
  have hrep : ∀ m, o ≠ some m → s.nodeReport t m = [] := fun m hm => if_pos (by rw [h m hm])
  have hrec : ∀ m, o ≠ some m → (s.nodeRecord t m).toList = [] := fun m hm => by
    rw [show s.nodeRecord t m = none from if_pos (by rw [h m hm])]
    rfl
  rw [nodeReports_eq, nodeRecords_eq, List.filterMap_eq_flatMap_toList]
  cases o with
  | none =>
    exact ⟨List.flatMap_eq_nil_iff.2 fun m _ => hrep m (by simp), List.flatMap_eq_nil_iff.2 fun m _ => hrec m (by simp)⟩
  | some l =>
    have hne : ∀ m, m ≠ l → some l ≠ some m := fun m hm he => hm (Option.some.inj he).symm
    exact ⟨flatMap_single (List.nodup_finRange 6) (List.mem_finRange l) fun m hm => hrep m (hne m hm),
      flatMap_single (List.nodup_finRange 6) (List.mem_finRange l) fun m hm => hrec m (hne m hm)⟩

/-- With every copy OK, the judgement of the station's lane is one event. -/
theorem Event.judgeStation {c u : State} {items : List Item} {records : List Entry} {o : Option Lane}
    (h : Event s c t items records) (hc : ∀ q m, (c.lanes.copy q m).check = {}) (hl : c.lanes = s.lanes)
    (ha : c.alarm = s.alarm) (hu : u.lanes = (c.stationJudged o).lanes) :
    Event s (c.stationJudged o) (t.judgeStation o) (items ++ s.nodeReports u) (records ++ s.nodeRecords u) := by
  have hcs : ∀ m, c.laneRec m = s.laneRec m := fun m => by unfold State.laneRec; rw [hl]
  have hrec : ∀ m, u.laneRec m = if o = some m then c.nodeJudged c m else s.laneRec m := fun m => by
    rw [show u.laneRec m = (c.stationJudged o).laneRec m by unfold State.laneRec; rw [hu], stationJudged_laneRec, hcs]
  obtain ⟨hrep, hent⟩ := nodeTold_single (s := s) (t := u) (o := o) fun m hm => by rw [hrec, if_neg hm]
  rw [hrep, hent]
  cases o with
  | none => exact h.cast (List.append_nil _).symm (List.append_nil _).symm
  | some l =>
    have hul := hrec l
    rw [if_pos rfl] at hul
    refine h.evaluateNode (hc _ _) (hcs l) ha hul ?_
    unfold State.policy
    rw [hul, (nodeJudged_rest c c l).2, hu]
    rfl

end Station

/-! ## Probes (R166) -/

section Probes

variable {s : State} {x : Exchange} {e : Restore} {r : BusReply}

/-- The state a probe's result is judged in: its exchange is over. -/
def State.exchangeOver (s : State) : State := s.mapBus fun k => { k with outstanding := none }

theorem exec_probe_good (hx : s.bus.outstanding = some x) (hp : x.frame.content = .probe)
    (hw : x.window.past s.now = false) (ha : replyAnswers r x) (hc : r.cls = 4) (hb : r.body ≠ .unreadable) :
    exec (.wallBusReplyTaken (.fields r)) s = .next (s.exchangeOver.probeEnded 32 x.frame.node true) := by
  obtain ⟨hok, hdest, hsource⟩ := ha
  have hres : resultOf x.frame r = .good := by simp [resultOf, hok, hdest, hsource, hp, hc, hb]
  refine congrArg Host.Outcome.next (?_ : s.takeReply r = _)
  simp only [State.takeReply, hx, hw, hres, State.endBusExchange, hp, State.deliver]
  rfl

theorem exec_probe_silent (hx : s.bus.outstanding = some x) (hp : x.frame.content = .probe)
    (hw : timerDue (some x.window) s.now = true) :
    exec (.replyWindowExpiry) s = .next (s.exchangeOver.probeEnded 32 x.frame.node false) := by
  refine congrArg Host.Outcome.next (?_ : s.windowExpired = _)
  simp only [State.windowExpired, hx, hw, State.endBusExchange, hp, State.deliver]
  rfl

/-- A restore after a probe: ended by a run of 8 or by 32 probes, or probed again. -/
theorem probeEnded_found {node k : Nat} {good : Bool} (hf : (s.bus.restores.find? fun y => y.node = node) = some e) :
    State.probeEnded (k + 1) s node good =
      if 8 ≤ (e.after good).run then
        if (s.setRestore (e.after good)).restoreBarred node then (s.setRestore (e.after good)).endRestore (e.after good) .failed
        else (s.setRestore (e.after good)).restored (e.after good)
      else if 32 ≤ (e.after good).probes then (s.setRestore (e.after good)).endRestore (e.after good) .failed
      else if ((s.setRestore (e.after good)).placeProbe node).2 then ((s.setRestore (e.after good)).placeProbe node).1
      else State.probeEnded k ((s.setRestore (e.after good)).placeProbe node).1 node false := by
  simp only [State.probeEnded, hf]

/-- The next PROBE is placed while the restore goes on and the queue has a place. -/
theorem probeEnded_next {node k : Nat} {good : Bool} (hf : (s.bus.restores.find? fun y => y.node = node) = some e)
    (hr : (e.after good).run < 8) (hp : (e.after good).probes < 32) (hq : s.bus.outgoing.length < 48) :
    State.probeEnded (k + 1) s node good = (s.setRestore (e.after good)).mapBus fun b =>
      { b with outgoing := b.outgoing ++ [{ node := node, content := .probe, owner := .bus }] } := by
  have hplace : (s.setRestore (e.after good)).placeProbe node = ((s.setRestore (e.after good)).mapBus fun b =>
      { b with outgoing := b.outgoing ++ [{ node := node, content := .probe, owner := .bus }] }, true) := if_pos hq
  rw [probeEnded_found hf, if_neg (by omega), if_neg (by omega), hplace, if_pos rfl]

theorem found_node {node : Nat} (hf : (s.bus.restores.find? fun y => y.node = node) = some e) : e.node = node := by
  simpa using List.find?_some hf

/-- The progress of a probe that does not end its restore, as the statement writes it. -/
theorem probeEnded_goesOn {good : Bool} (hf : (s.bus.restores.find? fun y => y.node = x.frame.node) = some e)
    (hr : (e.after good).run < 8) (hp : e.probes < 31) (hq : s.bus.outgoing.length < 48) :
    s.exchangeOver.probeEnded 32 x.frame.node good = { s with
      bus := { s.bus with
        outstanding := none
        outgoing := s.bus.outgoing ++ [⟨x.frame.node, .probe, .bus, true⟩]
        restores := s.bus.restores.map fun y => if y.node = x.frame.node then
          ⟨y.node, (e.after good).run, e.probes + 1, (e.after good).goods⟩ else y } } := by
  have hn := found_node hf
  rw [probeEnded_next (s := s.exchangeOver) hf hr (show e.probes + 1 < 32 by omega) hq]
  unfold State.setRestore State.exchangeOver State.mapBus
  have hmap : (fun y : Restore => if y.node = (e.after good).node then e.after good else y) = fun y =>
      if y.node = x.frame.node then ⟨y.node, (e.after good).run, e.probes + 1, (e.after good).goods⟩ else y := by
    funext y
    rw [show (e.after good).node = x.frame.node from hn]
    split
    · next h => rw [h, ← hn]; rfl
    · rfl
  simp only [hmap]

/-- A restore ended: it is gone, with its record and its report. -/
theorem Event.endRestore {c t : State} {items : List Item} {records : List Entry} (h : Event s c t items records)
    (e : Restore) (res : RestoreResult) :
    Event s (c.mapBus fun b => { b with restores := b.restores.filter fun y => y.node != e.node }) (t.endRestore e res)
      (items ++ to7 (.nodeRestore e.node res e.probes e.goods))
      (records ++ [c.stamped { kind := .nodeRestore, facts := [.node e.node, .restore res e.probes e.goods] }]) := by
  have hf : (fun y : Restore => y.node != e.node) = fun y => decide (y.node ≠ e.node) := by
    funext y
    by_cases hy : y.node = e.node <;> simp [hy]
  rw [hf]
  exact ((h.mapBus _).record _).send7 _

theorem filter_setRestore (e : Restore) (ys : List Restore) :
    ((ys.map fun y => if y.node = e.node then e else y).filter fun y => y.node != e.node) =
      ys.filter fun y => y.node != e.node := by
  induction ys with
  | nil => rfl
  | cons y ys ih =>
    rw [List.map_cons, List.filter_cons, List.filter_cons, ih]
    by_cases h : y.node = e.node <;> simp [h]

/-- A restore's progress kept is gone with the restore. -/
theorem setRestore_filter (e : Restore) :
    ((s.exchangeOver.setRestore e).mapBus fun b => { b with restores := b.restores.filter fun y => y.node != e.node }) =
      { s with bus := { s.bus with outstanding := none, restores := s.bus.restores.filter fun y => y.node != e.node } } := by
  unfold State.setRestore State.exchangeOver State.mapBus
  simp only [filter_setRestore]

/-- A restore that fails ends, and nothing else is left of its exchange. -/
theorem restoreFailed_event (e : Restore) :
    Event s { s with bus := { s.bus with outstanding := none, restores := s.bus.restores.filter fun y => y.node != e.node } }
      ((s.exchangeOver.setRestore e).endRestore e .failed) (to7 (.nodeRestore e.node .failed e.probes e.goods))
      [s.stamped { kind := .nodeRestore, facts := [.node e.node, .restore .failed e.probes e.goods] }] := by
  have h : Event s (s.exchangeOver.setRestore e) (s.exchangeOver.setRestore e) [] [] := (Event.refl.mapBus _).mapBus _
  have hend := h.endRestore e .failed
  rw [setRestore_filter] at hend
  exact hend

/-- RESTORE NODE of an ISOLATED node places its first PROBE. -/
theorem restoreNode_begins {node : Nat} {m : ModuleId} (hn : 1 ≤ node ∧ node ≤ 30) (he : s.nodeEntry node = some m)
    (hi : (s.module m).health = .isolated) (hc : (s.module m).check.faulted = false)
    (hr : ∀ r ∈ s.bus.restores, r.node ≠ node) (hq : s.bus.outgoing.length < 48) :
    s.restoreNode node = ⟨{ s with bus := { s.bus with
      restores := s.bus.restores ++ [{ node := node, run := 0, probes := 0, goods := 0 }]
      outgoing := s.bus.outgoing ++ [{ node := node, content := .probe, owner := .bus }] } }, .accepted, .empty⟩ := by
  have hnone : s.bus.restores.any (fun r => r.node == node) = false := by
    simpa using hr
  have hbegin : s.beginRestore node = { s with bus := { s.bus with
      restores := s.bus.restores ++ [{ node := node, run := 0, probes := 0, goods := 0 }]
      outgoing := s.bus.outgoing ++ [{ node := node, content := .probe, owner := .bus }] } } := by
    have hplace : (s.mapBus fun b => { b with restores := b.restores ++ [{ node := node }] }).placeProbe node = (_, true) :=
      if_pos hq
    unfold State.beginRestore
    simp only [hplace, if_true]
    rfl
  unfold State.restoreNode
  rw [if_neg (by omega), he]
  simp only [hi, hnone, hc, hbegin]
  rfl

theorem record_written (s : State) (x : Entry) (h : s.journal.reserved < s.journal.free) :
    s.stamped x ∈ (s.record x).journal.ring.map JournalRecord.entry := by
  unfold State.record
  rw [if_pos h]
  simp [State.mapJournal]

theorem send7_journal (s : State) (r : Report) : (s.send7 r).journal = s.journal := by
  unfold State.send7 State.send
  split <;> rfl

/-- The end of a restore is in the journal and on the queue where there is a place. -/
theorem endRestore_told (s : State) (e : Restore) (res : RestoreResult) :
    (s.journal.reserved < s.journal.free → s.stamped
      { kind := .nodeRestore, facts := [.node e.node, .restore res e.probes e.goods] } ∈
        (s.endRestore e res).journal.ring.map JournalRecord.entry)
    ∧ (s.link.used < 64 → reportItem .supervisor 0 (.nodeRestore e.node res e.probes e.goods) ∈
        (s.endRestore e res).link.reports) := by
  unfold State.endRestore
  dsimp only
  generalize hu : s.mapBus (fun b => { b with restores := b.restores.filter fun x => x.node ≠ e.node }) = u
  have hlink : u.link = s.link := by rw [← hu]; rfl
  have hjournal : u.journal = s.journal := by rw [← hu]; rfl
  have hstamp : ∀ x, u.stamped x = s.stamped x := fun x => by rw [← hu]; rfl
  refine ⟨fun h => ?_, fun h => ?_⟩
  · rw [← hjournal] at h
    rw [send7_journal, ← hstamp]
    exact record_written u _ h
  · have hr : (u.record { kind := .nodeRestore, facts := [.node e.node, .restore res e.probes e.goods] }).link = s.link :=
      (record_link u _).trans hlink
    unfold State.send7
    rw [send_reports _ _ _ _ (by rw [hr]; exact h)]
    simp

end Probes

theorem stamped_congr {s t : State} (h : t.alarm = s.alarm) (x : Entry) : t.stamped x = s.stamped x := by
  unfold State.stamped
  rw [h]

section Restored

variable {s : State} {x : Exchange} {e : Restore} {m : ModuleId}

/-- An entry begun afresh at the end of its restore, with the restore's last progress. -/
def State.begunAfresh (s : State) (e : Restore) (m : ModuleId) : State :=
  (s.exchangeOver.setRestore e).mapModule m fun _ => (s.module m).afresh

/-- The Module Table with one entry changed. -/
theorem module_of_set {t : State} {y : Module} (h : t.bus.modules = s.bus.modules.set m y) (i : ModuleId) :
    t.module i = if i = m then y else s.module i := by
  have hval : m.val = i.val ↔ i = m := by rw [Fin.ext_iff, eq_comm]
  unfold State.module
  rw [h]
  simp only [Fin.getElem_fin, Vector.getElem_set, hval]

theorem begunAfresh_module (s : State) (e : Restore) (m i : ModuleId) :
    (s.begunAfresh e m).module i = if i = m then (s.module m).afresh else s.module i :=
  module_of_set rfl i

/-- A lane whose station entry begins afresh is without NODE. -/
theorem nodeStands_afresh {t : State} {l : Lane} (h : t.bus.modules = s.bus.modules.set m (s.module m).afresh)
    (hl : s.stationEntry l = some m) : t.nodeStands l = false := by
  have hmod := module_of_set h
  have hentry : t.stationEntry l = some m := by
    refine (stationEntry_congr (s := s) fun i => ?_).trans hl
    rw [hmod]
    split
    · next hi => subst hi; exact ⟨rfl, rfl, rfl⟩
    · exact ⟨rfl, rfl, rfl⟩
  have hm : t.bus.modules[m] = (s.module m).afresh := (hmod m).trans (if_pos rfl)
  unfold State.nodeStands State.healthOf
  rw [hentry, Option.map_some, hm]
  rfl

/-- The restore's end: the entry afresh, its lane's NODE judged, the restore gone. -/
theorem restored_eq (hm : s.nodeEntry e.node = some m) (hi : (s.module m).health = .isolated)
    (hw : s.cash.workQueue = []) (ht : s.tube.requests = []) : (s.exchangeOver.setRestore e).restored e =
      ((s.begunAfresh e m).judgeStation (s.module m).station).endRestore e .restored := by
  have hchange : (s.exchangeOver.setRestore e).changeModule m (fun e =>
      { e.clearMarks with orderErrors := 0, replyErrors := 0, health := .active }) = s.begunAfresh e m := by
    have hne : ({ (s.module m).clearMarks with orderErrors := 0, replyErrors := 0, health := .active } : Module) ≠ s.module m :=
      fun he => by
        have := congrArg Module.health he
        rw [hi] at this
        cases this
    rw [changeModule_bus]
    unfold Module.changedTo
    rw [show (s.exchangeOver.setRestore e).module m = s.module m from rfl, if_neg hne]
    rfl
  have hmod : (s.begunAfresh e m).module m = (s.module m).afresh := by rw [begunAfresh_module, if_pos rfl]
  unfold State.restored
  rw [show (s.exchangeOver.setRestore e).nodeEntry e.node = some m from hm]
  dsimp only
  rw [hchange, tellHealth_reached (s := s.begunAfresh e m) (by rw [hmod]; exact Health.noConfusion) hw ht, hmod]
  rfl

/-- With every table OK, the end of the restore is one event. -/
theorem restored_event (hs : s.soundTables = true) (e : Restore) (m : ModuleId) (o : Option Lane) :
    Event s (((s.begunAfresh e m).stationJudged o).mapBus fun b =>
        { b with restores := b.restores.filter fun y => y.node != e.node })
      (((s.begunAfresh e m).judgeStation o).endRestore e .restored)
      (s.nodeReports ((s.begunAfresh e m).stationJudged o) ++ to7 (.nodeRestore e.node .restored e.probes e.goods))
      (s.nodeRecords ((s.begunAfresh e m).stationJudged o) ++
        [s.stamped { kind := .nodeRestore, facts := [.node e.node, .restore .restored e.probes e.goods] }]) := by
  have h : Event s (s.begunAfresh e m) (s.begunAfresh e m) [] [] := by
    unfold State.begunAfresh State.mapModule State.setRestore State.exchangeOver
    exact ((Event.refl.mapBus _).mapBus _).mapBus _
  have hj := (h.judgeStation (o := o) (u := (s.begunAfresh e m).stationJudged o) (fun q n => sound_copy hs q n) rfl rfl
    rfl).endRestore e .restored
  refine hj.cast rfl (congrArg _ ?_)
  unfold State.stamped
  rw [show ((s.begunAfresh e m).stationJudged o).alarm = s.alarm by cases o <;> rfl]

/-- The end of the restore changes its entry, the restores, and of the Lane Records that of the lane the entry names. -/
theorem restored_laneRec (s : State) (e : Restore) (m : ModuleId) (o : Option Lane) (l : Lane) :
    (((s.begunAfresh e m).judgeStation o).endRestore e .restored).laneRec l =
      if o = some l then s.nodeJudged (((s.begunAfresh e m).judgeStation o).endRestore e .restored) l else s.laneRec l := by
  have hf := (touches_endRestore (s := (s.begunAfresh e m).judgeStation o) (r := e) (x := .restored)).framed
  rw [hf.laneRec l, judgeStation_laneRec]
  split
  · exact nodeJudged_congr rfl (nodeStands_congr hf.moduleTable).symm (hf.policy l).symm
  · rfl

theorem framed_begunAfresh (s : State) (e : Restore) (m : ModuleId) :
    Framed [.outstanding, .asked, .restores, .modules] s (s.begunAfresh e m) := fun p hp => by
  cases p with
  | outstanding | asked | restores | modules => exact absurd (by decide) hp
  | _ => rfl

theorem framed_restored (s : State) (e : Restore) (m : ModuleId) (o : Option Lane) :
    Framed (.outstanding :: .asked :: .restores :: .modules :: holdParts) s
      (((s.begunAfresh e m).judgeStation o).endRestore e .restored) :=
  (framed_begunAfresh s e m).mono.then touches_judgeStation.framed |>.then touches_endRestore.framed

theorem restored_bus (s : State) (e : Restore) (m : ModuleId) (o : Option Lane) :
    (((s.begunAfresh e m).judgeStation o).endRestore e .restored).bus = { s.bus with
      outstanding := none
      restores := s.bus.restores.filter fun y => y.node != e.node
      modules := s.bus.modules.set m (s.module m).afresh } := by
  have hlog := ((Event.refl (s := (s.begunAfresh e m).judgeStation o)).endRestore e .restored).state
  have hbus := (touches_judgeStation (s := s.begunAfresh e m) (o := o)).framed.bus
  rw [hlog]
  change { ((s.begunAfresh e m).judgeStation o).bus with
    restores := ((s.begunAfresh e m).judgeStation o).bus.restores.filter fun y => y.node != e.node } = _
  rw [hbus]
  unfold State.begunAfresh State.mapModule State.setRestore State.exchangeOver
  simp only [State.mapBus_bus, filter_setRestore]

end Restored

/-- RESUME RECYCLER of a recycler that may be resumed, with no work waiting. -/
theorem resumeRecycler_ready {s : State} (hf : s.cash.recycler = .faulted) (hi : s.healthOf s.recyclerEntry ≠ some .isolated)
    (hc : s.cash.condition = .clear) (hw : s.cash.workQueue = []) :
    ∃ a, s.resumeRecycler = ⟨a, .done, .empty⟩ ∧ Event s { s with cash := { s.cash with recycler := .ready } } a
      (to7 (.recyclerState .ready)) [s.stamped { kind := .recyclerResume }] := by
  have he := ((Event.refl (s := s)).mapCash fun k => { k with recycler := .ready }).record { kind := .recyclerResume }
    |>.send7 (.recyclerState .ready)
  refine ⟨_, ?_, he⟩
  unfold State.resumeRecycler
  rw [if_neg (by simpa using hf), if_neg hi, if_neg (by simpa using hc)]
  exact congrArg (fun a => (⟨a, .done, .empty⟩ : Answer)) (arbitrate_none (by rw [he.state]; exact hw))

/-- Settles O44: each probe by its result, the end at a run of 8 by the judgement of the station's lane. -/
theorem restoreAndResumeBringModulesBack : Obligations.RestoreAndResumeBringModulesBack := by
  unfold Obligations.RestoreAndResumeBringModulesBack
  refine ⟨?begin, ?resume, ?good, ?silent, ?restored, ?faulted, ?lost⟩
  case begin =>
    intro s h node m hh hn he hi hc hr hq
    have hact := restoreNode_begins (s := s.takeFrame h .restoreNode) hn he hi hc hr hq
    obtain ⟨t, ht, hlog, htold⟩ := takeMgmt_event (act := fun s => s.restoreNode node) hh hact (Event.refl.mapBus fun b =>
      { b with
        restores := b.restores ++ [{ node := node, run := 0, probes := 0, goods := 0 }]
        outgoing := b.outgoing ++ [{ node := node, content := .probe, owner := .bus }] })
    exact ⟨t, congrArg _ ht, hlog, htold⟩
  case resume =>
    intro s h hh hf hi hc hw
    obtain ⟨a, hact, he⟩ := resumeRecycler_ready (s := s.takeFrame h .resumeRecycler) hf hi hc hw
    obtain ⟨t, ht, hlog, htold⟩ := takeMgmt_event (act := fun s => s.resumeRecycler) hh hact he
    exact ⟨t, congrArg _ ht, hlog, htold⟩
  case good =>
    intro s x e r hx hp hf hw ha hc hb hr hpr hq
    exact (exec_probe_good hx hp hw ha hc hb).trans (congrArg _ (probeEnded_goesOn hf (show e.run + 1 < 8 by omega) hpr hq))
  case silent =>
    intro s x e hx hp hf hw hpr hq
    exact (exec_probe_silent hx hp hw).trans (congrArg _ (probeEnded_goesOn hf (show 0 < 8 by decide) hpr hq))
  case restored =>
    intro s x e r m hx hp hf hw ha hc hb hr hm hcf hi hwq htr
    have hn : (e.after true).node = x.frame.node := (found_node hf : e.node = _)
    have hbar : (s.exchangeOver.setRestore (e.after true)).restoreBarred x.frame.node = false := by
      unfold State.restoreBarred
      rw [show (s.exchangeOver.setRestore (e.after true)).nodeEntry x.frame.node = some m from hm]
      exact hcf
    have h8 : 8 ≤ (e.after true).run := show 8 ≤ e.run + 1 by omega
    have hrun := exec_probe_good hx hp hw ha hc hb
    rw [probeEnded_found (s := s.exchangeOver) hf, if_pos h8, hbar, if_neg (by decide),
      restored_eq (by rw [hn]; exact hm) hi hwq htr] at hrun
    have hrec := restored_laneRec s (e.after true) m (s.module m).station
    have hbus := restored_bus s (e.after true) m (s.module m).station
    have hev := fun hs : s.soundTables = true => restored_event hs (e.after true) m (s.module m).station
    have hadds := adds_judgeStation (s.begunAfresh (e.after true) m) (s.module m).station
    have htold := endRestore_told ((s.begunAfresh (e.after true) m).judgeStation (s.module m).station) (e.after true) .restored
    have hstamp := stamped_congr (s := s) (touches_judgeStation (s := s.begunAfresh (e.after true) m)
      (o := (s.module m).station)).framed.alarm
    have hframe := framed_restored s (e.after true) m (s.module m).station
    rw [hstamp] at htold
    rw [hn] at hbus hev htold
    generalize (((s.begunAfresh (e.after true) m).judgeStation (s.module m).station).endRestore (e.after true) .restored) = t
      at hrun hrec hbus hev htold hframe
    refine ⟨t, hrun, ?_, fun l hl => ?_, fun l hl => ?_, fun l => ?_, fun l => ?_, hframe.policiesKept (hs := fun hs => ?_),
      fun hs => ?_, fun hroom => htold.1 ?_, fun hroom => htold.2 ?_⟩
    · refine hframe.unlogged.trans ?_
      rw [hframe.screen, hframe.dispense, hframe.cash, hframe.deposit, hframe.envelope, hframe.tube, hframe.alarm, hbus]
      rfl
    · rw [hrec, if_pos (station_of_stationEntry hl), nodeJudged_holds, nodeStands_afresh (by rw [hbus]) hl]
    · exact (hrec l).trans (if_neg fun ho => by obtain ⟨hk, hn⟩ := station_eq_some.1 ho; tauto)
    · rw [hrec]
      split
      · exact nodeJudged_rest s t l
      · exact ⟨rfl, rfl⟩
    · simp only [hrec, station_eq_some]
    · rw [(hev hs).state.lanes]
      cases (s.module m).station <;> rfl
    · have hnoted := (hev hs).noted
      have hreports : s.nodeReports t = s.nodeReports ((s.begunAfresh (e.after true) m).stationJudged (s.module m).station) := by
        rw [(hev hs).state]; rfl
      have hrecords : s.nodeRecords t = s.nodeRecords ((s.begunAfresh (e.after true) m).stationJudged (s.module m).station) := by
        rw [(hev hs).state]; rfl
      rw [hreports, hrecords]
      exact hnoted
    · have hlen : _ ≤ s.journal.ring.length + 2 := hadds.records
      have hres : _ = s.journal.reserved := hadds.reserved
      unfold Journal.free at hroom ⊢
      omega
    · have hused : _ ≤ s.link.used + 5 := hadds.reports
      omega
  case faulted =>
    intro s x e r m hx hp hf hw ha hc hb hr hm hcf
    have hn : (e.after true).node = x.frame.node := (found_node hf : e.node = _)
    have hev := restoreFailed_event (s := s) (e.after true)
    rw [hn] at hev
    refine ⟨_, (exec_probe_good hx hp hw ha hc hb).trans (congrArg _ ?_), hev.state, hev.noted⟩
    have hbar : (s.exchangeOver.setRestore (e.after true)).restoreBarred x.frame.node = true := by
      unfold State.restoreBarred
      rw [show (s.exchangeOver.setRestore (e.after true)).nodeEntry x.frame.node = some m from hm]
      exact hcf
    have h8 : 8 ≤ (e.after true).run := show 8 ≤ e.run + 1 by omega
    rw [probeEnded_found (s := s.exchangeOver) hf, if_pos h8, if_pos hbar]
  case lost =>
    intro s x e hx hp hf hw hpr
    have hn : (e.after false).node = x.frame.node := (found_node hf : e.node = _)
    have hev := restoreFailed_event (s := s) (e.after false)
    rw [hn] at hev
    refine ⟨_, (exec_probe_silent hx hp hw).trans (congrArg _ ?_), hev.state, hev.noted⟩
    have h8 : ¬8 ≤ (e.after false).run := show ¬8 ≤ 0 by decide
    have h32 : 32 ≤ (e.after false).probes := show 32 ≤ e.probes + 1 by omega
    rw [probeEnded_found (s := s.exchangeOver) hf, if_neg h8, if_pos h32]

end Sys2Proof.Machine
end

section
/-! SUPPORT. What outcomes leave of the Dispense Table, the deposit slots and the work queue. -/

namespace Sys2Proof.Machine

open Sys2Proof

-- One thread, so that the check's memory holds the stacks.
set_option Elab.async false

/-! ## Dispense records -/

section Dispense

variable {s t : State} {i j : DispenseSlot} {ps : List Part}

/-- A dispense record. -/
def State.recordAt (s : State) (i : DispenseSlot) : Option DispenseRecord := s.dispense.records[i]

theorem Framed.recordAt (h : Framed ps s t) (i : DispenseSlot) (hp : .records ∉ ps := by decide) :
    t.recordAt i = s.recordAt i :=
  congrArg (fun v : Vector (Option DispenseRecord) 8 => v[i]) (h .records hp)

theorem setDispense_recordAt (r : Option DispenseRecord) :
    (s.setDispense i r).recordAt j = if j = i then r else s.recordAt j := setDispense_record i j r

theorem mapDispenseAt_recordAt (f : DispenseRecord → DispenseRecord) :
    (s.mapDispenseAt i f).recordAt j = if j = i then (s.recordAt i).map f else s.recordAt j := setDispense_recordAt _

theorem onDispense_none {act : State → DispenseRecord → State} (h : s.recordAt i = none) : s.onDispense i act = s := by
  unfold State.onDispense
  rw [show s.dispense.records[i] = none from h]

theorem onDispense_some {act : State → DispenseRecord → State} {r : DispenseRecord} (h : s.recordAt i = some r) :
    s.onDispense i act = act s r := by
  unfold State.onDispense
  rw [show s.dispense.records[i] = some r from h]

/-- An operation on a record of the table, by cases of the record. -/
theorem onDispense_cases {act : State → DispenseRecord → State} {Q : State → Prop} (hn : s.recordAt i = none → Q s)
    (hs : ∀ r, s.recordAt i = some r → Q (act s r)) : Q (s.onDispense i act) := by
  cases h : s.recordAt i with
  | none => rw [onDispense_none h]; exact hn h
  | some r => rw [onDispense_some h]; exact hs r h

/-- The charge changes that record alone. -/
theorem lowerCharge_recordAt {n : Nat} (hj : j ≠ i) : (s.lowerCharge i n).recordAt j = s.recordAt j := by
  refine onDispense_cases (Q := fun t => t.recordAt j = s.recordAt j) (fun _ => rfl) fun r _ => ?_
  dsimp only
  split
  · rw [mapDispenseAt_recordAt, if_neg hj]
  · split
    · rw [mapDispenseAt_recordAt, if_neg hj, touches_lowerShift.framed.recordAt, touches_checkAuthority.framed.recordAt]
    · rw [mapDispenseAt_recordAt, if_neg hj, touches_checkAuthority.framed.recordAt]

theorem touchDispense_recordAt (hj : j ≠ i) : (s.touchDispense i).recordAt j = s.recordAt j := by
  unfold State.touchDispense
  rw [mapDispenseAt_recordAt, if_neg hj]

/-- An outcome frees its record and touches no other. -/
theorem endDispense_recordAt {k : RecordKind} {n d : Nat} {c : Option Code} :
    (s.endDispense i k n c d).recordAt j = if j = i then none else s.recordAt j := by
  unfold State.endDispense
  dsimp only
  have hother : j ≠ i → ((if k = .cancelled ∨ k = .retracted then s.lowerCharge i 0 else s).touchDispense i).recordAt j =
      s.recordAt j := fun hj => by
    rw [touchDispense_recordAt hj]
    split
    · exact lowerCharge_recordAt hj
    · rfl
  generalize (if k = .cancelled ∨ k = .retracted then s.lowerCharge i 0 else s).touchDispense i = u at hother ⊢
  refine onDispense_cases (Q := fun t => t.recordAt j = _) (fun hn => ?_) fun r _ => ?_
  · split
    · next h => rw [h]; exact hn
    · next h => exact hother h
  · rw [setDispense_recordAt]
    split
    · rfl
    · next h =>
      rw [touches_reportDispense.framed.recordAt, framed_closeTxn.recordAt, ← hother h]
      split
      · rw [touches_postHold.framed.recordAt, touches_outcome.framed.recordAt]
      · rw [touches_outcome.framed.recordAt]

theorem cancelQueued_recordAt {c : Option Code} : (s.cancelQueued i c).recordAt j = if j = i then none else s.recordAt j := by
  unfold State.cancelQueued
  refine onDispense_cases (Q := fun t => t.recordAt j = _) (fun hn => ?_) fun r _ => ?_
  · split
    · next h => rw [h]; exact hn
    · next h => exact touchDispense_recordAt h
  · rw [endDispense_recordAt]
    split
    · rfl
    · next h => exact touchDispense_recordAt h

theorem endInDoubt_recordAt {b : Bool} {d : Nat} : (s.endInDoubt i b d).recordAt j = if j = i then none else s.recordAt j := by
  unfold State.endInDoubt
  refine onDispense_cases (Q := fun t => t.recordAt j = _) (fun hn => ?_) fun r _ => ?_
  · split
    · next h => rw [h]; exact hn
    · rfl
  · have hm : ∀ u : State, (u.mapDispense fun d => { d with
        inDoubtLanes := if r.lane ∈ d.inDoubtLanes then d.inDoubtLanes else d.inDoubtLanes ++ [r.lane] }).recordAt j =
        u.recordAt j := fun u => rfl
    rw [touches_endOperation.framed.recordAt, hm, endDispense_recordAt, mapDispenseAt_recordAt]
    split
    · rfl
    · split
      · exact (touches_forEach (fun _ _ => touches_markUnreconciled) _ _).framed.recordAt _
      · rfl

end Dispense

/-! ## Deposit slots -/

section Deposit

variable {s t : State} {l m : Lane} {ps : List Part}

theorem mapSession_session (f : Session → Session) :
    (s.mapSession l f).session m = if m = l then (s.session l).map f else s.session m := setSession_session l m _

theorem onSession_none {act : State → Session → State} (h : s.session l = none) : s.onSession l act = s := by
  unfold State.onSession
  rw [h]

theorem onSession_some {act : State → Session → State} {x : Session} (h : s.session l = some x) :
    s.onSession l act = act s x := by
  unfold State.onSession
  rw [h]

theorem onSession_cases {act : State → Session → State} {Q : State → Prop} (hn : s.session l = none → Q s)
    (hs : ∀ x, s.session l = some x → Q (act s x)) : Q (s.onSession l act) := by
  cases h : s.session l with
  | none => rw [onSession_none h]; exact hn h
  | some x => rw [onSession_some h]; exact hs x h

/-- An outcome frees its slot and touches no other. -/
theorem endSession_session {e : SessionEnd} {r : Option Nat} :
    (s.endSession l e r).session m = if m = l then none else s.session m := by
  unfold State.endSession
  dsimp only
  have hother : m ≠ l → (s.touchSession l).session m = s.session m := fun h => by
    unfold State.touchSession
    rw [mapSession_session, if_neg h]
  generalize s.touchSession l = u at hother ⊢
  refine onSession_cases (Q := fun t => t.session m = _) (fun hn => ?_) fun x _ => ?_
  · split
    · next h => rw [h]; exact hn
    · next h => exact hother h
  · have hfree : ∀ v : State, v.session m = u.session m →
        ((v.setSession l none).retire (.acceptBegin l)).session m = if m = l then none else s.session m := fun v hv => by
      rw [touches_retire.framed.session, setSession_session]
      split
      · rfl
      · next h => rw [hv, hother h]
    have hkept : ∀ v : State, v.session m = u.session m →
        ((v.closeTxn l).reportDeposit l e.event e.code).session m = u.session m := fun v hv => by
      rw [touches_reportDeposit.framed.session, framed_closeTxn.session, hv]
    have hpost : (if e.kind = .inDoubt then (u.outcome (x.outcomeEntry l e r)).postHold l .cash
        else u.outcome (x.outcomeEntry l e r)).session m = u.session m := by
      split
      · rw [touches_postHold.framed.session, touches_outcome.framed.session]
      · rw [touches_outcome.framed.session]
    have h := hfree _ (hkept _ hpost)
    split
    · exact h
    · rw [touches_endOperation.framed.session]
      exact h

theorem closeSession_session {c : Option Code} {b : Bool} {r : Option Nat} :
    (s.closeSession l c b r).session m = if m = l then none else s.session m := by
  unfold State.closeSession
  refine onSession_cases (Q := fun t => t.session m = _) (fun hn => ?_) fun x _ => endSession_session
  split
  · next h => rw [h]; exact hn
  · rfl

/-- A session that ends IN DOUBT, its notes' cassettes marked in some way that touches no slot. -/
theorem sessionDoubted_session {b : Bool} {mark : State → Transit → State}
    (hm : ∀ s n, Touches [.cassettes, .reports, .sticky] s (mark s n)) :
    (s.sessionDoubted l b mark).session m = if m = l then none else s.session m := by
  unfold State.sessionDoubted
  refine onSession_cases (Q := fun t => t.session m = _) (fun hn => ?_) fun x _ => ?_
  · split
    · next h => rw [h]; exact hn
    · rfl
  · rw [endSession_session]
    split
    · rfl
    · next h =>
      rw [mapSession_session, if_neg h, touches_doubtValue.framed.session, (touches_forEach hm _ _).framed.session]

end Deposit

/-! ## The work queue, where nothing joins it -/

section Dwindles

variable {s t u : State} {i : DispenseSlot} {l : Lane} {ps : List Part}

/-- No entry joined the work queue, none changed, and a FAULTED recycler stayed FAULTED and no other became so. -/
structure Dwindles (s t : State) : Prop where
  queue : t.cash.workQueue.Sublist s.cash.workQueue
  faulted : t.cash.recycler = .faulted ↔ s.cash.recycler = .faulted

theorem Dwindles.of_framed (h : Framed ps s t) (hp : apart [.workQueue, .recycler] ps = true := by decide) : Dwindles s t := by
  have hq : t.cash.workQueue = s.cash.workQueue := h .workQueue (not_mem_of_apart hp (by decide))
  have hr : t.cash.recycler = s.cash.recycler := h .recycler (not_mem_of_apart hp (by decide))
  exact ⟨by rw [hq], by rw [hr]⟩

theorem Dwindles.refl : Dwindles s s := .of_framed (ps := []) .refl

theorem Dwindles.trans (h : Dwindles s t) (k : Dwindles t u) : Dwindles s u :=
  ⟨k.queue.trans h.queue, k.faulted.trans h.faulted⟩

theorem Dwindles.running (h : Dwindles s t) (hs : ∀ e ∈ s.cash.workQueue, e.running = true) :
    ∀ e ∈ t.cash.workQueue, e.running = true := fun e he => hs e (h.queue.subset he)

theorem dwindles_endOperation {p : WorkEntry → Bool} : Dwindles s (s.endOperation p) := by
  unfold State.endOperation
  split
  · refine ⟨List.filter_sublist, ?_⟩
    simp only [State.dropWork, State.mapWork, State.mapCash]
    by_cases hb : s.cash.recycler = .busy <;> simp [hb]
  · exact .refl

theorem dwindles_endInDoubt {b : Bool} {d : Nat} : Dwindles s (s.endInDoubt i b d) := by
  unfold State.endInDoubt
  refine onDispense_cases (Q := Dwindles s) (fun _ => .refl) fun r _ => ?_
  have hm : Dwindles s (if b = true then s.forEach r.currentPlan fun s p => s.markUnreconciled p.cassette else s) := by
    split
    · exact .of_framed (touches_forEach (fun _ _ => touches_markUnreconciled) _ _).framed
    · exact .refl
  dsimp only
  generalize (if b = true then s.forEach r.currentPlan fun s p => s.markUnreconciled p.cassette else s) = u at hm ⊢
  refine (hm.trans (.of_framed (ps := .inDoubtLanes :: outcomeParts) (Touches.framed ?_))).trans dwindles_endOperation
  exact (touches_mapDispenseAt).mono.then touches_endDispense |>.then touches_setInDoubt

theorem dwindles_endSession {e : SessionEnd} {r : Option Nat} : Dwindles s (s.endSession l e r) := by
  unfold State.endSession
  dsimp only
  refine (Dwindles.of_framed (touches_touchSession (s := s) (l := l)).framed).trans ?_
  generalize s.touchSession l = u
  refine onSession_cases (Q := Dwindles u) (fun _ => .refl) fun x _ => ?_
  have hp : Dwindles u (if e.kind = .inDoubt then (u.outcome (x.outcomeEntry l e r)).postHold l .cash
      else u.outcome (x.outcomeEntry l e r)) := by
    split
    · exact (Dwindles.of_framed touches_outcome.framed).trans (.of_framed touches_postHold.framed)
    · exact .of_framed touches_outcome.framed
  have hf := (((hp.trans (.of_framed (framed_closeTxn (l := l)))).trans
    (.of_framed (touches_reportDeposit (l := l) (e := e.event) (c := e.code)).framed)).trans
    (.of_framed (framed_setSession (l := l) (x := none)))).trans
    (.of_framed (touches_retire (o := .acceptBegin l)).framed)
  split
  · exact hf
  · exact hf.trans dwindles_endOperation

theorem dwindles_closeSession {c : Option Code} {b : Bool} {r : Option Nat} : Dwindles s (s.closeSession l c b r) :=
  onSession_cases (Q := Dwindles s) (fun _ => .refl) fun _ _ => dwindles_endSession

theorem dwindles_sessionDoubted {b : Bool} {mark : State → Transit → State}
    (hm : ∀ s n, Touches [.cassettes, .reports, .sticky] s (mark s n)) : Dwindles s (s.sessionDoubted l b mark) := by
  unfold State.sessionDoubted
  refine onSession_cases (Q := Dwindles s) (fun _ => .refl) fun x _ => ?_
  exact (((Dwindles.of_framed (touches_forEach hm _ _).framed).trans (.of_framed touches_doubtValue.framed)).trans
    (.of_framed touches_mapSession.framed)).trans dwindles_endSession

theorem dwindles_forEach {α : Type} {f : State → α → State} (h : ∀ s a, Dwindles s (f s a)) (ls : List α) :
    Dwindles s (s.forEach ls f) :=
  forEach_preserves (I := Dwindles s) (fun t a ht => ht.trans (h t a)) ls .refl

/-- A dispense under an isolation of the recycler (R64). -/
def State.pickIsolated (s : State) (i : DispenseSlot) : State :=
  s.onDispense i fun s r =>
    let waits := s.waits fun e => e.isPickOf r.id
    match r.state with
    | .queued => if waits then s else s.cancelQueued i (some .recyclerFault)
    | .picking => if waits then s else s.endInDoubt i true
    | .presented => s.endInDoubt i false
    | .taken | .inTransit => s

/-- A session under an isolation of the recycler (R97, R107). -/
def State.sessionIsolated (s : State) (l : Lane) : State :=
  s.onSession l fun s x =>
    if x.running then s.sessionInDoubt l true
    else if s.runs fun e => e.isAcceptOf l then s.closeSession l (some .recyclerFault) true
    else s

/-- A session under a fault of the recycler (R106, R107). -/
def State.sessionFaulted (s : State) (l : Lane) : State :=
  s.onSession l fun s x => if x.state = .queued ∧ true then s.closeSession l (some .recyclerFault) true else s

theorem dwindles_pickIsolated : Dwindles s (s.pickIsolated i) := by
  refine onDispense_cases (Q := Dwindles s) (fun _ => .refl) fun r _ => ?_
  dsimp only
  cases r.state with
  | queued =>
    dsimp only
    split
    · exact .refl
    · exact .of_framed touches_cancelQueued.framed
  | picking =>
    dsimp only
    split
    · exact .refl
    · exact dwindles_endInDoubt
  | presented => exact dwindles_endInDoubt
  | taken => exact .refl
  | inTransit => exact .refl

theorem dwindles_dispenseIsolated : Dwindles s s.dispenseIsolated := dwindles_forEach (fun _ _ => dwindles_pickIsolated) _

theorem dwindles_sessionIsolated : Dwindles s (s.sessionIsolated l) := by
  refine onSession_cases (Q := Dwindles s) (fun _ => .refl) fun x _ => ?_
  split
  · exact dwindles_sessionDoubted fun _ _ => touches_giveUp
  · split
    · exact dwindles_closeSession
    · exact .refl

theorem dwindles_depositIsolated : Dwindles s s.depositIsolated := dwindles_forEach (fun _ _ => dwindles_sessionIsolated) _

theorem dwindles_sessionFaulted : Dwindles s (s.sessionFaulted l) := by
  refine onSession_cases (Q := Dwindles s) (fun _ => .refl) fun x _ => ?_
  split
  · exact dwindles_closeSession
  · exact .refl

theorem dwindles_depositFaulted : Dwindles s s.depositFaulted := dwindles_forEach (fun _ _ => dwindles_sessionFaulted) _

theorem dwindles_handBack {e : WorkEntry} {c : Option Code} {d : Code} : Dwindles s (s.handBack e c d) := by
  unfold State.handBack
  split
  · exact .of_framed touches_pickFlushed.framed
  · exact (Dwindles.of_framed touches_touchSession.framed).trans dwindles_closeSession

end Dwindles

end Sys2Proof.Machine
end

section
/-! SUPPORT. What the setting of the lockdown latch leaves of each block. -/

namespace Sys2Proof.Machine

open Sys2Proof

-- One thread, so that the check's memory holds the stacks.
set_option Elab.async false

variable {s t : State}

theorem Framed.exchange {ps : List Part} (h : Framed ps s t) (hp : .exchange ∉ ps := by decide) :
    t.cash.exchange = s.cash.exchange := h .exchange hp

theorem Framed.requests {ps : List Part} (h : Framed ps s t) (hp : .requests ∉ ps := by decide) :
    t.tube.requests = s.tube.requests := h .requests hp

/-! ## Tube requests -/

/-- A request removed: none is left for its lane, and every other stays. -/
theorem removeRequest_requests (l : Lane) (c : Code) :
    (s.removeRequest l c).tube.requests = s.tube.requests.filter fun r => r.lane ≠ l := by
  unfold State.removeRequest
  cases hr : s.requestOf l with
  | none =>
    refine (List.filter_eq_self.2 fun r hm => ?_).symm
    simpa using List.find?_eq_none.1 hr r hm
  | some r =>
    dsimp only
    generalize (if r.direction = .toLane then (s.carrier l).bound else none) = b
    have hd : (s.dropRequest l).tube.requests = s.tube.requests.filter fun r => r.lane ≠ l := rfl
    have hb : (if b.isSome then (s.dropRequest l).mapCarrier l fun c => { c with bound := none }
        else s.dropRequest l).tube.requests = s.tube.requests.filter fun r => r.lane ≠ l := by
      split
      · rfl
      · exact hd
    generalize (if b.isSome then (s.dropRequest l).mapCarrier l fun c => { c with bound := none } else s.dropRequest l) = u at hb ⊢
    exact ((touches_record.mono (ps := .records :: logParts)).then touches_notifyBack |>.then
      touches_reportCarrier).framed .requests (by decide) |>.trans hb

/-- Every request taken is removed with the others of its lane. -/
theorem removeRequests_requests (c : Code) (rs : List Request) : ((s.forEach rs fun s r => s.removeRequest r.lane c)).tube.requests =
    s.tube.requests.filter fun r => !rs.any fun x => x.lane = r.lane := by
  induction rs generalizing s with
  | nil => exact (List.filter_eq_self.2 fun _ _ => rfl).symm
  | cons x rs ih =>
    have h := ih (s := s.removeRequest x.lane c)
    rw [removeRequest_requests, List.filter_filter] at h
    refine h.trans (List.filter_congr fun r _ => ?_)
    by_cases hx : x.lane = r.lane
    · simp [hx]
    · simp [hx, Ne.symm hx]

/-- Lockdown leaves no TO LANE request (R136). -/
theorem tubeLockdown_requests : ∀ r ∈ s.tubeLockdown.tube.requests, r.direction = .toTeller := by
  intro r hr
  unfold State.tubeLockdown at hr
  rw [removeRequests_requests] at hr
  obtain ⟨hm, hno⟩ := List.mem_filter.1 hr
  cases hd : r.direction with
  | toTeller => rfl
  | toLane =>
    have hin : r ∈ s.tube.requests.filter fun r => r.direction == .toLane := List.mem_filter.2 ⟨hm, by rw [hd]; rfl⟩
    simp only [Bool.not_eq_true', List.any_eq_false] at hno
    exact absurd (by simp) (hno r hin)

/-! ## Sessions -/

theorem enterEnding_session {l m : Lane} {c : EndCause} (h : m ≠ l) : (s.enterEnding l c).session m = s.session m := by
  unfold State.enterEnding
  rw [touches_reportDeposit.framed.session, mapSession_session, if_neg h]
  split
  · rw [mapSession_session, if_neg h, mapSession_session, if_neg h]
  · rw [touches_post.framed.session, mapSession_session, if_neg h]

theorem enterEnding_ending {l : Lane} {c : EndCause} : ∀ x, (s.enterEnding l c).session l = some x → x.state = .ending := by
  unfold State.enterEnding
  rw [touches_reportDeposit.framed.session, mapSession_session, if_pos rfl]
  split
  · rw [mapSession_session, if_pos rfl, mapSession_session, if_pos rfl]
    intro x hx
    obtain ⟨y, hy, rfl⟩ := Option.map_eq_some_iff.1 hx
    obtain ⟨z, hz, rfl⟩ := Option.map_eq_some_iff.1 hy
    obtain ⟨w, -, rfl⟩ := Option.map_eq_some_iff.1 hz
    rfl
  · rw [touches_post.framed.session, mapSession_session, if_pos rfl]
    intro x hx
    obtain ⟨y, hy, rfl⟩ := Option.map_eq_some_iff.1 hx
    obtain ⟨z, -, rfl⟩ := Option.map_eq_some_iff.1 hy
    rfl

theorem touchSession_session {l m : Lane} (h : m ≠ l) : (s.touchSession l).session m = s.session m := by
  unfold State.touchSession
  rw [mapSession_session, if_neg h]

/-- A session under lockdown: an ACTIVE one goes to ENDING (R106). -/
def State.sessionLocked (s : State) (l : Lane) : State :=
  s.onSession l fun s x => if x.state = .active then (s.touchSession l).enterEnding l .lockdown else s

theorem sessionLocked_other {l m : Lane} (h : m ≠ l) : (s.sessionLocked l).session m = s.session m := by
  refine onSession_cases (Q := fun t => t.session m = s.session m) (fun _ => rfl) fun x _ => ?_
  split
  · rw [enterEnding_session h, touchSession_session h]
  · rfl

theorem sessionLocked_own {l : Lane} : ∀ x, (s.sessionLocked l).session l = some x → x.state ≠ .active := by
  refine onSession_cases (Q := fun t => ∀ x, t.session l = some x → x.state ≠ .active) (fun hn x hx => ?_) fun y hy => ?_
  · rw [hn] at hx
    cases hx
  · split
    · intro x hx
      rw [enterEnding_ending x hx]
      decide
    · next h =>
      intro x hx
      rw [hy, Option.some.injEq] at hx
      exact hx ▸ h

/-- Lockdown leaves no ACTIVE session (R106). -/
theorem depositLockdown_session (l : Lane) : ∀ x, s.depositLockdown.session l = some x → x.state ≠ .active := by
  obtain ⟨u, -, -, hf⟩ := forEach_turn (f := State.sessionLocked) (V := fun l s => s.session l) (I := fun _ => True)
    (s := s) (fun _ _ _ => trivial) (fun _ _ _ h => sessionLocked_other h) trivial l
  intro x hx
  exact sessionLocked_own x (hf.symm.trans hx)

/-! ## Dispenses -/

/-- A record that lockdown is done with: not QUEUED, and where PRESENTED its retract ordered (R63). -/
def DispenseRecord.locked (r : DispenseRecord) : Prop :=
  r.state ≠ .queued ∧ (r.state = .presented → r.flags.retractOrdered = true)

/-- A dispense under lockdown (R63). -/
def State.dispenseLocked (s : State) (i : DispenseSlot) : State :=
  s.onDispense i fun s r =>
    if r.state = .queued then s.cancelQueued i none
    else if r.state = .presented ∧ r.flags.retractOrdered = false then (s.touchDispense i).orderRetract i
    else s

theorem orderRetract_recordAt {i j : DispenseSlot} (h : j ≠ i) : (s.orderRetract i).recordAt j = s.recordAt j := by
  refine onDispense_cases (Q := fun t => t.recordAt j = s.recordAt j) (fun _ => rfl) fun r _ => ?_
  dsimp only
  rw [touches_post.framed.recordAt, mapDispenseAt_recordAt, if_neg h]

theorem orderRetract_ordered {i : DispenseSlot} : ∀ r, (s.orderRetract i).recordAt i = some r →
    ∃ x, s.recordAt i = some x ∧ r.state = x.state ∧ r.flags.retractOrdered = true := by
  refine onDispense_cases (Q := fun t => ∀ r, t.recordAt i = some r →
    ∃ x, s.recordAt i = some x ∧ r.state = x.state ∧ r.flags.retractOrdered = true) (fun hn r hr => ?_) fun x hx => ?_
  · rw [hn] at hr
    cases hr
  · dsimp only
    rw [touches_post.framed.recordAt, mapDispenseAt_recordAt, if_pos rfl, hx]
    rintro r hr
    cases hr
    exact ⟨x, rfl, rfl, rfl⟩

theorem touchDispense_own {i : DispenseSlot} : (s.touchDispense i).recordAt i = (s.recordAt i).map fun r =>
    { r with flags := { r.flags with duress := r.flags.duress || s.alarm.duress } } := by
  unfold State.touchDispense
  rw [mapDispenseAt_recordAt, if_pos rfl]

theorem dispenseLocked_other {i j : DispenseSlot} (h : j ≠ i) : (s.dispenseLocked i).recordAt j = s.recordAt j := by
  refine onDispense_cases (Q := fun t => t.recordAt j = s.recordAt j) (fun _ => rfl) fun r _ => ?_
  split
  · rw [cancelQueued_recordAt, if_neg h]
  · split
    · rw [orderRetract_recordAt h, touchDispense_recordAt h]
    · rfl

theorem dispenseLocked_own {i : DispenseSlot} : ∀ r, (s.dispenseLocked i).recordAt i = some r → r.locked := by
  refine onDispense_cases (Q := fun t => ∀ r, t.recordAt i = some r → r.locked) (fun hn r hr => ?_) fun x hx => ?_
  · rw [hn] at hr
    cases hr
  · split
    · rw [cancelQueued_recordAt, if_pos rfl]
      exact fun r hr => nomatch hr
    · next hq =>
      split
      · intro r hr
        obtain ⟨y, hy, hst, ho⟩ := orderRetract_ordered r hr
        rw [touchDispense_own, hx] at hy
        cases hy
        exact ⟨by rw [hst]; exact hq, fun _ => ho⟩
      · next hp =>
        intro r hr
        rw [hx, Option.some.injEq] at hr
        subst hr
        exact ⟨hq, fun h => by simpa [h] using hp⟩

theorem dispenseLockdown_locked (i : DispenseSlot) : ∀ r, s.dispenseLockdown.recordAt i = some r → r.locked := by
  obtain ⟨u, -, -, hf⟩ := forEach_turn (f := State.dispenseLocked) (V := fun i s => s.recordAt i) (I := fun _ => True)
    (s := s) (fun _ _ _ => trivial) (fun _ _ _ h => dispenseLocked_other h) trivial i
  intro r hr
  exact dispenseLocked_own r (hf.symm.trans hr)

/-- A carrier's bundle back at TELLER undoes nothing of lockdown: it is TAKEN. -/
theorem noticeBack_locked {id : Nat} (h : ∀ i r, s.recordAt i = some r → r.locked) :
    ∀ i r, (s.noticeBack id).recordAt i = some r → r.locked := by
  unfold State.noticeBack
  split
  · exact h
  · next j _ =>
    have ht : ∀ i r, (s.touchDispense j).recordAt i = some r → r.locked := fun i r hr => by
      by_cases hij : i = j
      · subst hij
        rw [touchDispense_own] at hr
        obtain ⟨x, hx, rfl⟩ := Option.map_eq_some_iff.1 hr
        exact h i x hx
      · rw [touchDispense_recordAt hij] at hr
        exact h i r hr
    refine onDispense_cases (Q := fun t => ∀ i r, t.recordAt i = some r → r.locked) (fun _ => ht) fun x _ => ?_
    split
    · intro i r hr
      rw [touches_reportDispense.framed.recordAt, mapDispenseAt_recordAt] at hr
      split at hr
      · obtain ⟨y, -, rfl⟩ := Option.map_eq_some_iff.1 hr
        exact ⟨nofun, nofun⟩
      · exact ht i r hr
    · exact ht

theorem removeRequest_locked {l : Lane} {c : Code} (h : ∀ i r, s.recordAt i = some r → r.locked) :
    ∀ i r, (s.removeRequest l c).recordAt i = some r → r.locked := by
  unfold State.removeRequest
  split
  · exact h
  · next x _ =>
    dsimp only
    generalize (if x.direction = .toLane then (s.carrier l).bound else none) = b
    have hb : ∀ i, (if b.isSome then (s.dropRequest l).mapCarrier l fun c => { c with bound := none }
        else s.dropRequest l).recordAt i = s.recordAt i := fun i => by split <;> rfl
    generalize (if b.isSome then (s.dropRequest l).mapCarrier l fun c => { c with bound := none } else s.dropRequest l) = u at hb ⊢
    have hr : ∀ e, ∀ i r, (u.record e).recordAt i = some r → r.locked := fun e i r hr => by
      rw [touches_record.framed.recordAt, hb] at hr
      exact h i r hr
    intro i r hi
    rw [touches_reportCarrier.framed.recordAt] at hi
    cases b with
    | none => exact hr _ i r hi
    | some id => exact noticeBack_locked (hr _) i r hi

theorem tubeLockdown_locked (h : ∀ i r, s.recordAt i = some r → r.locked) :
    ∀ i r, s.tubeLockdown.recordAt i = some r → r.locked :=
  forEach_preserves (I := fun s => ∀ i r, s.recordAt i = some r → r.locked) (fun _ _ hs => removeRequest_locked hs) _ h

/-! ## The work queue and the Exchange Authorisation -/

theorem endExchange_exchange {c : Cause} : (s.endExchange c).cash.exchange = none := by
  unfold State.endExchange
  cases hx : s.cash.exchange with
  | none => exact hx
  | some a =>
    exact (touches_changeCassette.mono (ps := .cassettes :: logParts) |>.then touches_record |>.then touches_send7).framed.exchange

theorem lockdownFlush_exchange : s.lockdownFlush.cash.exchange = none := endExchange_exchange

/-- Lockdown leaves only running work entries (R90). -/
theorem lockdownFlush_running : ∀ e ∈ s.lockdownFlush.cash.workQueue, e.running = true := by
  have hm : ∀ e ∈ (s.mapWork fun q => q.filter fun e => e.running).cash.workQueue, e.running = true := fun e he =>
    (List.mem_filter.1 he).2
  have hf := (dwindles_forEach (s := s.mapWork fun q => q.filter fun e => e.running)
    (f := fun s e => s.handBack e none .condition) (fun _ _ => dwindles_handBack)
    (s.cash.workQueue.filter fun e => !e.running)).running hm
  unfold State.lockdownFlush
  dsimp only
  generalize State.forEach _ _ _ = u at hf ⊢
  exact (Dwindles.of_framed (touches_post.framed)).trans (.of_framed touches_endExchange.framed) |>.running hf

/-! ## A cause of LOCKDOWN taken (R151) -/

/-- What the lockdown latch leaves, once set by a cause. -/
structure LockedDown (s t : State) : Prop where
  alarm : t.alarm = { s.alarm with lockdown := true, localOutput := true }
  running : ∀ e ∈ t.cash.workQueue, e.running = true
  exchange : t.cash.exchange = none
  requests : ∀ r ∈ t.tube.requests, r.direction = .toTeller
  records : ∀ i r, t.recordAt i = some r → r.locked
  sessions : ∀ l x, t.session l = some x → x.state ≠ .active

theorem raiseLockdown_lockedDown {c : Cause} (h : s.alarm.lockdown = false) : LockedDown s (s.raiseLockdown c) := by
  unfold State.raiseLockdown
  rw [if_neg (by rw [h]; decide)]
  dsimp only
  have hflush : Framed (.exchange :: moneyParts) (s.setLockdownLatch true) _ :=
    ((touches_record (s := s.setLockdownLatch true) (e := { kind := .conditionSet, facts := [.condition .lockdown, .cause c] })
      ).mono.then touches_lockdownFlush).framed
  generalize ((s.setLockdownLatch true).record _) = u at hflush ⊢
  have hx := lockdownFlush_exchange (s := u)
  have hw := lockdownFlush_running (s := u)
  generalize u.lockdownFlush = v at hflush hx hw ⊢
  have hdisp := (touches_dispenseLockdown (s := v)).framed
  have hrec := dispenseLockdown_locked (s := v)
  generalize v.dispenseLockdown = w at hdisp hrec ⊢
  have hdep := (touches_depositLockdown (s := w)).framed
  have hses := depositLockdown_session (s := w)
  generalize w.depositLockdown = x at hdep hses ⊢
  have henv := (touches_envelopeLockdown (s := x)).framed
  generalize x.envelopeLockdown = y at henv ⊢
  have htube := ((touches_tubeLockdown (s := y)).mono (ps := .requests :: .carriers :: .records :: logParts)
    |>.then touches_reportWall7 |>.then touches_reportWallConsoles).framed
  have hreq := tubeLockdown_requests (s := y)
  have hloc := tubeLockdown_locked (s := y) fun i r hr => hrec i r (by rwa [henv.recordAt, hdep.recordAt] at hr)
  have hrep : Framed logParts y.tubeLockdown y.tubeLockdown.reportWall7.reportWallConsoles :=
    (touches_reportWall7.mono.then touches_reportWallConsoles).framed
  exact {
    alarm := by rw [htube.alarm, henv.alarm, hdep.alarm, hdisp.alarm, hflush.alarm]; rfl
    running := (((Dwindles.of_framed hdisp).trans (.of_framed hdep)).trans ((Dwindles.of_framed henv).trans
      (.of_framed htube))).running hw
    exchange := by
      rw [htube.exchange, henv.exchange, hdep.exchange, hdisp.exchange, hx]
    requests := by
      rw [hrep.requests]
      exact hreq
    records := fun i r hr => hloc i r (by rwa [hrep.recordAt] at hr)
    sessions := fun l z hz => hses l z (by rwa [htube.session, henv.session] at hz) }

end Sys2Proof.Machine
end

section
/-! PROOFS. Loop readings, arm timers and trips (O54). -/

namespace Sys2Proof.Machine

open Sys2Proof

-- One thread, so that the check's memory holds the stacks.
set_option Elab.async false

/-! ## Loop Table entries -/

section Loops

variable {s c t : State} {i j : LoopId} {items : List Item} {records : List Entry}

theorem mapLoop_eq (f : Loop → Loop) : s.mapLoop i f =
    { s with alarm := { s.alarm with loops := s.alarm.loops.set i (f (s.loop i)) } } := rfl

theorem mapLoop_loop (f : Loop → Loop) : (s.mapLoop i f).loop j = if j = i then f (s.loop i) else s.loop j := by
  have hval : i.val = j.val ↔ j = i := by rw [Fin.ext_iff, eq_comm]
  unfold State.loop
  rw [mapLoop_eq]
  simp only [Fin.getElem_fin, Vector.getElem_set, hval]
  rfl

theorem mapLoop_mapLoop (f g : Loop → Loop) : (s.mapLoop i f).mapLoop i g = s.mapLoop i fun k => g (f k) := by
  rw [mapLoop_eq g, mapLoop_loop, if_pos rfl]
  simp only [mapLoop_eq, Vector.set_set]

theorem mapLoop_congr {f g : Loop → Loop} (h : f (s.loop i) = g (s.loop i)) : s.mapLoop i f = s.mapLoop i g := by
  rw [mapLoop_eq, mapLoop_eq, h]

theorem Event.mapLoop (h : Event s c t items records) (f : Loop → Loop) :
    Event s (c.mapLoop i f) (t.mapLoop i f) items records := h.mapAlarm _

theorem LogsOnly.loop (h : LogsOnly c t) (i : LoopId) : t.loop i = c.loop i := by rw [h]; rfl

/-- A record that names a loop, and a LOOP report. -/
theorem Event.recordLoop (h : Event s c t items records) (i : LoopId) (k : RecordKind) (fs : List Fact) :
    Event s c (t.recordLoop i k fs) items
      (records ++ [c.stamped { kind := k, lane := (c.loop i).lane, facts := .loop i :: fs }]) := by
  unfold State.recordLoop
  rw [h.state.loop]
  exact h.record _

theorem Event.reportLoop (h : Event s c t items records) (i : LoopId) :
    Event s c (t.reportLoop i) (items ++ to7 (.loop i (c.loop i).state (c.loop i).band (c.loop i).tripFact)) records := by
  unfold State.reportLoop
  rw [h.state.loop]
  exact h.send7 _

theorem checkLoop_ok (h : (s.loop i).check = {}) : s.checkLoop i = s := by simp [State.checkLoop, h]

end Loops

/-! ## Readings (R141, R144) -/

section Readings

variable {s : State} {i : LoopId} {n : Nat}

/-- A reading and its band taken into the entry. -/
def State.taking (s : State) (i : LoopId) (b : Band) (n : Nat) : State :=
  s.mapLoop i fun k => { k with band := some b, reading := n }

theorem exec_loopReading {b : Band} (hk : (s.loop i).kind ≠ .none) (hb : bandOf n = b) : exec (.loopReading i n) s = .next
    (match (s.loop i).state with
    | .disarmed => s.taking i b n
    | .arming => (s.taking i b n).readArming i b.group
    | .watching => if b.group = .secure then s.taking i b n else (s.taking i b n).startQualify i b.group
    | .qualifying => (s.taking i b n).readQualifying i b.group
    | .tripped => if (s.loop i).kind = .safeDoor ∧ b = .secure ∧ (s.loop i).band ≠ some .secure then
        (s.taking i b n).safeSecured i else s.taking i b n) := by
  subst hb
  refine congrArg Host.Outcome.next (?_ : s.readLoop i n = _)
  have hc : (s.loop i).configured = true := by simpa [Loop.configured] using hk
  unfold State.readLoop
  dsimp only
  rw [if_pos hc]
  rfl

theorem taking_loop (b : Band) : (s.taking i b n).loop i = { s.loop i with band := some b, reading := n } := by
  unfold State.taking
  rw [mapLoop_loop, if_pos rfl]

theorem bandOf_shorted (h : n < 150) : bandOf n = .shorted := if_pos h

theorem bandOf_secure (h : 150 ≤ n ∧ n ≤ 399) : bandOf n = .secure := by
  unfold bandOf
  rw [if_neg (by omega), if_pos (by omega)]

theorem bandOf_active (h : 400 ≤ n ∧ n ≤ 799) : bandOf n = .active := by
  unfold bandOf
  rw [if_neg (by omega), if_neg (by omega), if_pos (by omega)]

theorem bandOf_cut (h : 800 ≤ n) : bandOf n = .cut := by
  unfold bandOf
  rw [if_neg (by omega), if_neg (by omega), if_neg (by omega)]

/-- A new candidate of a loop whose configuration is OK. -/
theorem startQualify_ok {b : Band} {g : BandGroup} (hs : s.soundTables = true) : (s.taking i b n).startQualify i g =
    s.mapLoop i fun k => { k with
      band := some b, reading := n, state := .qualifying, candidate := some (g, s.now)
      qualifyTimer := some ⟨s.now, (s.loop i).qualify⟩ } := by
  unfold State.startQualify
  rw [checkLoop_ok (by rw [taking_loop]; exact sound_loop hs i)]
  unfold State.taking
  dsimp only
  rw [mapLoop_mapLoop]
  refine mapLoop_congr ?_
  dsimp only
  rw [sound_loop hs i]
  rfl

theorem readQualifying_secure : (s.taking i .secure n).readQualifying i .secure = s.mapLoop i fun k => { k with
    band := some .secure, reading := n, state := .watching, candidate := none, qualifyTimer := none } :=
  mapLoop_mapLoop (fun k : Loop => { k with band := some .secure, reading := n })
    fun k => { k with state := .watching, candidate := none, qualifyTimer := none }

/-- A reading of the candidate's own group leaves the qualification as it is. -/
theorem readQualifying_same {b : Band} {start : Time} (hb : b.group ≠ .secure)
    (hc : (s.loop i).candidate = some (b.group, start)) : (s.taking i b n).readQualifying i b.group = s.taking i b n := by
  unfold State.readQualifying
  rw [if_neg hb, taking_loop]
  dsimp only
  rw [hc]
  exact if_pos (by simp)

/-- A reading of the other group begins it anew. -/
theorem readQualifying_other {b : Band} {g : BandGroup} {start : Time} (hb : b.group ≠ .secure)
    (hc : (s.loop i).candidate = some (g, start)) (hg : g ≠ b.group) (hq : (s.loop i).state = .qualifying)
    (hs : s.soundTables = true) : (s.taking i b n).readQualifying i b.group = s.mapLoop i fun k => { k with
      band := some b, reading := n, candidate := some (b.group, s.now)
      qualifyTimer := some ⟨s.now, (s.loop i).qualify⟩ } := by
  have hne : ¬((s.taking i b n).loop i).candidate.any (fun c => c.1 == b.group) = true := by
    rw [taking_loop]
    simp [hc, hg]
  unfold State.readQualifying
  rw [if_neg hb, if_neg hne, startQualify_ok hs]
  refine mapLoop_congr ?_
  rw [← hq]

/-- The open set's last loop secured: the depository is empty and the authorisation over (R121). -/
theorem safeSecured_last (h : s.envelope.safe = some (.opened [i])) :
    ∃ t, (s.taking i .secure n).safeSecured i = t ∧ Event s
      { s with
        alarm := { s.alarm with loops := s.alarm.loops.set i { s.loop i with band := some .secure, reading := n } }
        envelope := { s.envelope with count := 0, safe := none } } t
      (to7 (.depository 0 s.envelope.setting.value s.inProgress))
      [s.stamped { kind := .emptied, noteCount := s.envelope.count }] := by
  have hsec : (s.taking i .secure n).safeSecured i =
      ((s.taking i .secure n).mapEnvelope fun e => { e with safe := some (.opened []) }).emptied := by
    unfold State.safeSecured
    rw [show (s.taking i .secure n).envelope.safe = some (.opened [i]) from h]
    simp
  have he := (((Event.refl (s := s)).mapLoop (i := i) fun k => { k with band := some .secure, reading := n }).mapEnvelope
    fun e => { e with count := 0, safe := some (.opened []) }).record { kind := .emptied, noteCount := s.envelope.count }
  have hreport : State.depositoryReport _ = .depository 0 s.envelope.setting.value s.inProgress :=
    congrArg State.depositoryReport he.state
  refine ⟨_, hsec, ?_⟩
  have hend := (he.send7 (.depository 0 s.envelope.setting.value s.inProgress)).mapEnvelope fun e => { e with safe := none }
  rw [← hreport] at hend
  refine Event.cast (more := _) hend ?_ rfl
  rw [hreport]
  rfl

/-- The first SECURE reading in ARMING (R143). -/
theorem readArming_secure : ∃ t, (s.taking i .secure n).readArming i .secure = t ∧ Event s
    { s with alarm := { s.alarm with loops := s.alarm.loops.set i { s.loop i with
        band := some .secure, reading := n, state := .watching, armTimer := none, armFailed := false } } } t
    (to7 (.loop i .watching (some .secure)
      ((s.loop i).trip.map fun x => .trip (s.loop i).kind (s.loop i).lane x.cause x.applied n)))
    [s.stamped { kind := .loopArmed, lane := (s.loop i).lane, facts := [.loop i] }] := by
  refine ⟨_, congrArg (fun u => (u.recordLoop i .loopArmed).reportLoop i) (mapLoop_mapLoop
    (fun k : Loop => { k with band := some .secure, reading := n })
    fun k => { k with state := .watching, armTimer := none, armFailed := false }), ?_⟩
  have he := (((Event.refl (s := s)).mapLoop (i := i) fun k => { k with
    band := some .secure, reading := n, state := .watching, armTimer := none, armFailed := false }).recordLoop i
    .loopArmed []).reportLoop i
  rw [mapLoop_loop, if_pos rfl] at he
  exact he

/-- The arm timer of an ARMING loop (R143). -/
theorem armExpired_event (h : (s.loop i).state = .arming) : Event s
    { s with alarm := { s.alarm with loops := s.alarm.loops.set i { s.loop i with armFailed := true, armTimer := none } } }
    (s.armExpired i) (to7 (.loop i .arming (s.loop i).band (s.loop i).tripFact))
    [s.stamped { kind := .armFailed, lane := (s.loop i).lane, facts := [.loop i, .band (s.loop i).band] }] := by
  have he := (((Event.refl (s := s)).mapLoop (i := i) fun k => { k with armFailed := true, armTimer := none }).recordLoop i
    .armFailed [.band (s.loop i).band]).reportLoop i
  unfold State.armExpired
  dsimp only
  rw [mapLoop_loop, if_pos rfl] at he ⊢
  rw [← h]
  exact he

end Readings

/-! ## Trips (R146, R147) -/

section Trips

variable {s c t u : State} {i : LoopId} {g : BandGroup} {applied : List Response} {start : Time} {items : List Item}
  {records : List Entry}

/-- A tripped loop, before its response is decided. -/
def State.untried (s : State) (i : LoopId) : State :=
  s.mapLoop i fun k => { k with state := .tripped, candidate := none, qualifyTimer := none }

/-- A tripped loop with its applied response. -/
def State.tripped (s : State) (i : LoopId) (g : BandGroup) (applied : List Response) : State :=
  s.mapLoop i fun k => { k with
    state := .tripped, candidate := none, qualifyTimer := none, trip := some ⟨g, applied, s.now⟩ }

/-- What a trip leaves once its response has had its effect: the record and the report. -/
def State.tellTrip (s : State) (i : LoopId) : State :=
  (s.recordLoop i .loopTrip (s.loop i).tripFact.toList).reportLoop i

theorem untried_loop : (s.untried i).loop i =
    { s.loop i with state := .tripped, candidate := none, qualifyTimer := none } := by
  unfold State.untried
  rw [mapLoop_loop, if_pos rfl]

theorem tripped_loop : (s.tripped i g applied).loop i = { s.loop i with
    state := .tripped, candidate := none, qualifyTimer := none, trip := some ⟨g, applied, s.now⟩ } := by
  unfold State.tripped
  rw [mapLoop_loop, if_pos rfl]

theorem untried_trip : ((s.untried i).mapLoop i fun k => { k with trip := some ⟨g, applied, s.now⟩ }) =
    s.tripped i g applied := mapLoop_mapLoop ..

theorem tripped_event : Event s (s.tripped i g applied) (s.tripped i g applied) [] [] := Event.refl.mapLoop _

/-- The due qualify timer of a loop whose configuration is OK trips it. -/
theorem exec_qualifyTimer (hs : s.soundTables = true) (hq : (s.loop i).state = .qualifying)
    (hd : timerDue (s.loop i).qualifyTimer s.now = true) (hc : (s.loop i).candidate = some (g, start))
    (ha : (s.untried i).appliedTo i g = (u, applied)) : exec (.qualifyTimerExpiry i) s = .next
      (((u.mapLoop i fun k => { k with trip := some ⟨g, applied, s.now⟩ }).forEach applied fun s r =>
        s.respondTrip i r).tellTrip i) := by
  have hdue : ((s.loop i).state == .qualifying && timerDue (s.loop i).qualifyTimer s.now) = true := by rw [hq, hd]; rfl
  have hcause : ((s.loop i).candidate.map Prod.fst).getD .fault = g := by rw [hc]; rfl
  have hcheck : (s.untried i).checkLoop i = s.untried i := checkLoop_ok (by rw [untried_loop]; exact sound_loop hs i)
  refine congrArg Host.Outcome.next ((if_pos hdue).trans ?_)
  unfold State.tripLoop
  dsimp only
  unfold State.untried at hcheck ha
  rw [hcause, hcheck, ha]
  rfl

/-- By ACTIVE a loop applies its response, where no Safe Opening Authorisation is asked. -/
theorem appliedTo_active (hs : s.soundTables = true) (hsafe : (s.loop i).kind = .safeDoor → s.envelope.safe = none) :
    (s.untried i).appliedTo i .active = (s.untried i, [(s.loop i).response]) := by
  have hf : ((s.untried i).loop i).check.faulted = false := by rw [untried_loop]; exact congrArg Check.faulted (sound_loop hs i)
  unfold State.appliedTo
  dsimp only
  rw [hf, untried_loop]
  simp only [Bool.false_eq_true, if_false, reduceCtorEq]
  split
  · next hk =>
    have hno : (s.untried i).consultSafe i = (s.untried i, false) := by
      unfold State.consultSafe
      rw [show (s.untried i).envelope.safe = none from hsafe hk]
    rw [hno]
    rfl
  · rfl

/-- By FAULT a loop that is neither TAMPER nor SAFE DOOR applies NOTIFY, and LANE HOLD where it has a lane. -/
theorem appliedTo_fault (hs : s.soundTables = true) (ht : (s.loop i).kind ≠ .tamper) (hd : (s.loop i).kind ≠ .safeDoor) :
    (s.untried i).appliedTo i .fault =
      (s.untried i, if 1 ≤ (s.loop i).lane ∧ (s.loop i).lane ≤ 6 then [.notify, .laneHold] else [.notify]) := by
  have hf : ((s.untried i).loop i).check.faulted = false := by rw [untried_loop]; exact congrArg Check.faulted (sound_loop hs i)
  unfold State.appliedTo
  dsimp only
  rw [hf, untried_loop]
  simp [Loop.faultResponses, ht, hd]

/-- The record and the report of a trip. -/
theorem Event.tellTrip (h : Event s c t items records) (hl : c.loop i = { s.loop i with
    state := .tripped, candidate := none, qualifyTimer := none, trip := some ⟨g, applied, s.now⟩ }) :
    Event s c (t.tellTrip i)
      (items ++ to7 (.loop i .tripped (s.loop i).band
        (some (.trip (s.loop i).kind (s.loop i).lane g applied (s.loop i).reading))))
      (records ++ [c.stamped { kind := .loopTrip, lane := (s.loop i).lane
                               facts := [.loop i, .trip (s.loop i).kind (s.loop i).lane g applied (s.loop i).reading] }]) := by
  have he := (h.recordLoop i .loopTrip (t.loop i).tripFact.toList).reportLoop i
  rw [h.state.loop, hl] at he
  unfold State.tellTrip
  rw [h.state.loop, hl]
  exact he

/-- The due qualify timer of a loop that asks no authorisation: the response has its effect, and the trip is told. -/
theorem exec_trip (hs : s.soundTables = true) (hq : (s.loop i).state = .qualifying)
    (hd : timerDue (s.loop i).qualifyTimer s.now = true) (hc : (s.loop i).candidate = some (g, start))
    (ha : (s.untried i).appliedTo i g = (s.untried i, applied)) : exec (.qualifyTimerExpiry i) s = .next
      (((s.tripped i g applied).forEach applied fun s r => s.respondTrip i r).tellTrip i) := by
  rw [exec_qualifyTimer hs hq hd hc ha, untried_trip]

theorem forEach_one {α : Type} (s : State) (f : State → α → State) (a : α) : s.forEach [a] f = f s a := rfl

/-- The same with one response. -/
theorem exec_trip_one {r : Response} (hs : s.soundTables = true) (hq : (s.loop i).state = .qualifying)
    (hd : timerDue (s.loop i).qualifyTimer s.now = true) (hc : (s.loop i).candidate = some (g, start))
    (ha : (s.untried i).appliedTo i g = (s.untried i, [r])) : exec (.qualifyTimerExpiry i) s = .next
      (((s.tripped i g [r]).respondTrip i r).tellTrip i) := by
  have hrun := exec_trip hs hq hd hc ha
  rwa [forEach_one] at hrun

/-- A trip whose response is without effect. -/
theorem trip_unheeded (hs : s.soundTables = true) (hq : (s.loop i).state = .qualifying)
    (hd : timerDue (s.loop i).qualifyTimer s.now = true) (hc : (s.loop i).candidate = some (g, start))
    (ha : (s.untried i).appliedTo i g = (s.untried i, applied))
    (hr : ((s.tripped i g applied).forEach applied fun s r => s.respondTrip i r) = s.tripped i g applied) :
    ∃ t, exec (.qualifyTimerExpiry i) s = .next t ∧ LogsOnly (s.tripped i g applied) t ∧ Noted s t
      (to7 (.loop i .tripped (s.loop i).band
        (some (.trip (s.loop i).kind (s.loop i).lane g applied (s.loop i).reading))))
      [s.stamped { kind := .loopTrip, lane := (s.loop i).lane
                   facts := [.loop i, .trip (s.loop i).kind (s.loop i).lane g applied (s.loop i).reading] }] := by
  have he := (tripped_event (s := s) (i := i) (g := g) (applied := applied)).tellTrip tripped_loop
  refine ⟨_, exec_trip hs hq hd hc ha, ?_⟩
  rw [hr]
  exact ⟨he.state, he.noted⟩

/-- NOTIFY, and the setting of a latch already set, are without effect. -/
theorem respondTrip_unheeded {r : Response} (h : r = .notify ∨ r = .duress ∧ s.alarm.duress = true ∨
    r = .lockdown ∧ s.alarm.lockdown = true) :
    ((s.tripped i g applied).forEach [r] fun s r => s.respondTrip i r) = s.tripped i g applied := by
  change (s.tripped i g applied).respondTrip i r = _
  rcases h with rfl | ⟨rfl, hl⟩ | ⟨rfl, hl⟩
  · rfl
  · exact if_pos hl
  · exact if_pos hl

end Trips

/-! ## Cassettes suspended (R147, R77) -/

section Cassettes

variable {s c t u : State} {items : List Item} {records : List Entry} {d : CassetteId}

/-- A Cassette Table entry set. -/
def State.setCassette (s : State) (d : CassetteId) (k : Cassette) : State :=
  s.mapCash fun x => { x with cassettes := x.cassettes.set d k }

theorem setCassette_cassette (s : State) (d e : CassetteId) (k : Cassette) :
    (s.setCassette d k).cassette e = if e = d then k else s.cassette e := by
  have hval : d.val = e.val ↔ e = d := by rw [Fin.ext_iff, eq_comm]
  simp only [State.setCassette, State.mapCash, State.cassette, Fin.getElem_fin, Vector.getElem_set, hval]

theorem mapCassette_eq (s : State) (d : CassetteId) (f : Cassette → Cassette) : s.mapCassette d f =
    if (f (s.cassette d)).shown d = (s.cassette d).shown d then s.setCassette d (f (s.cassette d))
    else (s.setCassette d (f (s.cassette d))).send7 ((s.setCassette d (f (s.cassette d))).cassetteReport d) := by
  have hown : (s.setCassette d (f (s.cassette d))).cassette d = f (s.cassette d) := by
    rw [setCassette_cassette, if_pos rfl]
  unfold State.mapCassette
  change (if ((s.setCassette d (f (s.cassette d))).cassette d).shown d = (s.cassette d).shown d then _ else _) = _
  rw [hown]
  rfl

/-- A change of a cassette, told where its shown state changes (R76). -/
theorem Event.mapCassette (h : Event s c t items records) {f : Cassette → Cassette} (hs : c.cassette d = s.cassette d)
    (hu : u.cassette d = f (s.cassette d)) :
    Event s (c.setCassette d (f (s.cassette d))) (t.mapCassette d f) (items ++ s.shownChange u d) records := by
  have ht : t.cassette d = s.cassette d := by rw [h.state, ← hs]; rfl
  have hset : Event s (c.setCassette d (f (s.cassette d))) (t.setCassette d (f (s.cassette d))) items records := h.mapCash _
  have hrep : (t.setCassette d (f (s.cassette d))).cassetteReport d = u.cassetteReport d := by
    unfold State.cassetteReport
    rw [setCassette_cassette, if_pos rfl, hu]
  unfold State.shownChange
  rw [mapCassette_eq, ht, hu, hrep]
  split
  · exact hset.cast (List.append_nil _).symm rfl
  · exact hset.send7 _

theorem foldl_setCassette (ds : List CassetteId) (new : CassetteId → Cassette) (c : State) :
    ds.foldl (fun c d => c.setCassette d (new d)) c =
      c.mapCash fun k => { k with cassettes := Vector.ofFn fun e => if e ∈ ds then new e else k.cassettes[e] } := by
  induction ds generalizing c with
  | nil =>
    have hv : (Vector.ofFn fun e : CassetteId => c.cash.cassettes[e]) = c.cash.cassettes := by ext i hi; simp
    simp only [List.foldl_nil, List.not_mem_nil, if_false, State.mapCash, hv]
  | cons d ds ih =>
    have hv : (Vector.ofFn fun e : CassetteId => if e ∈ ds then new e else (c.cash.cassettes.set d (new d))[e]) =
        Vector.ofFn fun e : CassetteId => if e ∈ d :: ds then new e else c.cash.cassettes[e] := by
      congr 1
      funext e
      have hval : d.val = e.val ↔ e = d := by rw [Fin.ext_iff, eq_comm]
      simp only [Fin.getElem_fin, Vector.getElem_set, hval, List.mem_cons]
      by_cases hm : e ∈ ds <;> by_cases hd : e = d <;> simp [hm, hd]
    rw [List.foldl_cons, ih]
    unfold State.setCassette State.mapCash
    dsimp only
    rw [hv]

/-- A change of several cassettes, each told where its shown state changes. -/
theorem Event.forEachCassette {f : Cassette → Cassette} {ds : List CassetteId} (hn : ds.Nodup)
    (h : Event s c t items records) (hs : ∀ d ∈ ds, c.cassette d = s.cassette d)
    (hu : ∀ d ∈ ds, u.cassette d = f (s.cassette d)) :
    Event s (ds.foldl (fun c d => c.setCassette d (f (s.cassette d))) c) (t.forEach ds fun s d => s.mapCassette d f)
      (items ++ ds.flatMap (s.shownChange u)) records := by
  induction ds generalizing c t items with
  | nil => exact h.cast (List.append_nil _).symm rfl
  | cons d ds ih =>
    obtain ⟨hd, hn⟩ := List.nodup_cons.1 hn
    have hrest := ih hn (h.mapCassette (hs d (by simp)) (hu d (by simp))) (fun e he => ?_) fun e he => hu e (by simp [he])
    · exact hrest.cast (by simp) rfl
    · have hne : e ≠ d := fun hx => hd (hx ▸ he)
      rw [setCassette_cassette, if_neg hne]
      exact hs e (by simp [he])

/-- A cassette with a loop among its suspension causes. -/
def Cassette.suspendedBy (k : Cassette) (i : LoopId) : Cassette :=
  { k with causes := { k.causes with loops := if i ∈ k.causes.loops then k.causes.loops else k.causes.loops ++ [i] } }

/-- Cassettes 1 to 6 suspended by a loop. -/
def State.allSuspended (s : State) (i : LoopId) : State :=
  s.mapCash fun k => { k with
    cassettes := Vector.ofFn fun d : CassetteId => if isWork d then (s.cassette d).suspendedBy i else s.cassette d }

theorem mem_workCassettes : d ∈ workCassettes ↔ isWork d = true := by
  revert d
  decide

theorem allSuspended_cassette (i : LoopId) : (s.allSuspended i).cassette d =
    if isWork d then (s.cassette d).suspendedBy i else s.cassette d := by
  simp [State.allSuspended, State.cassette, State.mapCash]

/-- With every table OK, the suspension of cassettes 1 to 6 is one event. -/
theorem Event.suspendFor (hs : s.soundTables = true) (h : Event s c t items records) (hc : c.cash = s.cash) {i : LoopId}
    (hu : u.cash = (s.allSuspended i).cash) :
    Event s (c.mapCash fun _ => (s.allSuspended i).cash) (t.suspendFor i)
      (items ++ workCassettes.flatMap (s.shownChange u)) records := by
  have hcs : ∀ d, c.cassette d = s.cassette d := fun d => by unfold State.cassette; rw [hc]
  have hnew : ∀ d, ({ (s.cassette d).suspendedBy i with check := (s.cassette d).check.recomputed } : Cassette) =
      (s.cassette d).suspendedBy i := fun d => by
    have hok := sound_cassette hs d
    rw [show (s.cassette d).check.recomputed = (s.cassette d).check by rw [hok]; rfl]
    rfl
  have hud : ∀ d ∈ workCassettes, u.cassette d = (s.cassette d).suspendedBy i := fun d hd => by
    rw [show u.cassette d = (s.allSuspended i).cassette d by unfold State.cassette; rw [hu], allSuspended_cassette,
      if_pos (mem_workCassettes.1 hd)]
  have hall := h.forEachCassette (f := fun k => { k.suspendedBy i with check := k.check.recomputed }) (ds := workCassettes)
    (u := u) (by decide) (fun d _ => hcs d) fun d hd => (hud d hd).trans (hnew d).symm
  rw [foldl_setCassette] at hall
  simp only [hnew, mem_workCassettes] at hall
  have hcore : (c.mapCash fun k => { k with
      cassettes := Vector.ofFn fun e => if isWork e = true then (s.cassette e).suspendedBy i else k.cassettes[e] }) =
      c.mapCash fun _ => (s.allSuspended i).cash := by
    unfold State.mapCash
    dsimp only
    rw [hc]
    rfl
  rw [hcore] at hall
  exact hall

end Cassettes

section TripEffects

variable {s : State} {i : LoopId} {start : Time}

theorem respondTrip_suspend : s.respondTrip i .suspendCassettes = s.suspendFor i := by
  unfold State.respondTrip
  rfl

/-- A trip that sets the duress latch (R150). -/
theorem trip_duress (hs : s.soundTables = true) (hq : (s.loop i).state = .qualifying)
    (hd : timerDue (s.loop i).qualifyTimer s.now = true) (hc : (s.loop i).candidate = some (.active, start))
    (ha : (s.untried i).appliedTo i .active = (s.untried i, [.duress])) (hl : s.alarm.duress = false) :
    ∃ t, exec (.qualifyTimerExpiry i) s = .next t ∧ LogsOnly
      ((s.tripped i .active [.duress]).mapAlarm fun a => { a with duress := true, silentOutput := true }) t := by
  have hraise : (s.tripped i .active [.duress]).respondTrip i .duress =
      (((s.tripped i .active [.duress]).setDuressLatch true).recordLoop i .conditionSet [.condition .duress]).reportWall7 :=
    if_neg (by rw [show (s.tripped i .active [.duress]).alarm.duress = s.alarm.duress from rfl, hl]; decide)
  refine ⟨_, exec_trip_one hs hq hd hc ha, ?_⟩
  rw [hraise]
  exact (((logsOnly_record ..).trans (logsOnly_send7 ..)).trans (logsOnly_record ..)).trans (logsOnly_send7 ..)

theorem LockedDown.logsOnly {t u : State} (h : LockedDown s t) (k : LogsOnly t u) : LockedDown s u := by
  rw [k]
  exact ⟨h.alarm, h.running, h.exchange, h.requests, h.records, h.sessions⟩

/-- A trip that sets the lockdown latch (R151). -/
theorem trip_lockdown {g : BandGroup} (hs : s.soundTables = true) (hq : (s.loop i).state = .qualifying)
    (hd : timerDue (s.loop i).qualifyTimer s.now = true) (hc : (s.loop i).candidate = some (g, start))
    (ha : (s.untried i).appliedTo i g = (s.untried i, [.lockdown])) (hl : s.alarm.lockdown = false) :
    ∃ t, exec (.qualifyTimerExpiry i) s = .next t ∧ LockedDown (s.tripped i g [.lockdown]) t :=
  ⟨_, exec_trip_one hs hq hd hc ha, (raiseLockdown_lockedDown (s := s.tripped i g [.lockdown]) (c := .loop i) hl).logsOnly
    ((logsOnly_record ..).trans (logsOnly_send7 ..))⟩

/-- A trip that suspends the cassettes (R147). -/
theorem trip_suspend (hs : s.soundTables = true) (hq : (s.loop i).state = .qualifying)
    (hd : timerDue (s.loop i).qualifyTimer s.now = true) (hc : (s.loop i).candidate = some (.active, start))
    (ha : (s.untried i).appliedTo i .active = (s.untried i, [.suspendCassettes])) :
    ∃ t, exec (.qualifyTimerExpiry i) s = .next t
      ∧ LogsOnly ((s.tripped i .active [.suspendCassettes]).mapCash fun _ => (s.allSuspended i).cash) t
      ∧ Noted s t (workCassettes.flatMap (s.shownChange t) ++ to7 (.loop i .tripped (s.loop i).band
          (some (.trip (s.loop i).kind (s.loop i).lane .active [.suspendCassettes] (s.loop i).reading))))
        [s.stamped { kind := .loopTrip, lane := (s.loop i).lane, facts :=
          [.loop i, .trip (s.loop i).kind (s.loop i).lane .active [.suspendCassettes] (s.loop i).reading] }] := by
  have he := ((tripped_event (s := s) (i := i) (g := .active) (applied := [.suspendCassettes])).suspendFor hs rfl
    (u := s.allSuspended i) rfl).tellTrip tripped_loop
  have hrun := exec_trip_one hs hq hd hc ha
  rw [respondTrip_suspend] at hrun
  refine ⟨_, hrun, he.state, ?_⟩
  have hshown : ∀ t : State, LogsOnly ((s.tripped i .active [.suspendCassettes]).mapCash fun _ => (s.allSuspended i).cash) t →
      s.shownChange t = s.shownChange (s.allSuspended i) := fun t ht => by rw [ht]; rfl
  rw [hshown _ he.state]
  exact he.noted

/-- A latched reason new to its lane, whose copy in force is OK (R9): the lane is settled and told of. -/
theorem Event.postHold {c t : State} {items : List Item} {records : List Entry} (h : Event s c t items records) {l : Lane}
    {r : HoldReason} (hc : (c.policy l).check = {}) (hn : (c.laneRec l).holds.has r = false) :
    Event s ((c.mapLane l fun x => { x with holds := x.holds.add r }).settle l) (t.postHold l r)
      (items ++ ((c.mapLane l fun x => { x with holds := x.holds.add r }).settle l).announced l (c.laneRec l))
      (records ++ [c.stamped { kind := .hold, lane := numberOf l, facts := [.reason r] }]) := by
  have ht : t.laneRec l = c.laneRec l := h.state.laneRec l
  have he := ((h.mapLane l fun x => { x with holds := x.holds.add r }).record
    { kind := .hold, lane := numberOf l, facts := [.reason r] }).settleAndAnnounce (b := c.laneRec l)
    (by rw [mapLane_policy c l l rfl]; exact hc)
  unfold State.postHold
  dsimp only
  rw [ht, if_neg (by rw [hn]; decide)]
  exact he

/-- The lane of a trip by LOOP: what R9 makes of its record. -/
def LaneRecord.loopHeld (r : LaneRecord) (isOpen : Bool) : LaneRecord :=
  { r with
    holds := { r.holds with loop := true }
    state := if r.state = .closed ∨ r.txn = none ∧ isOpen = false then .closed else .held }

theorem loopHeld_settled (r : LaneRecord) (b : Bool) : settledState { r with holds := { r.holds with loop := true } } b =
    (r.loopHeld b).state := by
  unfold settledState LaneRecord.loopHeld Holds.any
  by_cases hc : r.state = .closed <;> by_cases ho : r.txn = none ∧ b = false <;> simp [hc, ho]

/-- LOOP posted to a lane: its record, as the settling leaves it. -/
theorem settle_loopHeld {l : Lane} (hc : (s.policy l).check = {}) :
    (s.mapLane l fun x => { x with holds := x.holds.add .loop }).settle l =
      s.mapLane l fun x => x.loopHeld (s.policy l).isOpen := by
  unfold State.settle
  rw [mapLane_mapLane, mapLane_policy s l l rfl, readsOpen_ok hc]
  refine mapLane_congr ?_
  exact (congrArg (fun st => { s.laneRec l with holds := { (s.laneRec l).holds with loop := true }, state := st })
    (loopHeld_settled (s.laneRec l) (s.policy l).isOpen))

/-- A trip that posts LOOP to its lane (R147, R9). -/
theorem trip_laneHold {g : BandGroup} {applied : List Response} {l : Lane} (hs : s.soundTables = true)
    (hq : (s.loop i).state = .qualifying) (hd : timerDue (s.loop i).qualifyTimer s.now = true)
    (hc : (s.loop i).candidate = some (g, start)) (ha : (s.untried i).appliedTo i g = (s.untried i, applied))
    (happ : applied = [.laneHold] ∨ applied = [.notify, .laneHold]) (hl : (s.loop i).lane = numberOf l)
    (hn : (s.laneRec l).holds.loop = false) :
    ∃ t, exec (.qualifyTimerExpiry i) s = .next t
      ∧ LogsOnly ((s.tripped i g applied).mapLane l fun x => x.loopHeld (s.policy l).isOpen) t
      ∧ Noted s t (t.toServing l (laneReportOf l (t.laneRec l)) (laneReportOf l (t.laneRec l)) ++
          to7 (.loop i .tripped (s.loop i).band
            (some (.trip (s.loop i).kind (s.loop i).lane g applied (s.loop i).reading))))
        [s.stamped { kind := .hold, lane := numberOf l, facts := [.reason .loop] },
          s.stamped { kind := .loopTrip, lane := (s.loop i).lane
                      facts := [.loop i, .trip (s.loop i).kind (s.loop i).lane g applied (s.loop i).reading] }] := by
  have hnum : numbered 6 ((s.tripped i g applied).loop i).lane = some l := by
    rw [tripped_loop]
    exact numbered_eq_some.2 hl
  have hrespond : ((s.tripped i g applied).forEach applied fun s r => s.respondTrip i r) =
      (s.tripped i g applied).postHold l .loop := by
    have hhold : (s.tripped i g applied).respondTrip i .laneHold = (s.tripped i g applied).postHold l .loop := by
      unfold State.respondTrip
      dsimp only
      rw [hnum]
    rcases happ with rfl | rfl
    · rw [forEach_one, hhold]
    · exact hhold
  have hpol : ((s.tripped i g applied).policy l).check = {} := sound_policy hs l
  have he := ((tripped_event (s := s) (i := i) (g := g) (applied := applied)).postHold (l := l) (r := .loop)
    hpol hn).tellTrip tripped_loop
  rw [settle_loopHeld hpol] at he
  have hrun := exec_trip hs hq hd hc ha
  rw [hrespond] at hrun
  have hrec : ((s.tripped i g applied).mapLane l fun x => x.loopHeld (s.policy l).isOpen).laneRec l =
      (s.laneRec l).loopHeld (s.policy l).isOpen := by rw [mapLane_laneRec, if_pos rfl]; rfl
  have hnew : ((s.tripped i g applied).mapLane l fun x => x.loopHeld (s.policy l).isOpen).announced l (s.laneRec l) = _ :=
    announced_changed (.inr fun h => by rw [hrec] at h; simpa [LaneRecord.loopHeld, hn] using congrArg Holds.loop h)
  refine ⟨_, hrun, he.state, ?_⟩
  have hp : ∀ t, LogsOnly ((s.tripped i g applied).mapLane l fun x => x.loopHeld (s.policy l).isOpen) t →
      t.toServing l (laneReportOf l (t.laneRec l)) (laneReportOf l (t.laneRec l)) =
        ((s.tripped i g applied).mapLane l fun x => x.loopHeld (s.policy l).isOpen).announced l (s.laneRec l) := fun t ht => by
    rw [hnew, ht.laneRec l]
    exact toServing_congr (ht.policy l)
  rw [hp _ he.state]
  exact he.noted

/-- The open set with a loop (R121). -/
def SafeOpening.openedBy (a : SafeOpening) (i : LoopId) : List LoopId :=
  match a with
  | .waiting _ => [i]
  | .opened set => if i ∈ set then set else set ++ [i]

/-- A Safe Opening Authorisation opened by a loop. -/
def State.safeOpened (s : State) (a : SafeOpening) (i : LoopId) : State :=
  s.mapEnvelope fun e => { e with safe := some (.opened (a.openedBy i)) }

theorem consultSafe_some {a : SafeOpening} (h : s.envelope.safe = some a) : s.consultSafe i =
    ((s.safeOpened a i).record { kind := .safeDoorOpened, facts := [.loop i] }, true) := by
  unfold State.consultSafe
  rw [h]
  rfl

/-- A trip by ACTIVE under a Safe Opening Authorisation (R121). -/
theorem trip_safeDoor {a : SafeOpening} (hs : s.soundTables = true)
    (hq : (s.loop i).state = .qualifying) (hd : timerDue (s.loop i).qualifyTimer s.now = true)
    (hc : (s.loop i).candidate = some (.active, start)) (hk : (s.loop i).kind = .safeDoor) (hsafe : s.envelope.safe = some a) :
    ∃ t, exec (.qualifyTimerExpiry i) s = .next t
      ∧ LogsOnly ((s.tripped i .active [.notify]).safeOpened a i) t
      ∧ Noted s t (to7 (.loop i .tripped (s.loop i).band
            (some (.trip (s.loop i).kind (s.loop i).lane .active [.notify] (s.loop i).reading))))
        [s.stamped { kind := .safeDoorOpened, facts := [.loop i] },
          s.stamped { kind := .loopTrip, lane := (s.loop i).lane
                      facts := [.loop i, .trip (s.loop i).kind (s.loop i).lane .active [.notify] (s.loop i).reading] }] := by
  have happ : (s.untried i).appliedTo i .active =
      (((s.untried i).safeOpened a i).record { kind := .safeDoorOpened, facts := [.loop i] }, [.notify]) := by
    have hf : ((s.untried i).loop i).check.faulted = false := by
      rw [untried_loop]; exact congrArg Check.faulted (sound_loop hs i)
    unfold State.appliedTo
    dsimp only
    rw [hf, untried_loop, consultSafe_some (s := s.untried i) hsafe]
    simp [hk]
  have hcore : ((s.untried i).safeOpened a i).mapLoop i (fun k => { k with trip := some ⟨.active, [.notify], s.now⟩ }) =
      (s.tripped i .active [.notify]).safeOpened a i := congrArg (State.safeOpened · a i) untried_trip
  have hopen : Event s ((s.untried i).safeOpened a i) (((s.untried i).safeOpened a i).record
      { kind := .safeDoorOpened, facts := [.loop i] }) [] [s.stamped { kind := .safeDoorOpened, facts := [.loop i] }] :=
    ((Event.refl.mapLoop _).mapEnvelope _).record { kind := .safeDoorOpened, facts := [.loop i] }
  have he := hopen.mapLoop (i := i) fun k => { k with trip := some ⟨.active, [.notify], s.now⟩ }
  rw [hcore] at he
  have hrun := exec_qualifyTimer hs hq hd hc happ
  rw [forEach_one] at hrun
  have hend := he.tellTrip (i := i) (g := .active) (applied := [.notify]) tripped_loop
  exact ⟨_, hrun, hend.state, hend.noted⟩

end TripEffects

/-- Settles O54: the readings by their bands, the trips by the responses they apply. -/
theorem loopReadingsAndTimersMoveTheLoop : Obligations.LoopReadingsAndTimersMoveTheLoop := by
  unfold Obligations.LoopReadingsAndTimersMoveTheLoop
  refine ⟨?watchSecure, ?watchActive, ?watchFault, ?qualifySecure, ?qualifySame, ?qualifyActive, ?qualifyFault, ?trippedStays,
    ?emptied, ?armed, ?unread, ?armFailed, ?plainTrip, ?faultTrip, ?duress, ?suspend, ?lockdown, ?laneHold, ?safeDoor⟩
  case watchSecure =>
    intro s i n hk hst hn
    rw [exec_loopReading hk (bandOf_secure hn), hst]
    rfl
  case watchActive =>
    intro s i n hs hk hst hn
    rw [exec_loopReading hk (bandOf_active hn), hst]
    exact congrArg _ (startQualify_ok hs)
  case watchFault =>
    intro s i n hs hk hst hn
    rcases hn with hn | hn
    · rw [exec_loopReading hk (bandOf_shorted hn), hst, if_pos hn]
      exact congrArg _ (startQualify_ok hs)
    · rw [exec_loopReading hk (bandOf_cut hn), hst, if_neg (show ¬n < 150 by omega)]
      exact congrArg _ (startQualify_ok hs)
  case qualifySecure =>
    intro s i n hk hst hn
    rw [exec_loopReading hk (bandOf_secure hn), hst]
    exact congrArg _ readQualifying_secure
  case qualifySame =>
    intro s i n start hk hst hc
    rcases hc with ⟨hg, hn⟩ | ⟨hg, hn | hn⟩
    · rw [exec_loopReading hk (bandOf_active hn), hst, if_neg (show ¬n < 150 by omega), if_pos (show n < 800 by omega)]
      exact congrArg _ (readQualifying_same (b := .active) (by decide) hg)
    · rw [exec_loopReading hk (bandOf_shorted hn), hst, if_pos hn]
      exact congrArg _ (readQualifying_same (b := .shorted) (by decide) hg)
    · rw [exec_loopReading hk (bandOf_cut hn), hst, if_neg (show ¬n < 150 by omega), if_neg (show ¬n < 800 by omega)]
      exact congrArg _ (readQualifying_same (b := .cut) (by decide) hg)
  case qualifyActive =>
    intro s i n start hs hk hst hc hn
    rw [exec_loopReading hk (bandOf_active hn), hst]
    exact congrArg _ (readQualifying_other (b := .active) (by decide) hc (by decide) hst hs)
  case qualifyFault =>
    intro s i n start hs hk hst hc hn
    rcases hn with hn | hn
    · rw [exec_loopReading hk (bandOf_shorted hn), hst, if_pos hn]
      exact congrArg _ (readQualifying_other (b := .shorted) (by decide) hc (by decide) hst hs)
    · rw [exec_loopReading hk (bandOf_cut hn), hst, if_neg (show ¬n < 150 by omega)]
      exact congrArg _ (readQualifying_other (b := .cut) (by decide) hc (by decide) hst hs)
  case trippedStays =>
    intro s i n hk hst hn
    have hno : ¬((s.loop i).kind = .safeDoor ∧ bandOf n = .secure ∧ (s.loop i).band ≠ some .secure) := by
      rintro ⟨hd, hb, hne⟩
      rcases hn with h | h | h | h
      · exact h hd
      · rw [bandOf_shorted h] at hb
        cases hb
      · by_cases h8 : n < 800
        · rw [bandOf_active ⟨h, by omega⟩] at hb
          cases hb
        · rw [bandOf_cut (by omega)] at hb
          cases hb
      · exact hne h
    rw [exec_loopReading hk rfl, hst]
    dsimp only
    rw [if_neg hno]
    have hband : some (bandOf n) =
        if n < 150 then some .shorted else if n < 400 then some .secure else if n < 800 then some .active else some .cut := by
      unfold bandOf
      split_ifs <;> rfl
    exact congrArg (fun b => Host.Outcome.next { s with alarm := { s.alarm with
      loops := s.alarm.loops.set i { s.loop i with band := b, reading := n } } }) hband
  case emptied =>
    intro s i n hk hst hn hb hsafe
    have hsome : (s.loop i).kind ≠ .none := by rw [hk]; decide
    obtain ⟨t, ht, he⟩ := safeSecured_last (s := s) (i := i) (n := n) hsafe
    refine ⟨t, ?_, he.state, he.noted⟩
    rw [exec_loopReading hsome (bandOf_secure hn), hst]
    dsimp only
    rw [if_pos ⟨hk, rfl, hb⟩, ht]
  case armed =>
    intro s i n hk hst hn
    obtain ⟨t, ht, he⟩ := readArming_secure (s := s) (i := i) (n := n)
    refine ⟨t, ?_, he.state, he.noted⟩
    rw [exec_loopReading hk (bandOf_secure hn), hst]
    exact congrArg _ ht
  case unread =>
    intro s i n hk
    have hc : ¬(s.loop i).configured = true := by simp [Loop.configured, hk]
    exact congrArg Host.Outcome.next (if_neg hc)
  case armFailed =>
    intro s i hst hd
    have he := armExpired_event hst
    refine ⟨s.armExpired i, congrArg Host.Outcome.next (if_pos ?_), he.state, he.noted⟩
    rw [hst, hd]
    rfl
  case plainTrip =>
    intro s i start hs hq hd hc hsafe hr
    exact trip_unheeded hs hq hd hc (appliedTo_active hs hsafe) (respondTrip_unheeded hr)
  case faultTrip =>
    intro s i start hs hq hd hc ht hsd hl
    have happ := appliedTo_fault hs ht hsd
    rw [if_neg (by omega)] at happ
    exact trip_unheeded hs hq hd hc happ rfl
  case duress =>
    intro s i start hs hq hd hc hsafe hr hl
    have happ := appliedTo_active hs hsafe
    rw [hr] at happ
    exact trip_duress hs hq hd hc happ hl
  case suspend =>
    intro s i start hs hq hd hc hsafe hr
    have happ := appliedTo_active hs hsafe
    rw [hr] at happ
    exact trip_suspend hs hq hd hc happ
  case lockdown =>
    intro s i start hs hq hd hc hsafe hr hl
    have happ := appliedTo_active hs hsafe
    rw [hr] at happ
    obtain ⟨t, ht, hdown⟩ := trip_lockdown hs hq hd hc happ hl
    refine ⟨t, ht, hdown.alarm, List.all_eq_true.2 hdown.running, hdown.exchange, ?_, fun k => ?_, fun l => ?_⟩
    · exact List.all_eq_true.2 fun r hm => decide_eq_true (hdown.requests r hm)
    · exact (Option.all_eq_true ..).2 fun r hrec => decide_eq_true (hdown.records k r hrec).2
    · exact (Option.all_eq_true ..).2 fun x hx => decide_eq_true (hdown.sessions l x hx)
  case laneHold =>
    intro s i start g applied l hs hq hd hc happ hl hn
    refine trip_laneHold hs hq hd hc ?_ ?_ hl hn
    · rcases happ with ⟨rfl, hr, hsafe, rfl⟩ | ⟨rfl, ht, hsd, rfl⟩
      · rw [appliedTo_active hs hsafe, hr]
      · rw [appliedTo_fault hs ht hsd, if_pos (by rw [hl, numberOf]; omega)]
    · rcases happ with ⟨-, -, -, rfl⟩ | ⟨-, -, -, rfl⟩
      · exact .inl rfl
      · exact .inr rfl
  case safeDoor =>
    intro s i start a hs hq hd hc hk hsafe
    exact trip_safeDoor hs hq hd hc hk hsafe

end Sys2Proof.Machine
end

section
/-! SUPPORT. How an exchange's result ends it, and what it does to its node's entry (R160, R162, R164). -/

namespace Sys2Proof.Machine

open Sys2Proof

-- One thread, so that the check's memory holds the stacks.
set_option Elab.async false

/-! ## Module Table entries -/

section Entries

variable {s : State} {m j : ModuleId} {e : Module}

/-- A Module Table entry set. -/
def State.setModule (s : State) (m : ModuleId) (e : Module) : State :=
  s.mapBus fun b => { b with modules := b.modules.set m e }

theorem setModule_module : (s.setModule m e).module j = if j = m then e else s.module j := module_of_set rfl j

theorem setModule_setModule {e' : Module} : (s.setModule m e).setModule m e' = s.setModule m e' := by
  simp [State.setModule, State.mapBus]

theorem setModule_self : s.setModule m (s.module m) = s := by
  simp [State.setModule, State.mapBus, State.module]

theorem changeModule_eq (f : Module → Module) : s.changeModule m f =
    s.setModule m ((s.module m).changedTo (f (s.module m))) := rfl

theorem touches_setModule : Touches [.modules] s (s.setModule m e) := touches_mapModule (f := fun _ => e)

/-- A change the hardware makes alters no more than its own fields and the parity. -/
theorem changedTo_eq (e e' : Module) : ∃ c, e.changedTo e' = { e' with check := c } := by
  unfold Module.changedTo
  split
  · next h => exact ⟨e.check, by rw [h]⟩
  · exact ⟨_, rfl⟩

theorem changedTo_of_ne {e' : Module} (h : e' ≠ e) : e.changedTo e' = { e' with check := e'.check.recomputed } := if_neg h

end Entries

/-! ## The result of an exchange (R160) -/

section Results

variable {s : State} {x : Exchange} {m : ModuleId} {r : BusReply} {o : BusOrder} {res : Result} {b : ReplyBody}

theorem exec_reply (hx : s.bus.outstanding = some x) (hw : x.window.past s.now = false) (r : BusReply) :
    exec (.wallBusReplyTaken (.fields r)) s = .next (s.endBusExchange x (resultOf x.frame r) (contentOf r)) := by
  refine congrArg Host.Outcome.next (?_ : s.takeReply r = _)
  simp only [State.takeReply, hx, hw]
  rfl

theorem exec_windowOver (hx : s.bus.outstanding = some x) (hw : timerDue (some x.window) s.now = true) :
    exec (.replyWindowExpiry) s = .next (s.endBusExchange x .silent .plain) := by
  refine congrArg Host.Outcome.next (?_ : s.windowExpired = _)
  simp only [State.windowExpired, hx, hw]
  rfl

theorem resultOf_damages (h : damages r x) : resultOf x.frame r = .damaged := by
  unfold resultOf
  refine if_pos ?_
  rcases h with h | h | h <;> simp [h]

theorem resultOf_acknowledges (hc : x.frame.content = .order o) (h : acknowledges r x o) : resultOf x.frame r = .good := by
  obtain ⟨⟨hok, hdest, hsource⟩, hcls, hkind, hread, hplain⟩ := h
  have hack : ackOk o r.cls r.body = true := by
    rw [hcls]
    cases hb : r.body with
    | unreadable => exact absurd hb hread
    | answer => rw [hb] at hplain; cases hplain
    | plain | refusal | poll => cases o <;> rfl
  simp [resultOf, hok, hdest, hsource, hc, hkind, hcls ▸ hack, hcls]

theorem resultOf_refusal {reason : Nat} (hc : x.frame.content = .order o) (ha : replyAnswers r x) (hcls : r.cls = 7)
    (hkind : r.kind = o.number) (hb : r.body = .refusal reason) : resultOf x.frame r = .refused reason := by
  obtain ⟨hok, hdest, hsource⟩ := ha
  simp [resultOf, hok, hdest, hsource, hc, hkind, hcls, hb]

/-- A result is counted, and then handed to the owner of the frame, unless the order is due to be resent (R160, R162). -/
theorem endBusExchange_judged (hp : x.frame.content ≠ .probe) (hm : s.nodeEntry x.frame.node = some m)
    (hi : (s.module m).health ≠ .isolated) : s.endBusExchange x res b =
      if x.resendable && res.lost then (s.exchangeOver.mapBus fun k => { k with resend := some x.frame }).updateHealth m res
      else (s.exchangeOver.updateHealth m res).deliver x.frame res b := by
  have hm' : s.exchangeOver.nodeEntry x.frame.node = some m := hm
  have hi' : ¬(s.exchangeOver.module m).health = .isolated := hi
  unfold State.exchangeOver at hm' hi' ⊢
  unfold State.endBusExchange
  dsimp only
  rw [if_neg hp, hm']
  exact if_neg hi'

theorem endBusExchange_resent (hc : x.frame.content = .order o) (hm : s.nodeEntry x.frame.node = some m)
    (hi : (s.module m).health ≠ .isolated) (ho : o.isMoney = false) (hx : x.isResend = false) (hl : res.lost = true) :
    s.endBusExchange x res b = (s.exchangeOver.mapBus fun k => { k with resend := some x.frame }).updateHealth m res := by
  rw [endBusExchange_judged (by rw [hc]; nofun) hm hi, if_pos (by simp [Exchange.resendable, hc, ho, hx, hl])]

theorem endBusExchange_delivered (hp : x.frame.content ≠ .probe) (hm : s.nodeEntry x.frame.node = some m)
    (hi : (s.module m).health ≠ .isolated) (hr : x.resendable = false ∨ res.lost = false) :
    s.endBusExchange x res b = (s.exchangeOver.updateHealth m res).deliver x.frame res b := by
  rw [endBusExchange_judged hp hm hi, if_neg (by rcases hr with h | h <;> simp [h])]

theorem resendable_money (hc : x.frame.content = .order o) (h : o.isMoney = true ∨ x.isResend = true) :
    x.resendable = false := by
  rcases h with h | h <;> simp [Exchange.resendable, hc, h]

theorem resendable_poll (hc : x.frame.content = .poll) : x.resendable = false := by simp [Exchange.resendable, hc]

/-! ### What the owner of a frame does with a result -/

theorem deliver_unheeded (hc : x.frame.content = .order o) (ho : o.unheeded = true) : s.deliver x.frame res b = s := by
  unfold State.deliver
  rw [hc]
  cases o with
  | route | acceptEnd | eject | blowerStop | binCount | lockBays | unlockBays => rfl
  | pick | retract | statusQuery | acceptBegin | capture | blowerMove | denominations => cases ho

theorem deliver_poll (hc : x.frame.content = .poll) (h : res ≠ .good) : s.deliver x.frame res b = s := by
  unfold State.deliver
  rw [hc]
  exact if_neg h

/-- What the owners of orders may change by a result. -/
abbrev deliverParts : List Part := .partState :: .goPending :: .condition :: captureParts ++ tubeParts ++ moneyParts

theorem touches_deliver_order (hc : x.frame.content = .order o) : Touches deliverParts s (s.deliver x.frame res b) := by
  unfold State.deliver
  rw [hc]
  cases o with
  | pick => exact touches_pickEnded.mono
  | retract => exact touches_retractEnded.mono
  | statusQuery => exact touches_queryEnded.mono
  | acceptBegin => exact touches_acceptBeginEnded.mono.then touches_arbitrate
  | capture => exact touches_captureEnded.mono
  | blowerMove => exact touches_blowerMoveEnded.mono
  | denominations => exact touches_goEnded.mono
  | route | acceptEnd | eject | blowerStop | binCount | lockBays | unlockBays => exact .refl

end Results

/-! ## Health (R164) -/

section Health

variable {s : State} {m j : ModuleId} {r : Result} {mark : Nat}

/-- The entry of an ACTIVE node whose counters stay below 96, after a result. -/
def Module.after (e : Module) : Result → Module
  | .good => e.bettered
  | .refused _ => e
  | .silent => e.recounted (e.orderErrors + 8) e.replyErrors
  | .damaged => e.recounted e.orderErrors (e.replyErrors + 1)

theorem crosses_below {t : Nat} {e e' : Module} (ht : 96 ≤ t) (ho : e'.orderErrors < 96) (hr : e'.replyErrors < 96) :
    crosses t e e' = false := by
  unfold crosses
  simp only [decide_eq_false_iff_not]
  omega

/-- Counters changed and then marks cleared are one change of the entry. -/
theorem changedTo_clearMarks {e e' : Module} (hk : e'.clearMarks = e → e'.clearMarks = e') :
    (e.changedTo e').changedTo (e.changedTo e').clearMarks = e.changedTo e'.clearMarks := by
  by_cases h : e' = e
  · subst h
    rw [changedTo_self]
  · rw [changedTo_of_ne h]
    by_cases hm : e'.clearMarks = e'
    · have hm' : ({ e' with check := e'.check.recomputed } : Module).clearMarks = { e' with check := e'.check.recomputed } :=
        congrArg (fun k : Module => { k with check := e'.check.recomputed }) hm
      rw [hm', changedTo_self, hm, changedTo_of_ne h]
    · have hm' : ({ e' with check := e'.check.recomputed } : Module).clearMarks ≠ { e' with check := e'.check.recomputed } :=
        fun h => hm (congrArg (fun k : Module => { k with check := e'.check }) h)
      rw [changedTo_of_ne hm', changedTo_of_ne fun he => hm (hk he)]
      rfl

theorem changedTo_silent (e : Module) : e.changedTo (e.count .silent) = e.after .silent :=
  changedTo_of_ne fun he => by simpa [Module.count] using congrArg Module.orderErrors he

theorem changedTo_damaged {e : Module} (h : e.replyErrors < 255) : e.changedTo (e.count .damaged) = e.after .damaged := by
  have hmin : min (e.replyErrors + 1) 255 = e.replyErrors + 1 := by omega
  unfold Module.count Module.after
  dsimp only
  rw [hmin]
  exact changedTo_of_ne fun he => by simpa using congrArg Module.replyErrors he

theorem changedTo_count {e : Module} (h : r ≠ .good) (hr : (e.count r).replyErrors < 96) :
    e.changedTo (e.count r) = e.after r := by
  cases r with
  | good => exact absurd rfl h
  | refused => exact changedTo_self _
  | silent => exact changedTo_silent e
  | damaged =>
    refine changedTo_damaged ?_
    simp only [Module.count] at hr
    omega

/-- Below 96 a result changes the counters and, if GOOD, the marks; the node stays ACTIVE. -/
theorem updateHealth_active (ha : (s.module m).health = .active) (ho : ((s.module m).count r).orderErrors < 96)
    (hr : ((s.module m).count r).replyErrors < 96) : s.updateHealth m r = s.setModule m ((s.module m).after r) := by
  have hquiet : ∀ t, 96 ≤ t → crosses t (s.module m) ((s.module m).count r) = false := fun t ht => crosses_below ht ho hr
  have hstate : healthState ((s.module m).count r).orderErrors ((s.module m).count r).replyErrors = .active := by
    unfold healthState
    rw [if_neg (by omega), if_neg (by omega), if_neg (by omega)]
  have hset : ∀ u : State, (u.module m).health = .active → u.setHealth m .active = u := fun u hu => if_pos hu
  have hactive : ((s.module m).changedTo ((s.module m).count r)).health = .active := by
    obtain ⟨c, hc⟩ := changedTo_eq (s.module m) ((s.module m).count r)
    rw [hc]
    cases r <;> exact ha
  unfold State.updateHealth
  simp only [State.forEach, List.foldl_cons, List.foldl_nil, hquiet 96 (by omega), hquiet 128 (by omega),
    hquiet 256 (by omega), Bool.false_eq_true, if_false, hstate, changeModule_eq]
  by_cases hg : r = .good
  · subst hg
    rw [if_pos ⟨rfl, ho, hr⟩, setModule_module, if_pos rfl, setModule_setModule, changedTo_clearMarks fun h => ?_]
    · refine hset _ ?_
      obtain ⟨c, hc⟩ := changedTo_eq (s.module m) ((s.module m).count .good).clearMarks
      rw [setModule_module, if_pos rfl, hc]
      exact ha
    · have h96 : (s.module m).mark96 = false := (congrArg Module.mark96 h).symm
      have h128 : (s.module m).mark128 = false := (congrArg Module.mark128 h).symm
      have h256 : (s.module m).mark256 = false := (congrArg Module.mark256 h).symm
      simp only [Module.clearMarks, Module.count, h96, h128, h256]
  · rw [if_neg fun h => hg h.1, hset _ (by rw [setModule_module, if_pos rfl]; exact hactive), changedTo_count hg hr]

/-! ### A threshold crossed -/

/-- An entry whose parity a change has just recomputed takes a further change as it is. -/
theorem changedTo_fresh {e e' : Module} (hf : e.check.recomputed = e.check) (hc : e'.check = e.check) : e.changedTo e' = e' := by
  unfold Module.changedTo
  split
  · next h => rw [h]
  · rw [hc, hf, ← hc]

/-- A lost exchange in which one threshold alone is crossed. -/
theorem updateHealth_crossing (hr : r ≠ .good) (ha : (s.module m).changedTo ((s.module m).count r) = (s.module m).after r)
    (hm : mark = 96 ∨ mark = 128 ∨ mark = 256)
    (hc : ∀ t, t = 96 ∨ t = 128 ∨ t = 256 → crosses t (s.module m) ((s.module m).count r) = decide (t = mark)) :
    s.updateHealth m r = ((s.setModule m ((s.module m).after r)).announceCrossing m mark).setHealth m
      (healthGiven ((s.module m).after r).orderErrors ((s.module m).after r).replyErrors) := by
  have ho : ((s.module m).after r).orderErrors = ((s.module m).count r).orderErrors := by
    obtain ⟨c, h⟩ := changedTo_eq (s.module m) ((s.module m).count r)
    rw [← ha, h]
  have hp : ((s.module m).after r).replyErrors = ((s.module m).count r).replyErrors := by
    obtain ⟨c, h⟩ := changedTo_eq (s.module m) ((s.module m).count r)
    rw [← ha, h]
  unfold State.updateHealth
  simp only [State.forEach, List.foldl_cons, List.foldl_nil, hc 96 (by omega), hc 128 (by omega), hc 256 (by omega),
    changeModule_eq, ha]
  rw [if_neg fun h => hr h.1, ho, hp]
  rcases hm with rfl | rfl | rfl <;> rfl

/-- What a silent poll or order counts crosses a threshold by the order counter alone. -/
theorem crosses_silent {e : Module} {mark : Nat} (hm : mark = 96 ∨ mark = 128 ∨ mark = 256) (hl : e.orderErrors < mark)
    (hg : mark ≤ e.orderErrors + 8) : ∀ t, t = 96 ∨ t = 128 ∨ t = 256 → crosses t e (e.count .silent) = decide (t = mark) := by
  intro t ht
  refine decide_eq_decide.2 ?_
  dsimp only [Module.count]
  omega

theorem crosses_damaged {e : Module} {mark : Nat} (hm : mark = 96 ∨ mark = 128) (hr : e.replyErrors + 1 = mark) :
    ∀ t, t = 96 ∨ t = 128 ∨ t = 256 → crosses t e (e.count .damaged) = decide (t = mark) := by
  intro t ht
  refine decide_eq_decide.2 ?_
  dsimp only [Module.count]
  omega

theorem setMark_mark (e : Module) (mark : Nat) : (e.setMark mark).mark mark = true := by
  unfold Module.setMark Module.mark
  by_cases h96 : mark = 96
  · simp [h96]
  · by_cases h128 : mark = 128 <;> simp [h96, h128]

theorem setMark_set {e : Module} (h : e.mark mark = true) : e.setMark mark = e := by
  unfold Module.mark at h
  unfold Module.setMark
  by_cases h96 : mark = 96
  · rw [if_pos h96] at h ⊢
    rw [← h]
  · rw [if_neg h96] at h ⊢
    by_cases h128 : mark = 128
    · rw [if_pos h128] at h ⊢
      rw [← h]
    · rw [if_neg h128] at h ⊢
      rw [← h]

/-- A setMark touches no more than a mark. -/
theorem setMark_rest (e : Module) (mark : Nat) : (e.setMark mark).orderErrors = e.orderErrors
    ∧ (e.setMark mark).replyErrors = e.replyErrors ∧ (e.setMark mark).check = e.check ∧ (e.setMark mark).node = e.node
    ∧ (e.setMark mark).kind = e.kind ∧ (e.setMark mark).lane = e.lane ∧ (e.setMark mark).health = e.health := by
  unfold Module.setMark
  split
  · exact ⟨rfl, rfl, rfl, rfl, rfl, rfl, rfl⟩
  · split <;> exact ⟨rfl, rfl, rfl, rfl, rfl, rfl, rfl⟩

/-- The telling of a crossing (R164). -/
def State.tellCrossing (s : State) (e : Module) (mark : Nat) : State :=
  (s.record (crossingEntry e.node e.orderErrors e.replyErrors mark)).send7
    (.nodeHealth e.node e.orderErrors e.replyErrors mark)

theorem announceCrossing_eq (hf : (s.module m).check.recomputed = (s.module m).check) : s.announceCrossing m mark =
    if (s.module m).mark mark then s
    else if mark = 96 then ((s.setModule m ((s.module m).setMark mark)).tellCrossing (s.module m) mark).raiseNodeWatch
    else (s.setModule m ((s.module m).setMark mark)).tellCrossing (s.module m) mark := by
  have hset : s.changeModule m (fun e => e.setMark mark) = s.setModule m ((s.module m).setMark mark) := by
    rw [changeModule_eq, changedTo_fresh hf (setMark_rest _ _).2.2.1]
  unfold State.announceCrossing
  dsimp only
  rw [hset]
  rfl

/-- Whether new or not, a crossing leaves its mark set, and no more. -/
theorem announceCrossing_logs (hf : (s.module m).check.recomputed = (s.module m).check) :
    LogsOnly (s.setModule m ((s.module m).setMark mark)) (s.announceCrossing m mark) := by
  have htell : ∀ u : State, ∀ e, LogsOnly u (u.tellCrossing e mark) := fun u e =>
    (logsOnly_record ..).trans (logsOnly_send7 ..)
  rw [announceCrossing_eq hf]
  by_cases h : (s.module m).mark mark = true
  · rw [if_pos h, setMark_set h, setModule_self]
    exact .refl s
  · rw [if_neg h]
    split
    · exact (htell _ _).trans (logsOnly_mapSticky ..)
    · exact htell _ _

/-- A crossing new to its mark is in the journal and on the queue where there is a place. -/
theorem announceCrossing_told (hf : (s.module m).check.recomputed = (s.module m).check) (h : (s.module m).mark mark = false) :
    (mark = 96 → (s.announceCrossing m mark).mgmt.sticky.nodeWatch = true)
    ∧ (s.journal.reserved < s.journal.free →
        ((s.announceCrossing m mark).journal.ring[s.journal.ring.length]?).map JournalRecord.entry =
          some (s.stamped (crossingEntry (s.module m).node (s.module m).orderErrors (s.module m).replyErrors mark)))
    ∧ (s.link.used < 64 → (s.announceCrossing m mark).link.reports[s.link.reports.length]? =
        (to7 (.nodeHealth (s.module m).node (s.module m).orderErrors (s.module m).replyErrors mark)).head?) := by
  rw [announceCrossing_eq hf, if_neg (by rw [h]; decide)]
  have hjournal : s.journal.reserved < s.journal.free →
      (((s.setModule m ((s.module m).setMark mark)).tellCrossing (s.module m) mark).journal.ring[s.journal.ring.length]?).map
        JournalRecord.entry =
          some (s.stamped (crossingEntry (s.module m).node (s.module m).orderErrors (s.module m).replyErrors mark)) := by
    intro hroom
    have hroom' : (s.setModule m ((s.module m).setMark mark)).journal.reserved <
      (s.setModule m ((s.module m).setMark mark)).journal.free := hroom
    unfold State.tellCrossing
    rw [send7_journal]
    unfold State.record
    rw [if_pos hroom']
    simp [State.mapJournal, Journal.append, State.setModule, State.mapBus]
    rfl
  have hlink : s.link.used < 64 → ((s.setModule m ((s.module m).setMark mark)).tellCrossing (s.module m) mark).link.reports[
      s.link.reports.length]? =
        (to7 (.nodeHealth (s.module m).node (s.module m).orderErrors (s.module m).replyErrors mark)).head? := by
    intro hroom
    have hr : ((s.setModule m ((s.module m).setMark mark)).record (crossingEntry (s.module m).node (s.module m).orderErrors
        (s.module m).replyErrors mark)).link = s.link := record_link _ _
    unfold State.tellCrossing State.send7
    rw [send_reports _ _ _ _ (by rw [hr]; exact hroom), hr]
    simp [to7]
  split
  · exact ⟨fun _ => rfl, hjournal, hlink⟩
  · next hne => exact ⟨fun he => absurd he hne, hjournal, hlink⟩

/-! ### A health state taken -/

theorem isolate_eq (m : ModuleId) : ∃ b : Bool, s.isolate m =
    let u := ((s.dropFrames (s.module m).node).changeModule m fun e => { e with health := .isolated }).tellHealth m
    if u.mgmt.goPending && b then u.failGo .nodeIsolated 0 else u := ⟨_, rfl⟩

theorem framed_isolate_after (m : ModuleId) : Framed (.goPending :: logParts ++ healthParts)
    ((s.dropFrames (s.module m).node).changeModule m fun e => { e with health := .isolated }) (s.isolate m) := by
  obtain ⟨b, hb⟩ := isolate_eq (s := s) m
  rw [hb]
  dsimp only
  generalize (s.dropFrames (s.module m).node).changeModule m (fun e => { e with health := .isolated }) = u
  have ht := touches_tellHealth (s := u) (m := m)
  split
  · exact (ht.mono (ps := .goPending :: logParts ++ healthParts) |>.then touches_failGo).framed
  · exact ht.framed.mono

/-- A health state taken changes that field of one entry; what the blocks told do leaves the Module Table. -/
theorem setHealth_module {h : Health} (hf : (s.module m).check.recomputed = (s.module m).check) :
    (s.setHealth m h).module j = if j = m then { s.module m with health := h } else s.module j := by
  unfold State.setHealth
  by_cases hs : (s.module m).health = h
  · rw [if_pos hs]
    split
    · next hj => rw [hj, ← hs]
    · rfl
  · rw [if_neg hs]
    by_cases hi : h = .isolated
    · subst hi
      rw [if_pos rfl, (framed_isolate_after m).module, changeModule_eq, setModule_module]
      have hm : ∀ i, (s.dropFrames (s.module m).node).module i = s.module i := fun _ => rfl
      simp only [hm]
      rw [changedTo_fresh (e' := { s.module m with health := .isolated }) hf rfl]
    · rw [if_neg hi, touches_tellHealth.framed.module, changeModule_eq, setModule_module,
        changedTo_fresh (e' := { s.module m with health := h }) hf rfl]

end Health

end Sys2Proof.Machine
end

section
/-! SUPPORT. Exchanges that end below the first threshold, and those that cross one (R160, R164). -/

namespace Sys2Proof.Machine

open Sys2Proof

-- One thread, so that the check's memory holds the stacks.
set_option Elab.async false

/-! ## Below 96 -/

section Below

variable {s : State} {x : Exchange} {m : ModuleId} {o : BusOrder} {res : Result} {b : ReplyBody}

/-- A result that keeps both counters below 96. -/
def Module.stays (e : Module) (r : Result) : Prop := (e.count r).orderErrors < 96 ∧ (e.count r).replyErrors < 96

theorem awaits_stays (h : s.awaits x m) (hr : res.lost = false) : (s.module m).stays res := by
  obtain ⟨-, -, -, ho, hp⟩ := h
  unfold Module.stays
  cases res with
  | good => simp only [Module.count]; omega
  | refused => exact ⟨ho, hp⟩
  | silent | damaged => cases hr

theorem awaits_stays_silent (h : s.awaits x m) (ho : (s.module m).orderErrors + 8 < 96) : (s.module m).stays .silent :=
  ⟨ho, h.2.2.2.2⟩

theorem awaits_stays_damaged (h : s.awaits x m) (hp : (s.module m).replyErrors + 1 < 96) : (s.module m).stays .damaged := by
  refine ⟨h.2.2.2.1, ?_⟩
  simp only [Module.count]
  omega

theorem awaits_reached (h : s.awaits x m) : (s.module m).health ≠ .isolated := by
  rw [h.2.2.1]
  decide

theorem awaits_delivered (h : s.awaits x m) (hp : x.frame.content ≠ .probe) (hs : (s.module m).stays res)
    (hr : x.resendable = false ∨ res.lost = false) : s.endBusExchange x res b =
      (s.exchangeOver.setModule m ((s.module m).after res)).deliver x.frame res b := by
  rw [endBusExchange_delivered hp h.2.1 (awaits_reached h) hr]
  exact congrArg (State.deliver · x.frame res b) (updateHealth_active (s := s.exchangeOver) h.2.2.1 hs.1 hs.2)

theorem awaits_resent (h : s.awaits x m) (hc : x.frame.content = .order o) (hs : (s.module m).stays res)
    (ho : o.isMoney = false) (hx : x.isResend = false) (hl : res.lost = true) : s.endBusExchange x res b =
      (s.exchangeOver.mapBus fun k => { k with resend := some x.frame }).setModule m ((s.module m).after res) := by
  rw [endBusExchange_resent hc h.2.1 (awaits_reached h) ho hx hl]
  exact updateHealth_active (s := s.exchangeOver.mapBus fun k => { k with resend := some x.frame }) h.2.2.1 hs.1 hs.2

/-- The owner of an order leaves the Module Table, and has nothing outstanding and nothing due where it finds nothing. -/
theorem deliver_order_leaves (hc : x.frame.content = .order o) (ho : s.bus.outstanding = none) (hr : s.bus.resend = none) :
    (s.deliver x.frame res b).bus.modules = s.bus.modules ∧ (s.deliver x.frame res b).bus.outstanding = none
      ∧ (s.deliver x.frame res b).bus.resend = none := by
  have hf := (touches_deliver_order (s := s) (res := res) (b := b) hc).framed
  have hasked : (s.deliver x.frame res b).bus.outstanding.isSome = s.bus.outstanding.isSome := hf .asked (by decide)
  have hdue : (s.deliver x.frame res b).bus.resend.isSome = s.bus.resend.isSome := hf .due (by decide)
  rw [ho] at hasked
  rw [hr] at hdue
  exact ⟨hf .modules (by decide), by simpa using hasked, by simpa using hdue⟩

theorem awaits_leaves (h : s.awaits x m) (hc : x.frame.content = .order o) (hs : (s.module m).stays res)
    (hr : x.resendable = false ∨ res.lost = false) (hdue : s.bus.resend = none) :
    (s.endBusExchange x res b).bus.modules = s.bus.modules.set m ((s.module m).after res)
      ∧ (s.endBusExchange x res b).bus.outstanding = none ∧ (s.endBusExchange x res b).bus.resend = none := by
  rw [awaits_delivered h (by rw [hc]; nofun) hs hr]
  exact deliver_order_leaves (s := s.exchangeOver.setModule m ((s.module m).after res)) hc rfl hdue

end Below

/-! ## A threshold crossed -/

section Crossed

variable {s : State} {x : Exchange} {m : ModuleId} {r : Result} {mark : Nat} {b : ReplyBody}

/-- The node's entry counted, with nothing outstanding. -/
def State.countedFor (s : State) (m : ModuleId) (r : Result) : State := s.exchangeOver.setModule m ((s.module m).after r)

/-- The state a lost poll leaves once its crossing is announced and the health taken. -/
def State.crossed (s : State) (m : ModuleId) (r : Result) (mark : Nat) : State :=
  ((s.countedFor m r).announceCrossing m mark).setHealth m
    (healthGiven ((s.module m).after r).orderErrors ((s.module m).after r).replyErrors)

theorem endBusExchange_crossing (hp : x.frame.content = .poll) (hn : s.nodeEntry x.frame.node = some m)
    (hi : (s.module m).health ≠ .isolated) (hr : r ≠ .good) (hm : mark = 96 ∨ mark = 128 ∨ mark = 256)
    (ha : (s.module m).changedTo ((s.module m).count r) = (s.module m).after r)
    (hc : ∀ t, t = 96 ∨ t = 128 ∨ t = 256 → crosses t (s.module m) ((s.module m).count r) = decide (t = mark)) :
    s.endBusExchange x r b = s.crossed m r mark := by
  rw [endBusExchange_delivered (by rw [hp]; nofun) hn hi (.inl (resendable_poll hp)), deliver_poll hp hr]
  exact updateHealth_crossing (s := s.exchangeOver) hr ha hm hc

theorem exec_silent_crossing (hx : s.bus.outstanding = some x) (hp : x.frame.content = .poll)
    (hn : s.nodeEntry x.frame.node = some m) (hi : (s.module m).health ≠ .isolated)
    (hw : timerDue (some x.window) s.now = true) (hm : mark = 96 ∨ mark = 128 ∨ mark = 256)
    (hl : (s.module m).orderErrors < mark) (hg : mark ≤ (s.module m).orderErrors + 8) :
    exec (.replyWindowExpiry) s = .next (s.crossed m .silent mark) := by
  rw [exec_windowOver hx hw, endBusExchange_crossing hp hn hi (by decide) hm (changedTo_silent _) (crosses_silent hm hl hg)]

theorem exec_damaged_crossing {f : BusReply} (hx : s.bus.outstanding = some x) (hp : x.frame.content = .poll)
    (hn : s.nodeEntry x.frame.node = some m) (hi : (s.module m).health ≠ .isolated) (hw : x.window.past s.now = false)
    (hd : damages f x) (hm : mark = 96 ∨ mark = 128) (hr : (s.module m).replyErrors + 1 = mark) :
    exec (.wallBusReplyTaken (.fields f)) s = .next (s.crossed m .damaged mark) := by
  rw [exec_reply hx hw, resultOf_damages hd, endBusExchange_crossing hp hn hi (by decide) (by omega)
    (changedTo_damaged (by omega)) (crosses_damaged hm hr)]

/-- A lost result's entry has its parity recomputed. -/
theorem after_fresh {e : Module} (h : r.lost = true) : (e.after r).check.recomputed = (e.after r).check := by
  cases r with
  | good | refused => cases h
  | silent | damaged => rfl

theorem countedFor_module (j : ModuleId) : (s.countedFor m r).module j = if j = m then (s.module m).after r else s.module j :=
  setModule_module

theorem crossed_fresh (h : r.lost = true) :
    ((s.countedFor m r).module m).check.recomputed = ((s.countedFor m r).module m).check := by
  rw [countedFor_module, if_pos rfl]
  exact after_fresh h

theorem announced_module (h : r.lost = true) (j : ModuleId) : ((s.countedFor m r).announceCrossing m mark).module j =
    if j = m then ((s.module m).after r).setMark mark else s.module j := by
  rw [announceCrossing_logs (crossed_fresh h)]
  change ((s.countedFor m r).setModule m (((s.countedFor m r).module m).setMark mark)).module j = _
  rw [setModule_module, countedFor_module, countedFor_module, if_pos rfl]
  split <;> rfl

theorem crossed_module (h : r.lost = true) (j : ModuleId) : (s.crossed m r mark).module j =
    if j = m then { ((s.module m).after r).setMark mark with
      health := healthGiven ((s.module m).after r).orderErrors ((s.module m).after r).replyErrors }
    else s.module j := by
  have hm : ((s.countedFor m r).announceCrossing m mark).module m = ((s.module m).after r).setMark mark := by
    rw [announced_module h, if_pos rfl]
  unfold State.crossed
  rw [setHealth_module (by rw [hm, (setMark_rest _ _).2.2.1]; exact after_fresh h), hm]
  split
  · rfl
  · next hj => rw [announced_module h, if_neg hj]

/-- A poll lost at a crossing, its mark clear before. -/
theorem crossed_told (h : r.lost = true) (hmark : (s.module m).mark mark = false) :
    (s.crossed m r mark).bus.outstanding = none
    ∧ (mark = 96 → (s.crossed m r mark).mgmt.sticky.nodeWatch = true)
    ∧ (s.journal.reserved < s.journal.free →
        ((s.crossed m r mark).journal.ring[s.journal.ring.length]?).map JournalRecord.entry = some (s.stamped
          (crossingEntry (s.module m).node ((s.module m).after r).orderErrors ((s.module m).after r).replyErrors mark)))
    ∧ (s.link.used < 64 → (s.crossed m r mark).link.reports[s.link.reports.length]? =
        (to7 (.nodeHealth (s.module m).node ((s.module m).after r).orderErrors ((s.module m).after r).replyErrors
          mark)).head?) := by
  have hmod : (s.countedFor m r).module m = (s.module m).after r := by rw [countedFor_module, if_pos rfl]
  have hnode : ((s.module m).after r).node = (s.module m).node := by
    cases r with
    | good | refused => cases h
    | silent | damaged => rfl
  have hkept : ((s.module m).after r).mark mark = (s.module m).mark mark := by
    cases r with
    | good | refused => cases h
    | silent | damaged => rfl
  obtain ⟨hwatch, hring, hqueue⟩ := announceCrossing_told (mark := mark) (crossed_fresh (s := s) (m := m) h)
    (by rw [hmod, hkept, hmark])
  rw [hmod, hnode] at hring hqueue
  have hout : ((s.countedFor m r).announceCrossing m mark).bus.outstanding = none := by
    rw [announceCrossing_logs (crossed_fresh h)]
    rfl
  have hset := touches_setHealth (s := (s.countedFor m r).announceCrossing m mark) (m := m)
    (x := healthGiven ((s.module m).after r).orderErrors ((s.module m).after r).replyErrors)
  have hasked : (s.crossed m r mark).bus.outstanding.isSome = _ := hset.framed .asked (by decide)
  have hkeptWatch : (s.crossed m r mark).mgmt.sticky.nodeWatch = _ := hset.framed .watch (by decide)
  refine ⟨?_, fun h96 => hkeptWatch.trans (hwatch h96), fun hroom => ?_, fun hroom => ?_⟩
  · simpa [Part.view, hout] using hasked
  · have hr : (((s.countedFor m r).announceCrossing m mark).journal.ring[s.journal.ring.length]?).map JournalRecord.entry = _ :=
      hring hroom
    have hlt := (List.getElem?_eq_some_iff.1 (Option.map_eq_some_iff.1 hr).choose_spec.1).1
    obtain ⟨w, hw⟩ := hset.grows.records
    unfold State.crossed
    rw [← hw, List.getElem?_append_left hlt]
    exact hr
  · have hq : ((s.countedFor m r).announceCrossing m mark).link.reports[s.link.reports.length]? = _ := hqueue hroom
    have hlt := (List.getElem?_eq_some_iff.1 (hq.trans rfl)).1
    obtain ⟨w, hw⟩ := hset.grows.reports
    unfold State.crossed
    rw [← hw, List.getElem?_append_left hlt]
    exact hq

/-! ### A lane station's crossing -/

/-- The health of the station entry of a lane, as NODE is judged by it. -/
theorem nodeStands_station {l : Lane} (h : s.stationEntry l = some m) : s.nodeStands l = !(s.module m).health.good := by
  unfold State.nodeStands State.healthOf
  rw [h]
  rfl

/-- An entry changed but for its node, kind and lane is still the station of its lane. -/
theorem setModule_stationEntry {e : Module} (hn : e.node = (s.module m).node) (hk : e.kind = (s.module m).kind)
    (hl : e.lane = (s.module m).lane) (l : Lane) : (s.setModule m e).stationEntry l = s.stationEntry l := by
  refine stationEntry_congr fun i => ?_
  rw [setModule_module]
  split
  · next h => rw [h]; exact ⟨hn, hk, hl⟩
  · exact ⟨rfl, rfl, rfl⟩

/-- NODE brought to a lane by its station: the lane's record but for its state, and every other lane's. -/
theorem evaluateNode_stands {l : Lane} (h : s.nodeStands l = true) :
    ((s.evaluateNode l).laneRec l).holds = { (s.laneRec l).holds with node := true }
      ∧ ((s.evaluateNode l).laneRec l).txn = (s.laneRec l).txn
      ∧ ((s.evaluateNode l).laneRec l).profile = (s.laneRec l).profile
      ∧ ∀ k, k ≠ l → (s.evaluateNode l).laneRec k = s.laneRec k := by
  have hn : (s.evaluateNode l).nodeStands l = true := (nodeStands_congr touches_evaluateNode.framed.moduleTable).trans h
  have hown : (s.evaluateNode l).laneRec l = s.nodeJudged (s.evaluateNode l) l := by rw [evaluateNode_laneRec, if_pos rfl]
  have hf := (touches_evaluateNode (s := s) (l := l)).framed
  refine ⟨?_, hf.txn l, hf.profile l, fun k hk => by rw [evaluateNode_laneRec, if_neg hk]⟩
  rw [hown, nodeJudged_holds, hn]

end Crossed

end Sys2Proof.Machine
end

section
/-! SUPPORT. A lane station that becomes RESTRICTED or ISOLATED (R10, R117, R165). -/

namespace Sys2Proof.Machine

open Sys2Proof

-- One thread, so that the check's memory holds the stacks.
set_option Elab.async false

variable {s c t u v : State} {l k : Lane}

/-! ## Captures voided without an EJECT -/

theorem mapCapture_capture (f : Capture → Capture) :
    (s.mapCapture l f).capture k = if k = l then (s.capture l).map f else s.capture k := setCapture_capture ..

/-- A void that is no JAMMED and calls for no EJECT touches the slot and its outcome alone. -/
theorem touches_voidQuietly {r : VoidReason} {fs : List Fact} (hr : r ≠ .jammed) :
    Touches (.captures :: .captured :: .reserved :: logParts) s (s.voidCapture l r false fs) := by
  unfold State.voidCapture
  have h : Touches (.captures :: .captured :: .reserved :: logParts) s (s.touchCapture l) := touches_touchCapture.mono
  dsimp only
  split
  · exact h
  · rw [if_neg hr]
    exact h.then touches_outcome |>.then touches_reportEnvelope |>.then touches_setCapture

theorem voidCapture_capture {r : VoidReason} {fs : List Fact} (hr : r ≠ .jammed) :
    (s.voidCapture l r false fs).capture k = if k = l then none else s.capture k := by
  have htouch : k ≠ l → (s.touchCapture l).capture k = s.capture k := fun h => by
    unfold State.touchCapture
    rw [mapCapture_capture, if_neg h]
  unfold State.voidCapture
  dsimp only
  split
  · next h =>
    split
    · next hk => rw [hk, h]
    · next hk => exact htouch hk
  · rw [if_neg hr, setCapture_capture]
    split
    · rfl
    · next hk =>
      rw [if_neg (by decide), touches_reportEnvelope.framed.capture, touches_outcome.framed.capture, htouch hk]

/-- A lane's capture, its station's node isolated. -/
def State.captureIsolated (s : State) (node : Nat) (l : Lane) : State :=
  if (s.capture l).any fun c => c.node == node then
    (s.mapCapture l fun c => { c with inDoubt := true }).voidCapture l .isolated false
  else s

theorem captureIsolated_capture {node : Nat} : (s.captureIsolated node l).capture k =
    if k = l ∧ (s.capture l).any (fun c => c.node == node) = true then none else s.capture k := by
  unfold State.captureIsolated
  by_cases h : (s.capture l).any (fun c => c.node == node) = true
  · rw [if_pos h, voidCapture_capture (by decide), mapCapture_capture]
    by_cases hk : k = l <;> simp [hk, h]
  · rw [if_neg h, if_neg fun hk => h hk.2]

theorem touches_captureIsolated {node : Nat} :
    Touches (.captures :: .captured :: .reserved :: logParts) s (s.captureIsolated node l) :=
  .ite (fun _ => touches_mapCapture.mono.then (touches_voidQuietly (by decide))) fun _ => .refl

theorem touches_envelopeIsolated_quietly {node : Nat} :
    Touches (.captures :: .captured :: .reserved :: logParts) s (s.envelopeIsolated node) :=
  touches_forEach (fun _ _ => touches_captureIsolated) _ _

theorem envelopeIsolated_capture {node : Nat} : (s.envelopeIsolated node).capture l =
    if (s.capture l).any (fun c => c.node == node) then none else s.capture l := by
  obtain ⟨u, -, hu, hf⟩ := forEach_turn (f := fun s l => s.captureIsolated node l) (V := fun l s => s.capture l)
    (I := fun _ => True) (s := s) (fun _ _ _ => trivial)
    (fun s l m h => by rw [captureIsolated_capture, if_neg fun hm => h hm.1]) trivial l
  refine hf.trans ?_
  rw [captureIsolated_capture, hu]
  simp only [true_and]

/-- Slots changed alone. -/
theorem Framed.envelopeSlots {f : Option Capture → Option Capture}
    (hf : Framed (.captures :: .captured :: .reserved :: logParts) s t) (hc : ∀ l, t.capture l = f (s.capture l)) :
    t.envelope = { s.envelope with slots := s.envelope.slots.map f } := by
  have hn := hf .envelopes (by decide)
  refine (EnvelopeControl.mk.injEq ..).mpr ⟨?_, congrArg Prod.fst hn, congrArg Prod.snd hn, hf .depository (by decide),
    hf .safe (by decide)⟩
  ext i hi : 1
  rw [Vector.getElem_map]
  exact hc ⟨i, hi⟩

theorem envelopeIsolated_envelope {node : Nat} : (s.envelopeIsolated node).envelope = { s.envelope with
    slots := s.envelope.slots.map fun c => if c.any (fun c => c.node == node) then none else c } :=
  touches_envelopeIsolated_quietly.framed.envelopeSlots fun _ => envelopeIsolated_capture

/-! ## What a station's health brings its lane -/

/-- Lanes judged on a state that was only logged to. -/
theorem LogsOnly.lanesJudged (hv : LogsOnly c v) (hf : Framed holdParts v t) : t = { c.logged t with lanes := t.lanes } := by
  have h := hf.unlogged
  rw [hf.screen, hf.dispense, hf.cash, hf.deposit, hf.envelope, hf.tube, hf.alarm, hf.bus, hv] at h
  exact h

/-- Lanes judged and captures voided on a state that was only logged to. -/
theorem LogsOnly.stationGone (hv : LogsOnly c v) (hf : Framed holdParts v u)
    (he : Framed (.captures :: .captured :: .reserved :: logParts) u t) :
    t = { c.logged t with lanes := t.lanes, envelope := t.envelope } := by
  have hu := hv.lanesJudged hf
  have h := he.unlogged
  rw [he.screen, he.dispense, he.cash, he.deposit, he.tube, he.alarm, he.bus, hu] at h
  exact h

section Station

variable {x : Exchange} {m : ModuleId}

theorem node_of_nodeEntry {n : Nat} (h : s.nodeEntry n = some m) : (s.module m).node = n := by
  have := List.find?_some h
  simp only [Bool.and_eq_true, beq_iff_eq] at this
  exact this.2

/-- The entry of a silent poll that takes its order counter to a threshold, the mark set and the health taken. -/
def Module.crossedTo (e : Module) (mark : Nat) (h : Health) : Module :=
  { (e.recounted (e.orderErrors + 8) e.replyErrors).setMark mark with health := h }

theorem LogsOnly.setModule (h : LogsOnly c t) (m : ModuleId) (e : Module) : LogsOnly (c.setModule m e) (t.setModule m e) := by
  rw [h]
  rfl

theorem LogsOnly.dropFrames (h : LogsOnly c t) (n : Nat) : LogsOnly (c.dropFrames n) (t.dropFrames n) := by
  rw [h]
  rfl

theorem crossing_logs (mark : Nat) : LogsOnly (s.exchangeOver.setModule m (((s.module m).after .silent).setMark mark))
    ((s.countedFor m .silent).announceCrossing m mark) := by
  have h := announceCrossing_logs (mark := mark) (crossed_fresh (s := s) (m := m) (r := .silent) rfl)
  rw [countedFor_module, if_pos rfl] at h
  unfold State.countedFor at h ⊢
  rw [setModule_setModule] at h
  exact h

/-- The entry once its counter and mark are written. -/
theorem crossing_module (mark : Nat) : ((s.countedFor m .silent).announceCrossing m mark).module m =
    ((s.module m).recounted ((s.module m).orderErrors + 8) (s.module m).replyErrors).setMark mark := by
  rw [announced_module rfl, if_pos rfl]
  rfl

theorem crossing_fresh (mark : Nat) : (((s.countedFor m .silent).announceCrossing m mark).module m).check.recomputed =
    (((s.countedFor m .silent).announceCrossing m mark).module m).check := by
  rw [crossing_module, (setMark_rest _ _).2.2.1]
  rfl

theorem crossing_health (mark : Nat) : (((s.countedFor m .silent).announceCrossing m mark).module m).health =
    (s.module m).health := by
  rw [crossing_module, (setMark_rest _ _).2.2.2.2.2.2]
  rfl

/-- A silent poll's crossing to a health other than ISOLATED, up to the telling of the blocks. -/
theorem crossed_taken {mark : Nat} {h : Health} (hh : healthGiven ((s.module m).orderErrors + 8) (s.module m).replyErrors = h)
    (hne : (s.module m).health ≠ h) (hi : h ≠ .isolated) :
    ∃ v, LogsOnly (s.exchangeOver.setModule m ((s.module m).crossedTo mark h)) v ∧ s.crossed m .silent mark = v.tellHealth m := by
  refine ⟨((s.countedFor m .silent).announceCrossing m mark).setModule m ((s.module m).crossedTo mark h), ?_, ?_⟩
  · have hl := (crossing_logs (s := s) (m := m) mark).setModule m ((s.module m).crossedTo mark h)
    rwa [setModule_setModule] at hl
  · unfold State.crossed
    rw [show healthGiven ((s.module m).after .silent).orderErrors ((s.module m).after .silent).replyErrors = h from hh]
    unfold State.setHealth
    rw [if_neg (by rw [crossing_health]; exact hne), if_neg hi, changeModule_eq,
      changedTo_fresh (crossing_fresh mark) (by rfl), crossing_module]
    rfl

/-- A silent poll's crossing to ISOLATED: its frames leave, and a pending GO SERVICE may fail after the blocks are told. -/
theorem crossed_isolated (hh : 256 ≤ (s.module m).orderErrors + 8) (hne : (s.module m).health ≠ .isolated) :
    ∃ v, LogsOnly ((s.exchangeOver.setModule m ((s.module m).crossedTo 256 .isolated)).dropFrames (s.module m).node) v
      ∧ Framed (.goPending :: logParts) (v.tellHealth m) (s.crossed m .silent 256)
      ∧ (s.mgmt.goPending = false → s.crossed m .silent 256 = v.tellHealth m) := by
  refine ⟨(((s.countedFor m .silent).announceCrossing m 256).dropFrames (s.module m).node).setModule m
    ((s.module m).crossedTo 256 .isolated), ?_, ?_⟩
  · have hl := ((crossing_logs (s := s) (m := m) 256).dropFrames (s.module m).node).setModule m
      ((s.module m).crossedTo 256 .isolated)
    have hcore : ((s.exchangeOver.setModule m (((s.module m).after .silent).setMark 256)).dropFrames (s.module m).node).setModule
        m ((s.module m).crossedTo 256 .isolated) =
        (s.exchangeOver.setModule m ((s.module m).crossedTo 256 .isolated)).dropFrames (s.module m).node :=
      congrArg (State.dropFrames · (s.module m).node) (setModule_setModule (s := s.exchangeOver))
    rwa [hcore] at hl
  · have hiso : healthGiven ((s.module m).after .silent).orderErrors ((s.module m).after .silent).replyErrors = .isolated :=
      if_pos hh
    have hpend : ((s.countedFor m .silent).announceCrossing m 256).mgmt.goPending = s.mgmt.goPending := by
      rw [crossing_logs]
      rfl
    have hchange : (((s.countedFor m .silent).announceCrossing m 256).dropFrames (s.module m).node).changeModule m
        (fun e => { e with health := .isolated }) =
        (((s.countedFor m .silent).announceCrossing m 256).dropFrames (s.module m).node).setModule m
          ((s.module m).crossedTo 256 .isolated) := by
      have hown : (((s.countedFor m .silent).announceCrossing m 256).dropFrames (s.module m).node).module m = _ :=
        crossing_module 256
      rw [changeModule_eq, changedTo_fresh (by rw [hown, ← crossing_module]; exact crossing_fresh 256) (by rfl), hown]
      rfl
    have hnode : (((s.countedFor m .silent).announceCrossing m 256).module m).node = (s.module m).node := by
      rw [crossing_module, (setMark_rest _ _).2.2.2.1]
      rfl
    unfold State.crossed
    rw [hiso]
    unfold State.setHealth
    rw [if_neg (by rw [crossing_health]; exact hne), if_pos rfl]
    obtain ⟨b, hb⟩ := isolate_eq (s := (s.countedFor m .silent).announceCrossing m 256) m
    rw [hb, hnode, hchange]
    dsimp only
    have hgo : ∀ v : State, v.mgmt.goPending = s.mgmt.goPending → (v.tellHealth m).mgmt.goPending = s.mgmt.goPending := fun v hv =>
      (touches_tellHealth.framed .goPending (by decide)).trans hv
    have hgo := hgo ((((s.countedFor m .silent).announceCrossing m 256).dropFrames (s.module m).node).setModule m
      ((s.module m).crossedTo 256 .isolated)) hpend
    generalize State.tellHealth _ m = w at hgo ⊢
    refine ⟨?_, fun hg => if_neg (by rw [hgo, hg]; exact Bool.false_ne_true)⟩
    split
    · exact touches_failGo.framed
    · exact .refl

/-- What a station entry whose health is no good brings its lane: NODE, the frames and captures aside. -/
theorem crossedTo_rest (e : Module) (mark : Nat) (h : Health) : (e.crossedTo mark h).node = e.node
    ∧ (e.crossedTo mark h).kind = e.kind ∧ (e.crossedTo mark h).lane = e.lane := by
  obtain ⟨-, -, -, hn, hk, hl, -⟩ := setMark_rest (e.recounted (e.orderErrors + 8) e.replyErrors) mark
  exact ⟨hn, hk, hl⟩

/-- The lane of a station entry, told of a health that is no good. -/
theorem stationEntry_crossed {mark : Nat} {h : Health} (hl : s.stationEntry l = some m) (hg : h.good = false)
    (hv : v.bus.modules = s.bus.modules.set m ((s.module m).crossedTo mark h)) : (v.module m).kind = .laneStation
      ∧ (v.module m).lane = numberOf l ∧ (v.module m).health = h ∧ v.nodeStands l = true := by
  obtain ⟨hnode, hkind, hlane⟩ := crossedTo_rest (s.module m) mark h
  have hown : v.module m = (s.module m).crossedTo mark h := by rw [module_of_set hv, if_pos rfl]
  obtain ⟨hk, hn⟩ := station_eq_some.1 (station_of_stationEntry hl)
  have hentry : v.stationEntry l = some m := by
    refine (stationEntry_congr (s := s) fun i => ?_).trans hl
    rw [module_of_set hv]
    split
    · next hi => rw [hi]; exact ⟨hnode, hkind, hlane⟩
    · exact ⟨rfl, rfl, rfl⟩
  refine ⟨by rw [hown, hkind, hk], by rw [hown, hlane, hn], by rw [hown]; rfl, ?_⟩
  rw [nodeStands_station hentry, hown]
  exact congrArg not hg

theorem tellHealth_restricted (hk : (v.module m).kind = .laneStation) (hn : (v.module m).lane = numberOf l)
    (hh : (v.module m).health = .restricted) : v.tellHealth m = v.evaluateNode l := by
  unfold State.tellHealth
  dsimp only
  rw [hk, hh, numbered_eq_some.2 hn]
  rfl

theorem tellHealth_isolated (hk : (v.module m).kind = .laneStation) (hn : (v.module m).lane = numberOf l)
    (hh : (v.module m).health = .isolated) : v.tellHealth m = (v.evaluateNode l).envelopeIsolated (v.module m).node := by
  unfold State.tellHealth
  dsimp only
  rw [hk, hh, numbered_eq_some.2 hn]
  rfl

end Station

end Sys2Proof.Machine
end

section
/-! SUPPORT. The blower cabinet ISOLATED (R137), and the nodes that queued frames are for. -/

namespace Sys2Proof.Machine

open Sys2Proof

-- One thread, so that the check's memory holds the stacks.
set_option Elab.async false

variable {s t u : State} {l k : Lane} {ps : List Part}

/-! ## A hold reason posted -/

theorem postHold_holds {h : HoldReason} : ((s.postHold l h).laneRec k).holds =
    if k = l then (s.laneRec l).holds.add h else (s.laneRec k).holds := by
  unfold State.postHold
  dsimp only
  split
  · next hh =>
    split
    · next hk =>
      subst hk
      cases h <;> simp only [Holds.has] at hh <;> simp only [Holds.add, ← hh]
    · rfl
  · rw [touches_settleAndAnnounce.framed.holds, touches_record.framed.holds, mapLane_laneRec]
    split <;> rfl

/-! ## Frames marked and not moved -/

/-- The nodes that the frames of the outgoing queue are for. -/
def State.addressed (s : State) : List Nat := s.bus.outgoing.map Frame.node

theorem Framed.addressed (h : Framed ps s t) (hp : .outgoing ∉ ps := by decide) : t.addressed = s.addressed :=
  congrArg (List.map Frame.node) (h .outgoing hp)

theorem retire_addressed {o : BusOrder} : (s.retire o).addressed = s.addressed := by
  unfold State.addressed State.retire State.retireIf
  simp only [State.mapBus, List.map_map]
  refine List.map_congr_left fun f _ => ?_
  dsimp only [Function.comp_apply]
  split <;> rfl

/-- Frames for a node other than the one whose frames left. -/
theorem not_addressed_dropFrames {n : Nat} (h : t.addressed = (s.dropFrames n).addressed) : ∀ f ∈ t.bus.outgoing, f.node ≠ n := by
  intro f hf hn
  have hm : f.node ∈ (s.dropFrames n).addressed := h ▸ List.mem_map_of_mem hf
  obtain ⟨g, hg, hgn⟩ := List.mem_map.1 hm
  have := (List.mem_filter.1 hg).2
  simp [hgn, hn] at this

/-! ## Carriers -/

theorem mapCarrier_carrier (f : Carrier → Carrier) :
    (s.mapCarrier l f).carrier k = if k = l then f (s.carrier l) else s.carrier k := by
  have hval : l.val = k.val ↔ k = l := by rw [Fin.ext_iff, eq_comm]
  simp only [State.mapCarrier, State.mapTube, State.carrier, Fin.getElem_fin, Vector.getElem_set, hval]

/-- A carrier under blower isolation. -/
def Carrier.lostBlower (c : Carrier) : Carrier :=
  if c.moving then { c with location := .unknown, cause := some .isolated, seated := false, timer := none } else c

theorem isolateCarrier_carrier : (s.isolateCarrier l).carrier k = if k = l then (s.carrier l).lostBlower else s.carrier k := by
  unfold State.isolateCarrier Carrier.lostBlower
  split
  · dsimp only
    rw [touches_reportCarrier.framed.carrier, touches_record.framed.carrier, touches_postHold.framed.carrier,
      mapCarrier_carrier, touches_retireMove.framed.carrier, touches_retireMove.framed.carrier]
  · split
    · next h => rw [h]
    · rfl

theorem isolateCarrier_holds : ((s.isolateCarrier l).laneRec k).holds = if k = l ∧ (s.carrier l).moving = true
    then (s.laneRec l).holds.add .carrier else (s.laneRec k).holds := by
  unfold State.isolateCarrier
  by_cases hm : (s.carrier l).moving = true
  · rw [if_pos hm]
    dsimp only
    rw [touches_reportCarrier.framed.holds, touches_record.framed.holds, postHold_holds]
    have hk : ∀ j, (((s.retireMove l).mapCarrier l fun c =>
        { c with location := .unknown, cause := some .isolated, seated := false, timer := none }).laneRec j).holds =
        (s.laneRec j).holds := fun j => (touches_retireMove.mono (ps := .carriers :: frameParts) |>.then touches_mapCarrier).framed.holds j
    simp only [hk, hm, and_true]
  · rw [if_neg hm, if_neg fun h => hm h.2]

theorem isolateCarrier_addressed : (s.isolateCarrier l).addressed = s.addressed := by
  unfold State.isolateCarrier
  split
  · dsimp only
    rw [touches_reportCarrier.framed.addressed, touches_record.framed.addressed, touches_postHold.framed.addressed,
      touches_mapCarrier.framed.addressed]
    exact retire_addressed
  · rfl

/-- A request removed leaves the carriers, a binding of its own lane's aside. -/
theorem removeRequest_carrier {c : Code} : ∃ b, (s.removeRequest l c).carrier k =
    if k = l then { s.carrier k with bound := b } else s.carrier k := by
  unfold State.removeRequest
  split
  · exact ⟨(s.carrier k).bound, by split <;> rfl⟩
  · next r _ =>
    dsimp only
    generalize (if r.direction = .toLane then (s.carrier l).bound else none) = b
    have hb : ∃ x, (if b.isSome then (s.dropRequest l).mapCarrier l fun c => { c with bound := none }
        else s.dropRequest l).carrier k = if k = l then { s.carrier k with bound := x } else s.carrier k := by
      split
      · refine ⟨none, ?_⟩
        rw [mapCarrier_carrier]
        split
        · next h => rw [h]; rfl
        · rfl
      · exact ⟨(s.carrier k).bound, by split <;> rfl⟩
    generalize (if b.isSome then (s.dropRequest l).mapCarrier l fun c => { c with bound := none } else s.dropRequest l) = u at hb ⊢
    obtain ⟨x, hx⟩ := hb
    refine ⟨x, ?_⟩
    rw [touches_reportCarrier.framed.carrier, touches_notifyBack.framed.carrier, touches_record.framed.carrier, hx]

theorem moving_bound (c : Carrier) (b : Option Nat) : ({ c with bound := b } : Carrier).moving = c.moving := rfl

theorem removeRequests_moving {c : Code} (rs : List Request) :
    ((s.forEach rs fun s r => s.removeRequest r.lane c).carrier k).moving = (s.carrier k).moving := by
  refine forEach_preserves (I := fun t => (t.carrier k).moving = (s.carrier k).moving) (fun t r ht => ?_) rs rfl
  obtain ⟨b, hb⟩ := removeRequest_carrier (s := t) (l := r.lane) (k := k) (c := c)
  rw [hb]
  split
  · exact (moving_bound _ b).trans ht
  · exact ht

theorem removeRequests_carrier {c : Code} (rs : List Request) (h : ∀ r ∈ rs, r.lane ≠ k) :
    (s.forEach rs fun s r => s.removeRequest r.lane c).carrier k = s.carrier k := by
  induction rs generalizing s with
  | nil => rfl
  | cons r rs ih =>
    obtain ⟨b, hb⟩ := removeRequest_carrier (s := s) (l := r.lane) (k := k) (c := c)
    rw [if_neg fun he => h r (by simp) he.symm] at hb
    exact (ih (s := s.removeRequest r.lane c) fun x hx => h x (by simp [hx])).trans hb

/-! ## The blower cabinet gone -/

/-- The carriers, each once told that the blower is gone. -/
def State.carriersLost (s : State) : State := s.forEach (List.finRange 6) State.isolateCarrier

theorem touches_carriersLost : Touches (.carriers :: holdParts ++ frameParts) s s.carriersLost :=
  touches_forEach (fun _ _ => touches_isolateCarrier) _ _

theorem carriersLost_carrier (l : Lane) : s.carriersLost.carrier l = (s.carrier l).lostBlower := by
  obtain ⟨u, -, hu, hf⟩ := forEach_turn (f := State.isolateCarrier) (V := fun l s => s.carrier l) (I := fun _ => True)
    (s := s) (fun _ _ _ => trivial) (fun s l m h => by rw [isolateCarrier_carrier, if_neg h]) trivial l
  refine hf.trans ?_
  rw [isolateCarrier_carrier, if_pos rfl, hu]

theorem carriersLost_holds (l : Lane) (h : (s.carrier l).moving = true) : (s.carriersLost.laneRec l).holds.carrier = true := by
  obtain ⟨u, -, hu, hf⟩ := forEach_turn (f := State.isolateCarrier)
    (V := fun l s => ((s.carrier l).moving, (s.laneRec l).holds)) (I := fun _ => True) (s := s) (fun _ _ _ => trivial)
    (fun s l m h => by rw [isolateCarrier_carrier, if_neg h, isolateCarrier_holds, if_neg fun he => h he.1]) trivial l
  have hmoving : (u.carrier l).moving = true := (congrArg Prod.fst hu).trans h
  have hholds := congrArg Prod.snd hf
  dsimp only at hholds
  unfold State.carriersLost
  rw [hholds, isolateCarrier_holds, if_pos ⟨rfl, hmoving⟩]
  rfl

theorem carriersLost_addressed : s.carriersLost.addressed = s.addressed :=
  forEach_preserves (I := fun t => t.addressed = s.addressed) (fun _ _ ht => isolateCarrier_addressed.trans ht) _ rfl

theorem lostBlower_still (c : Carrier) : c.lostBlower.moving = false := by
  unfold Carrier.lostBlower
  split
  · rfl
  · next h => simpa using h

theorem touches_removeRequests {c : Code} (rs : List Request) :
    Touches (.requests :: .carriers :: .records :: logParts) s (s.forEach rs fun s r => s.removeRequest r.lane c) :=
  touches_forEach (fun _ _ => touches_removeRequest) _ _

/-- The blower at rest, and no request left. -/
def State.blowerLost (s : State) : State := (s.mapTube fun t => { t with blower := .idle }).forEach s.tube.requests fun s r =>
  s.removeRequest r.lane .nodeUnavailable

theorem blowerIsolated_eq : s.blowerIsolated = s.carriersLost.blowerLost := by
  unfold State.blowerIsolated
  rw [show s.forEach (List.finRange 6) State.isolateCarrier = s.carriersLost by unfold State.carriersLost; rfl]
  generalize s.carriersLost = u
  rfl

theorem touches_blowerLost : Touches (.blower :: .requests :: .carriers :: .records :: logParts) s s.blowerLost :=
  touches_setBlower.mono.then (touches_removeRequests _)

theorem blowerLost_requests : s.blowerLost.tube.requests = [] := by
  unfold State.blowerLost
  rw [removeRequests_requests]
  refine List.filter_eq_nil_iff.2 fun r hr => ?_
  have : (s.tube.requests.any fun x => decide (x.lane = r.lane)) = true := List.any_eq_true.2 ⟨r, hr, by simp⟩
  rw [this]
  decide

theorem blowerLost_blower : s.blowerLost.tube.blower = .idle := (touches_removeRequests _).framed .blower (by decide)

theorem blowerLost_moving : (s.blowerLost.carrier l).moving = (s.carrier l).moving := removeRequests_moving _

theorem blowerLost_carrier (h : ∀ r ∈ s.tube.requests, r.lane ≠ l) : s.blowerLost.carrier l = s.carrier l :=
  removeRequests_carrier _ h

theorem blowerIsolated_requests : s.blowerIsolated.tube.requests = [] := by rw [blowerIsolated_eq, blowerLost_requests]

theorem blowerIsolated_blower : s.blowerIsolated.tube.blower = .idle := by rw [blowerIsolated_eq, blowerLost_blower]

theorem blowerIsolated_moving : (s.blowerIsolated.carrier l).moving = false := by
  rw [blowerIsolated_eq, blowerLost_moving, carriersLost_carrier, lostBlower_still]

theorem blowerIsolated_lost (hm : (s.carrier l).moving = true) (hr : s.requestOf l = none) : s.blowerIsolated.carrier l =
    { s.carrier l with location := .unknown, cause := some .isolated, seated := false, timer := none } := by
  have hno : ∀ r ∈ s.carriersLost.tube.requests, r.lane ≠ l := fun r hin => by
    rw [touches_carriersLost.framed.requests] at hin
    simpa using List.find?_eq_none.1 hr r hin
  rw [blowerIsolated_eq, blowerLost_carrier hno, carriersLost_carrier]
  exact if_pos hm

theorem blowerIsolated_holds (hm : (s.carrier l).moving = true) : (s.blowerIsolated.laneRec l).holds.carrier = true := by
  rw [blowerIsolated_eq, touches_blowerLost.framed.holds, carriersLost_holds l hm]

theorem blowerIsolated_addressed : s.blowerIsolated.addressed = s.addressed := by
  rw [blowerIsolated_eq, touches_blowerLost.framed.addressed, carriersLost_addressed]

end Sys2Proof.Machine
end

section
/-! SUPPORT. The recycler node ISOLATED (R64, R86, R107). -/

namespace Sys2Proof.Machine

open Sys2Proof

-- One thread, so that the check's memory holds the stacks.
set_option Elab.async false

variable {s t u : State} {l k : Lane} {i j : DispenseSlot}

/-! ## Dispenses -/

/-- A bundle in the customer's hands or the tube: an isolation of the recycler does not end it. -/
def DispenseRecord.outlasts (r : DispenseRecord) : Bool := r.state == .taken || r.state == .inTransit

/-- Every work entry runs. -/
def State.allRun (s : State) : Prop := ∀ e ∈ s.cash.workQueue, e.running = true

theorem State.allRun.dwindles (h : s.allRun) (k : Dwindles s t) : t.allRun := k.running h

theorem waits_allRun {p : WorkEntry → Bool} (h : s.allRun) : s.waits p = false := by
  refine List.any_eq_false.2 fun e he => ?_
  simp [h e he]

theorem pickIsolated_other (h : j ≠ i) : (s.pickIsolated i).recordAt j = s.recordAt j := by
  refine onDispense_cases (Q := fun t => t.recordAt j = s.recordAt j) (fun _ => rfl) fun r _ => ?_
  dsimp only
  cases r.state with
  | queued =>
    dsimp only
    split
    · rfl
    · rw [cancelQueued_recordAt, if_neg h]
  | picking =>
    dsimp only
    split
    · rfl
    · rw [endInDoubt_recordAt, if_neg h]
  | presented => exact endInDoubt_recordAt.trans (if_neg h)
  | taken | inTransit => rfl

theorem pickIsolated_own (h : s.allRun) : (s.pickIsolated i).recordAt i = (s.recordAt i).filter DispenseRecord.outlasts := by
  refine onDispense_cases (Q := fun t => t.recordAt i = (s.recordAt i).filter DispenseRecord.outlasts)
    (fun hn => by rw [hn]; rfl) fun r hr => ?_
  have hleft : ∀ b, r.outlasts = b → (some r).filter DispenseRecord.outlasts = if b then some r else none := by
    rintro b rfl
    rfl
  dsimp only
  rw [waits_allRun h, hr]
  cases hst : r.state with
  | queued => rw [hleft false (by rw [DispenseRecord.outlasts, hst]; rfl)]; simp [cancelQueued_recordAt]
  | picking => rw [hleft false (by rw [DispenseRecord.outlasts, hst]; rfl)]; simp [endInDoubt_recordAt]
  | presented => rw [hleft false (by rw [DispenseRecord.outlasts, hst]; rfl)]; simp [endInDoubt_recordAt]
  | taken | inTransit => rw [hleft true (by rw [DispenseRecord.outlasts, hst]; rfl)]; exact hr

theorem dispenseIsolated_recordAt (h : s.allRun) (i : DispenseSlot) :
    s.dispenseIsolated.recordAt i = (s.recordAt i).filter DispenseRecord.outlasts := by
  obtain ⟨u, hu, hv, hf⟩ := forEach_turn (f := State.pickIsolated) (V := fun i s => s.recordAt i) (I := State.allRun) (s := s)
    (fun s i hs => hs.dwindles (dwindles_pickIsolated)) (fun s i j h => pickIsolated_other h) h i
  exact hf.trans ((pickIsolated_own hu).trans (by rw [hv]))

/-! ## Sessions -/

theorem sessionInDoubt_session {b : Bool} : (s.sessionInDoubt l b).session k = if k = l then none else s.session k :=
  sessionDoubted_session fun _ _ => touches_giveUp

theorem sessionIsolated_other (h : k ≠ l) : (s.sessionIsolated l).session k = s.session k := by
  refine onSession_cases (Q := fun t => t.session k = s.session k) (fun _ => rfl) fun x _ => ?_
  split
  · rw [sessionInDoubt_session, if_neg h]
  · split
    · rw [closeSession_session, if_neg h]
    · rfl

theorem sessionIsolated_own : ∀ x, (s.sessionIsolated l).session l = some x → x.state = .queued := by
  refine onSession_cases (Q := fun t => ∀ x, t.session l = some x → x.state = .queued) (fun hn x hx => ?_) fun y hy => ?_
  · rw [hn] at hx
    cases hx
  · split
    · rw [sessionInDoubt_session, if_pos rfl]
      exact fun x hx => nomatch hx
    · next hr =>
      split
      · rw [closeSession_session, if_pos rfl]
        exact fun x hx => nomatch hx
      · intro x hx
        rw [hy, Option.some.injEq] at hx
        subst hx
        unfold Session.running at hr
        cases hst : y.state with
        | queued => rfl
        | active | ending => simp [hst] at hr

theorem depositIsolated_session (l : Lane) : ∀ x, s.depositIsolated.session l = some x → x.state = .queued := by
  obtain ⟨u, -, -, hf⟩ := forEach_turn (f := State.sessionIsolated) (V := fun l s => s.session l) (I := fun _ => True)
    (s := s) (fun _ _ _ => trivial) (fun _ _ _ h => sessionIsolated_other h) trivial l
  intro x hx
  exact sessionIsolated_own x (hf.symm.trans hx)

theorem sessionFaulted_other (h : k ≠ l) : (s.sessionFaulted l).session k = s.session k := by
  refine onSession_cases (Q := fun t => t.session k = s.session k) (fun _ => rfl) fun x _ => ?_
  split
  · rw [closeSession_session, if_neg h]
  · rfl

theorem sessionFaulted_own (h : ∀ x, s.session l = some x → x.state = .queued) : (s.sessionFaulted l).session l = none := by
  refine onSession_cases (Q := fun t => t.session l = none) id fun x hx => ?_
  rw [if_pos ⟨h x hx, rfl⟩, closeSession_session, if_pos rfl]

theorem depositFaulted_session (h : ∀ l x, s.session l = some x → x.state = .queued) (l : Lane) :
    s.depositFaulted.session l = none := by
  have hq : ∀ (u : State) (m : Lane), (∀ l x, u.session l = some x → x.state = .queued) →
      ∀ l x, (u.sessionFaulted m).session l = some x → x.state = .queued := fun u m hu l x hx => by
    by_cases hl : l = m
    · rw [hl, sessionFaulted_own (hu m)] at hx
      cases hx
    · rw [sessionFaulted_other hl] at hx
      exact hu l x hx
  obtain ⟨u, hu, -, hf⟩ := forEach_turn (f := State.sessionFaulted) (V := fun l s => s.session l)
    (I := fun s => ∀ l x, s.session l = some x → x.state = .queued) (s := s) hq (fun _ _ _ h => sessionFaulted_other h) h l
  exact hf.trans (sessionFaulted_own (hu l))

/-! ## The queue of frames -/

theorem endSession_addressed {e : SessionEnd} {r : Option Nat} : (s.endSession l e r).addressed = s.addressed := by
  unfold State.endSession
  dsimp only
  refine Eq.trans ?_ (touches_touchSession (s := s) (l := l)).framed.addressed
  generalize s.touchSession l = u
  refine onSession_cases (Q := fun t => t.addressed = u.addressed) (fun _ => rfl) fun x _ => ?_
  have hp : (if e.kind = .inDoubt then (u.outcome (x.outcomeEntry l e r)).postHold l .cash
      else u.outcome (x.outcomeEntry l e r)).addressed = u.addressed := by
    split
    · rw [touches_postHold.framed.addressed, touches_outcome.framed.addressed]
    · rw [touches_outcome.framed.addressed]
  generalize (if e.kind = .inDoubt then (u.outcome (x.outcomeEntry l e r)).postHold l .cash
      else u.outcome (x.outcomeEntry l e r)) = v at hp ⊢
  have hr : ((((v.closeTxn l).reportDeposit l e.event e.code).setSession l none).retire (.acceptBegin l)).addressed =
      u.addressed := by
    rw [retire_addressed, framed_setSession.addressed, touches_reportDeposit.framed.addressed, framed_closeTxn.addressed, hp]
  split
  · exact hr
  · rw [touches_endOperation.framed.addressed, hr]

theorem closeSession_addressed {c : Option Code} {b : Bool} {r : Option Nat} :
    (s.closeSession l c b r).addressed = s.addressed :=
  onSession_cases (Q := fun t => t.addressed = s.addressed) (fun _ => rfl) fun _ _ => endSession_addressed

theorem sessionInDoubt_addressed {b : Bool} : (s.sessionInDoubt l b).addressed = s.addressed := by
  refine onSession_cases (Q := fun t => t.addressed = s.addressed) (fun _ => rfl) fun x _ => ?_
  rw [endSession_addressed, touches_mapSession.framed.addressed, touches_doubtValue.framed.addressed,
    (touches_forEach (fun _ _ => touches_giveUp) _ _).framed.addressed]

theorem depositIsolated_addressed : s.depositIsolated.addressed = s.addressed := by
  refine forEach_preserves (I := fun t => t.addressed = s.addressed) (fun t l ht => Eq.trans ?_ ht) _ rfl
  refine onSession_cases (Q := fun u => u.addressed = t.addressed) (fun _ => rfl) fun x _ => ?_
  split
  · exact sessionInDoubt_addressed
  · split
    · exact closeSession_addressed
    · rfl

theorem depositFaulted_addressed : s.depositFaulted.addressed = s.addressed := by
  refine forEach_preserves (I := fun t => t.addressed = s.addressed) (fun t l ht => Eq.trans ?_ ht) _ rfl
  refine onSession_cases (Q := fun u => u.addressed = t.addressed) (fun _ => rfl) fun x _ => ?_
  split
  · exact closeSession_addressed
  · rfl

/-! ## The Authority Table -/

/-- No dispense is QUEUED. -/
def State.noneQueued (s : State) : Prop := ∀ i r, s.recordAt i = some r → r.state ≠ .queued

/-- An outcome other than CANCELLED and RETRACTED lowers no charge. -/
theorem endDispense_screen {kind : RecordKind} {n d : Nat} {c : Option Code} (h : ¬(kind = .cancelled ∨ kind = .retracted)) :
    (s.endDispense i kind n c d).screen = s.screen := by
  unfold State.endDispense
  dsimp only
  rw [if_neg h]
  refine Eq.trans ?_ (touches_touchDispense (s := s) (i := i)).framed.screen
  generalize s.touchDispense i = u
  refine onDispense_cases (Q := fun t => t.screen = u.screen) (fun _ => rfl) fun r _ => ?_
  have hp : (if bringsCash kind r.flags.takenLate then (u.outcome (r.outcomeEntry kind n d)).postHold r.lane .cash
      else u.outcome (r.outcomeEntry kind n d)).screen = u.screen := by
    split
    · rw [touches_postHold.framed.screen, touches_outcome.framed.screen]
    · rw [touches_outcome.framed.screen]
  rw [framed_setDispense.screen, touches_reportDispense.framed.screen, framed_closeTxn.screen, hp]

theorem endInDoubt_screen {b : Bool} {d : Nat} : (s.endInDoubt i b d).screen = s.screen := by
  refine onDispense_cases (Q := fun t => t.screen = s.screen) (fun _ => rfl) fun r _ => ?_
  have hm : (if b = true then s.forEach r.currentPlan fun s p => s.markUnreconciled p.cassette else s).screen = s.screen := by
    split
    · exact (touches_forEach (fun _ _ => touches_markUnreconciled) _ _).framed.screen
    · rfl
  dsimp only
  rw [touches_endOperation.framed.screen, touches_setInDoubt.framed.screen, endDispense_screen (by decide),
    (touches_mapDispenseAt).framed.screen, hm]

theorem pickIsolated_screen (h : ∀ r, s.recordAt i = some r → r.state ≠ .queued) : (s.pickIsolated i).screen = s.screen := by
  refine onDispense_cases (Q := fun t => t.screen = s.screen) (fun _ => rfl) fun r hr => ?_
  dsimp only
  cases hst : r.state with
  | queued => exact absurd hst (h r hr)
  | picking =>
    dsimp only
    split
    · rfl
    · exact endInDoubt_screen
  | presented => exact endInDoubt_screen
  | taken | inTransit => rfl

/-- An isolation never makes a dispense QUEUED. -/
theorem pickIsolated_noneQueued (hs : s.allRun) (h : s.noneQueued) : (s.pickIsolated i).noneQueued := by
  intro j r hr
  by_cases hj : j = i
  · rw [hj, pickIsolated_own hs] at hr
    exact h i r (Option.eq_some_of_filter_eq_some hr)
  · rw [pickIsolated_other hj] at hr
    exact h j r hr

theorem dispenseIsolated_screen (hs : s.allRun) (h : s.noneQueued) : s.dispenseIsolated.screen = s.screen :=
  (forEach_preserves (f := State.pickIsolated) (I := fun t => t.allRun ∧ t.noneQueued ∧ t.screen = s.screen)
    (fun _ _ ⟨hr, hq, hsc⟩ => ⟨hr.dwindles dwindles_pickIsolated, pickIsolated_noneQueued hr hq,
      (pickIsolated_screen fun r hi => hq _ r hi).trans hsc⟩) (List.finRange 8) ⟨hs, h, rfl⟩).2.2

/-! ## The recycler FAULTED -/

theorem dispenseFaulted_none (h : s.noneQueued) : s.dispenseFaulted = s := by
  refine forEach_preserves (I := fun t => t = s) (fun t i ht => ?_) _ rfl
  subst ht
  refine onDispense_cases (Q := fun u => u = t) (fun _ => rfl) fun r hr => ?_
  rw [if_neg (h i r hr)]

/-- Cash Position FAULTED, its work dropped. -/
def State.toFaulted (s : State) : State :=
  s.mapCash fun k => { k with recycler := .faulted, condition := .unknown, workQueue := [] }

/-- With every work entry running and no dispense QUEUED, a fault empties the work queue and closes the QUEUED sessions. -/
theorem becomeFaulted_eq (hf : s.cash.recycler ≠ .faulted) (hs : s.allRun) (hq : s.noneQueued) : s.becomeFaulted =
    (s.toFaulted.depositFaulted.record { kind := .recyclerFault }).send7 (.recyclerState .faulted) := by
  have hdrop : s.cash.workQueue.filter (fun e => !e.running) = [] :=
    List.filter_eq_nil_iff.2 fun e he => by simp [hs e he]
  have hempty : (((s.mapCash fun k => { k with recycler := .faulted }).mapCash fun k => { k with condition := .unknown }).dropWork
      fun e => e.running).cash.workQueue = [] := hdrop
  unfold State.becomeFaulted
  rw [if_neg hf]
  unfold State.faultEffects
  dsimp only
  rw [hempty]
  have hnone : s.toFaulted.noneQueued := hq
  have hcash : ((((s.mapCash fun k => { k with recycler := .faulted }).mapCash fun k => { k with condition := .unknown }).dropWork
      fun e => e.running).mapWork fun _ => []) =
      s.toFaulted := rfl
  rw [hcash]
  have hback : ∀ v : State, (v.forEach ([] : List WorkEntry) fun s e => s.handBack e (some .recyclerFault) .recyclerFault) = v :=
    fun _ => rfl
  rw [hback, dispenseFaulted_none hnone]
  rw [(dwindles_depositFaulted (s := s.toFaulted)).faulted.2 rfl]

/-- What an isolation of the recycler node leaves, where every work entry runs. -/
structure RecyclerGone (s t : State) : Prop where
  recycler : t.cash.recycler = .faulted
  queue : t.cash.workQueue = []
  condition : t.cash.condition = .unknown
  records : ∀ i, t.recordAt i = (s.recordAt i).filter DispenseRecord.outlasts
  sessions : ∀ l, t.session l = none
  screen : s.noneQueued → t.screen = s.screen
  authority : t.screen = { s.screen with authority := t.screen.authority }
  envelope : t.envelope = s.envelope
  tube : t.tube = s.tube
  alarm : t.alarm = s.alarm
  addressed : t.addressed = s.addressed

/-- The Order Screen but for the Authority Table. -/
theorem Framed.screenKept {ps : List Part} (h : Framed ps s t)
    (hd : apart [.consoles, .pairSlots, .managementSlot, .rateWindows, .screening] ps = true := by decide) :
    t.screen = { s.screen with authority := t.screen.authority } :=
  have k := fun p hp => h p (not_mem_of_apart hd hp)
  (OrderScreen.mk.injEq ..).mpr ⟨k .consoles (by decide), rfl, k .pairSlots (by decide), k .managementSlot (by decide),
    k .rateWindows (by decide), k .screening (by decide)⟩

theorem noneQueued_of_outlasts {f : DispenseSlot → Option DispenseRecord}
    (h : ∀ i, s.recordAt i = (f i).filter DispenseRecord.outlasts) : s.noneQueued := by
  intro i r hr hst
  rw [h] at hr
  have hout : r.outlasts = true := (Option.filter_eq_some_iff.1 hr).2
  simp [DispenseRecord.outlasts, hst] at hout

/-- The recycler FAULTED behind a state whose dispenses and sessions were dealt with. -/
theorem becomeFaulted_gone (hf : s.cash.recycler ≠ .faulted) (hs : s.allRun) (hq : s.noneQueued)
    (hx : ∀ l x, s.session l = some x → x.state = .queued) : s.becomeFaulted.cash.recycler = .faulted
      ∧ s.becomeFaulted.cash.workQueue = [] ∧ s.becomeFaulted.cash.condition = .unknown
      ∧ (∀ l, s.becomeFaulted.session l = none) ∧ s.becomeFaulted.addressed = s.addressed
      ∧ Framed (.recycler :: .condition :: sessionParts ++ logParts) s s.becomeFaulted := by
  rw [becomeFaulted_eq hf hs hq]
  have hfirst : Touches [.recycler, .condition, .workQueue] s
      s.toFaulted := .of_framed fun p hp => by
    cases p with
    | recycler | condition | workQueue => exact absurd (by decide) hp
    | _ => rfl
  have hses : ∀ l x, s.toFaulted.session l =
      some x → x.state = .queued := hx
  have hadd : s.toFaulted.addressed =
      s.addressed := rfl
  have hrec : s.toFaulted.cash.recycler =
    .faulted := rfl
  have hwork : s.toFaulted.cash.workQueue =
    [] := rfl
  have hcond : s.toFaulted.cash.condition =
    .unknown := rfl
  generalize s.toFaulted = u at *
  have hd := dwindles_depositFaulted (s := u)
  have hn := depositFaulted_session hses
  have ha := depositFaulted_addressed (s := u)
  have ht := touches_depositFaulted (s := u)
  generalize u.depositFaulted = v at *
  have hlog := (touches_record (s := v) (e := { kind := .recyclerFault })).mono (ps := logParts)
    |>.then (touches_send7 (r := .recyclerState .faulted))
  have hall := hd.trans (.of_framed hlog.framed)
  refine ⟨hall.faulted.2 hrec, ?_, ?_, fun l => ?_, ?_, ?_⟩
  · exact List.sublist_nil.1 (hwork ▸ hall.queue)
  · exact (hlog.framed .condition (by decide)).trans ((ht.framed .condition (by decide)).trans hcond)
  · exact (hlog.framed.session l).trans (hn l)
  · exact hlog.framed.addressed.trans (ha.trans hadd)
  · exact (hfirst.mono (ps := .recycler :: .condition :: sessionParts ++ logParts) |>.then ht |>.then hlog).framed

theorem recyclerIsolated_gone (hf : s.cash.recycler ≠ .faulted) (hs : s.allRun) : RecyclerGone s s.recyclerIsolated := by
  unfold State.recyclerIsolated
  have hdw := dwindles_dispenseIsolated (s := s)
  have hrec := dispenseIsolated_recordAt hs
  have hscreen := dispenseIsolated_screen hs
  have hdf := (touches_dispenseIsolated (s := s)).framed
  generalize s.dispenseIsolated = u at *
  have hdep := dwindles_depositIsolated (s := u)
  have hses := depositIsolated_session (s := u)
  have hadd := depositIsolated_addressed (s := u)
  have hsf := (touches_depositIsolated (s := u)).framed
  generalize u.depositIsolated = v at *
  have hrecv : ∀ i, v.recordAt i = (s.recordAt i).filter DispenseRecord.outlasts := fun i => (hsf.recordAt i).trans (hrec i)
  have hdv := hdw.trans hdep
  obtain ⟨hfault, hqueue, hcond, hnone, ha, hbf⟩ := becomeFaulted_gone (fun h => hf (hdv.faulted.1 h)) (hs.dwindles hdv)
    (noneQueued_of_outlasts hrecv) hses
  exact {
    recycler := hfault
    queue := hqueue
    condition := hcond
    records := fun i => (hbf.recordAt i).trans (hrecv i)
    sessions := hnone
    screen := fun hq => hbf.screen.trans (hsf.screen.trans (hscreen hq))
    authority := by rw [hbf.screen, hsf.screen]; exact hdf.screenKept
    envelope := hbf.envelope.trans (hsf.envelope.trans hdf.envelope)
    tube := hbf.tube.trans (hsf.tube.trans hdf.tube)
    alarm := hbf.alarm.trans (hsf.alarm.trans hdf.alarm)
    addressed := ha.trans (hadd.trans hdf.addressed) }

end Sys2Proof.Machine
end

section
/-! PROOFS. How an exchange's result moves its node's counters, and what the crossings bring (O57). -/

namespace Sys2Proof.Machine

open Sys2Proof

-- One thread, so that the check's memory holds the stacks.
set_option Elab.async false

section Clauses

variable {s : State} {x : Exchange} {m : ModuleId} {l : Lane}

theorem announceCrossing_old {mark : Nat} (h : (s.module m).mark mark = true) : s.announceCrossing m mark = s := if_pos h

/-- A silent poll whose crossing of 96 was announced before, of a node with nothing to decide. -/
theorem silent_toWatch (hl : (s.module m).orderErrors < 96) (hg : 96 ≤ (s.module m).orderErrors + 8)
    (hr : (s.module m).replyErrors < 128) (hmark : (s.module m).mark96 = true) (hk : (s.module m).kind ≠ .laneStation)
    (hw : s.cash.workQueue = []) (ht : s.tube.requests = []) : s.crossed m .silent 96 = s.exchangeOver.setModule m
      { (s.module m).recounted ((s.module m).orderErrors + 8) (s.module m).replyErrors with health := .watch } := by
  have hh : healthGiven ((s.module m).after .silent).orderErrors ((s.module m).after .silent).replyErrors = .watch := by
    change healthGiven ((s.module m).orderErrors + 8) (s.module m).replyErrors = .watch
    unfold healthGiven
    rw [if_neg (by omega), if_neg (by omega), if_pos (.inl hg)]
  have hown : (s.countedFor m .silent).module m = (s.module m).after .silent := by rw [countedFor_module, if_pos rfl]
  unfold State.crossed
  rw [hh, announceCrossing_old (by rw [hown]; exact hmark)]
  unfold State.setHealth
  by_cases hs : (s.module m).health = .watch
  · rw [if_pos (by rw [hown]; exact hs)]
    unfold State.countedFor
    exact congrArg (fun h => s.exchangeOver.setModule m { (s.module m).after .silent with health := h }) hs
  · obtain ⟨e, he⟩ : ∃ e, e = { (s.module m).after .silent with health := .watch } := ⟨_, rfl⟩
    have hm : (s.exchangeOver.setModule m e).module m = e := by rw [setModule_module, if_pos rfl]
    have hreached : ((s.exchangeOver.setModule m e).module m).health ≠ .isolated := by
      rw [hm, he]
      exact Health.noConfusion
    have hst : e.station = none := by
      rw [he]
      exact if_neg hk
    rw [if_neg (by rw [hown]; exact hs), if_neg (by decide), changeModule_eq, hown, ← he,
      changedTo_fresh (e := (s.module m).after .silent) rfl (by rw [he])]
    unfold State.countedFor
    rw [setModule_setModule, tellHealth_reached hreached hw ht, hm, hst, he]
    rfl

/-- A lane station that goes RESTRICTED. -/
theorem silent_toRestricted (hl : (s.module m).orderErrors < 128)
    (hg : 128 ≤ (s.module m).orderErrors + 8) (hres : (s.module m).health ≠ .restricted) (hst : s.stationEntry l = some m) :
    ((s.crossed m .silent 128).laneRec l).holds = { (s.laneRec l).holds with node := true }
      ∧ ((s.crossed m .silent 128).laneRec l).txn = (s.laneRec l).txn
      ∧ ((s.crossed m .silent 128).laneRec l).profile = (s.laneRec l).profile
      ∧ (∀ k, k ≠ l → (s.crossed m .silent 128).laneRec k = s.laneRec k)
      ∧ s.crossed m .silent 128 = { (s.exchangeOver.setModule m ((s.module m).crossedTo 128 .restricted)).logged
          (s.crossed m .silent 128) with lanes := (s.crossed m .silent 128).lanes } := by
  have hh : healthGiven ((s.module m).orderErrors + 8) (s.module m).replyErrors = .restricted := by
    unfold healthGiven
    rw [if_neg (by omega), if_pos (.inl hg)]
  obtain ⟨v, hv, ht⟩ := crossed_taken (mark := 128) hh hres (by decide)
  have hmod : v.bus.modules = s.bus.modules.set m ((s.module m).crossedTo 128 .restricted) := by
    rw [hv]
    rfl
  obtain ⟨hkind, hlane, hhealth, hstands⟩ := stationEntry_crossed hst rfl hmod
  rw [ht, tellHealth_restricted hkind hlane hhealth]
  obtain ⟨hholds, htxn, hprofile, hothers⟩ := evaluateNode_stands hstands
  have hrec : ∀ k, v.laneRec k = s.laneRec k := fun k => hv.laneRec k
  rw [hrec] at hholds htxn hprofile
  exact ⟨hholds, htxn, hprofile, fun k hk => (hothers k hk).trans (hrec k), hv.lanesJudged touches_evaluateNode.framed⟩

/-- A lane station that goes ISOLATED. -/
theorem silent_stationIsolated (hn : s.nodeEntry x.frame.node = some m) (hi : (s.module m).health ≠ .isolated)
    (hg : 256 ≤ (s.module m).orderErrors + 8) (hst : s.stationEntry l = some m) (hgo : s.mgmt.goPending = false) :
    ((s.crossed m .silent 256).laneRec l).holds = { (s.laneRec l).holds with node := true }
      ∧ ((s.crossed m .silent 256).laneRec l).txn = (s.laneRec l).txn
      ∧ (∀ k, k ≠ l → (s.crossed m .silent 256).laneRec k = s.laneRec k)
      ∧ s.crossed m .silent 256 = { ((s.exchangeOver.setModule m ((s.module m).crossedTo 256 .isolated)).dropFrames
          x.frame.node).logged (s.crossed m .silent 256) with
        lanes := (s.crossed m .silent 256).lanes
        envelope := { s.envelope with
          slots := s.envelope.slots.map fun c => if c.any (fun c => c.node == x.frame.node) then none else c } } := by
  obtain ⟨v, hv, -, ht⟩ := crossed_isolated hg hi
  rw [node_of_nodeEntry hn] at hv
  have hmod : v.bus.modules = s.bus.modules.set m ((s.module m).crossedTo 256 .isolated) := by
    rw [hv]
    rfl
  obtain ⟨hkind, hlane, hhealth, hstands⟩ := stationEntry_crossed hst rfl hmod
  have hnode : (v.module m).node = x.frame.node := by
    rw [module_of_set hmod, if_pos rfl, (crossedTo_rest _ _ _).1, node_of_nodeEntry hn]
  rw [ht hgo, tellHealth_isolated hkind hlane hhealth, hnode]
  obtain ⟨hholds, htxn, -, hothers⟩ := evaluateNode_stands hstands
  have hrec : ∀ k, v.laneRec k = s.laneRec k := fun k => hv.laneRec k
  rw [hrec] at hholds htxn
  have hj := (touches_evaluateNode (s := v) (l := l)).framed
  have henv : ((v.evaluateNode l).envelopeIsolated x.frame.node).envelope = _ := envelopeIsolated_envelope
  have hsame : (v.evaluateNode l).envelope = s.envelope := by
    rw [hj.envelope, hv]
    rfl
  rw [hsame] at henv
  have hq := (touches_envelopeIsolated_quietly (s := v.evaluateNode l) (node := x.frame.node)).framed
  have hgone := hv.stationGone hj hq
  rw [henv] at hgone
  generalize (v.evaluateNode l).envelopeIsolated x.frame.node = t at *
  exact ⟨by rw [hq.holds, hholds], by rw [hq.txn, htxn], fun k hk => by rw [hq.laneRec, hothers k hk, hrec], hgone⟩

/-- The blower cabinet ISOLATED. -/
theorem silent_blowerIsolated (hn : s.nodeEntry x.frame.node = some m) (hi : (s.module m).health ≠ .isolated)
    (hg : 256 ≤ (s.module m).orderErrors + 8) (hk : (s.module m).kind = .blower) (hgo : s.mgmt.goPending = false) :
    ∃ v : State, v.screen = s.screen ∧ v.cash = s.cash ∧ v.deposit = s.deposit ∧ v.envelope = s.envelope ∧ v.alarm = s.alarm
      ∧ v.tube = s.tube ∧ v.addressed = (s.dropFrames x.frame.node).addressed
      ∧ s.crossed m .silent 256 = v.blowerIsolated := by
  obtain ⟨v, hv, -, ht⟩ := crossed_isolated hg hi
  rw [node_of_nodeEntry hn] at hv
  have hmod : v.module m = (s.module m).crossedTo 256 .isolated := by
    rw [module_of_set (s := s) (t := v) (m := m) (by rw [hv]; rfl), if_pos rfl]
  refine ⟨v, by rw [hv]; rfl, by rw [hv]; rfl, by rw [hv]; rfl, by rw [hv]; rfl, by rw [hv]; rfl, by rw [hv]; rfl,
    by rw [hv]; rfl, ?_⟩
  rw [ht hgo]
  unfold State.tellHealth
  dsimp only
  rw [hmod, (crossedTo_rest _ _ _).2.1, hk]
  rfl

theorem RecyclerGone.of_logs {c v t : State} (h : RecyclerGone v t) (hv : LogsOnly c v) : RecyclerGone c t := by
  rw [hv] at h
  exact ⟨h.recycler, h.queue, h.condition, h.records, h.sessions, h.screen, h.authority, h.envelope, h.tube, h.alarm,
    h.addressed⟩

theorem RecyclerGone.framed {c t u : State} (h : RecyclerGone c t) (hf : Framed (.goPending :: logParts) t u) :
    RecyclerGone c u := by
  have hcash := hf.cash
  exact ⟨by rw [hcash]; exact h.recycler, by rw [hcash]; exact h.queue, by rw [hcash]; exact h.condition,
    fun i => (hf.recordAt i).trans (h.records i), fun l => (hf.session l).trans (h.sessions l),
    fun hq => hf.screen.trans (h.screen hq), by rw [hf.screen]; exact h.authority, hf.envelope.trans h.envelope,
    hf.tube.trans h.tube, hf.alarm.trans h.alarm, hf.addressed.trans h.addressed⟩

/-- The recycler node ISOLATED, with every work entry running. -/
theorem silent_recyclerIsolated (hn : s.nodeEntry x.frame.node = some m) (hi : (s.module m).health ≠ .isolated)
    (hg : 256 ≤ (s.module m).orderErrors + 8) (hst : s.recyclerEntry = some m) (hf : s.cash.recycler ≠ .faulted)
    (hs : s.allRun) : RecyclerGone (s.dropFrames x.frame.node) (s.crossed m .silent 256) := by
  obtain ⟨v, hv, ht, -⟩ := crossed_isolated hg hi
  rw [node_of_nodeEntry hn] at hv
  have hmod : v.module m = (s.module m).crossedTo 256 .isolated := by
    rw [module_of_set (s := s) (t := v) (m := m) (by rw [hv]; rfl), if_pos rfl]
  have hkind : (s.module m).kind = .recycler := by
    have := List.find?_some hst
    simp only [Bool.and_eq_true, beq_iff_eq] at this
    exact this.2
  have hcash : v.cash = s.cash := by
    rw [hv]
    rfl
  have hgone := recyclerIsolated_gone (s := v) (by rw [hcash]; exact hf) (by unfold State.allRun; rw [hcash]; exact hs)
  have htell : v.tellHealth m = v.recyclerIsolated := by
    unfold State.tellHealth
    dsimp only
    rw [hmod, (crossedTo_rest _ _ _).2.1, hkind, show ((s.module m).crossedTo 256 .isolated).health = .isolated from rfl]
    dsimp only
    rw [if_pos (by decide), arbitrate_none hgone.queue]
  rw [htell] at ht
  have hcore := (hgone.of_logs hv).framed ht
  exact ⟨hcore.recycler, hcore.queue, hcore.condition, hcore.records, hcore.sessions, hcore.screen, hcore.authority,
    hcore.envelope, hcore.tube, hcore.alarm, hcore.addressed⟩

end Clauses

theorem filter_of_all {α : Type} {p : α → Bool} {o : Option α} (h : o.all p = true) : o.filter p = o := by
  cases o with
  | none => rfl
  | some a => exact Option.filter_eq_some_iff.2 ⟨rfl, h⟩

theorem mem_dispenses {s : State} {i : DispenseSlot} {r : DispenseRecord} (h : s.recordAt i = some r) : r ∈ s.dispenses := by
  refine List.mem_filterMap.2 ⟨some r, ?_, rfl⟩
  rw [← h]
  exact Vector.mem_toList_iff.2 (Vector.getElem_mem ..)

/-- Settles O57: each result by its counters, each crossing by the health it brings. -/
theorem exchangesEndByTheirResult : Obligations.ExchangesEndByTheirResult := by
  unfold Obligations.ExchangesEndByTheirResult
  refine ⟨?good, ?goodAny, ?refused, ?refusedAny, ?silentResent, ?damagedResent, ?silentLast, ?damagedLast, ?silentAny,
    ?damagedAny, ?silentPoll, ?damagedPoll, ?silentCrossing, ?damagedCrossing, ?toWatch, ?toRestricted, ?station, ?blower,
    ?recycler⟩
  case good =>
    intro s x m r o hx hc hw ha ho
    rw [exec_reply hx.1 hw, resultOf_acknowledges hc ha,
      awaits_delivered hx (by rw [hc]; nofun) (awaits_stays hx rfl) (.inr rfl), deliver_unheeded hc ho]
    rfl
  case goodAny =>
    intro s x m r o hx hc hw ha hdue
    have hrun := exec_reply hx.1 hw r
    rw [resultOf_acknowledges hc ha] at hrun
    exact ⟨_, hrun, awaits_leaves (res := .good) hx hc (awaits_stays hx rfl) (.inr rfl) hdue⟩
  case refused =>
    intro s x m r o reason hx hc hw ha hcls hkind hb ho
    rw [exec_reply hx.1 hw, resultOf_refusal hc ha hcls hkind hb,
      awaits_delivered hx (by rw [hc]; nofun) (awaits_stays hx rfl) (.inr rfl), deliver_unheeded hc ho]
    exact congrArg _ setModule_self
  case refusedAny =>
    intro s x m r o reason hx hc hw ha hcls hkind hb hdue
    have hrun := exec_reply hx.1 hw r
    rw [resultOf_refusal hc ha hcls hkind hb] at hrun
    obtain ⟨hmods, hout, hres⟩ := awaits_leaves (b := contentOf r) (res := .refused reason) hx hc (awaits_stays hx rfl) (.inr rfl) hdue
    exact ⟨_, hrun, hmods.trans (congrArg (fun t : State => t.bus.modules) (setModule_self (s := s) (m := m))), hout, hres⟩
  case silentResent =>
    intro s x m o hx hc ho hr hw hb
    rw [exec_windowOver hx.1 hw, awaits_resent hx hc (awaits_stays_silent hx hb) ho hr rfl]
    rfl
  case damagedResent =>
    intro s x m r o hx hc ho hr hw hd hb
    rw [exec_reply hx.1 hw, resultOf_damages hd, awaits_resent hx hc (awaits_stays_damaged hx hb) ho hr rfl]
    rfl
  case silentLast =>
    intro s x m o hx hc ho hr hw hb
    rw [exec_windowOver hx.1 hw, awaits_delivered hx (by rw [hc]; nofun) (awaits_stays_silent hx hb)
      (.inl (resendable_money hc (.inr hr))), deliver_unheeded hc ho]
    rfl
  case damagedLast =>
    intro s x m r o hx hc ho hr hw hd hb
    rw [exec_reply hx.1 hw, resultOf_damages hd, awaits_delivered hx (by rw [hc]; nofun) (awaits_stays_damaged hx hb)
      (.inl (resendable_money hc (.inr hr))), deliver_unheeded hc ho]
    rfl
  case silentAny =>
    intro s x m o hx hc hr hw hb hdue
    exact ⟨_, exec_windowOver hx.1 hw, awaits_leaves hx hc (awaits_stays_silent hx hb) (.inl (resendable_money hc hr)) hdue⟩
  case damagedAny =>
    intro s x m r o hx hc hr hw hd hb hdue
    have hrun := exec_reply hx.1 hw r
    rw [resultOf_damages hd] at hrun
    exact ⟨_, hrun, awaits_leaves hx hc (awaits_stays_damaged hx hb) (.inl (resendable_money hc hr)) hdue⟩
  case silentPoll =>
    intro s x m hx hc hw hb
    rw [exec_windowOver hx.1 hw, awaits_delivered hx (by rw [hc]; nofun) (awaits_stays_silent hx hb)
      (.inl (resendable_poll hc)), deliver_poll hc (by decide)]
    rfl
  case damagedPoll =>
    intro s x m r hx hc hw hd hb
    rw [exec_reply hx.1 hw, resultOf_damages hd, awaits_delivered hx (by rw [hc]; nofun) (awaits_stays_damaged hx hb)
      (.inl (resendable_poll hc)), deliver_poll hc (by decide)]
    rfl
  case silentCrossing =>
    intro s x m mark hx hc hn hi hw hm hl hg hmark
    have hmod := crossed_module (s := s) (m := m) (r := .silent) (mark := mark) rfl
    obtain ⟨hout, hwatch, hring, hqueue⟩ := crossed_told (s := s) (m := m) (r := .silent) rfl hmark
    have hown := hmod m
    rw [if_pos rfl] at hown
    obtain ⟨ho, hr, -⟩ := setMark_rest ((s.module m).after .silent) mark
    refine ⟨_, exec_silent_crossing hx hc hn hi hw hm hl hg, by rw [hown]; exact ho, by rw [hown]; exact hr, ?_,
      by rw [hown]; rfl, fun j hj => by rw [hmod, if_neg hj], hout, hwatch, hring, hqueue⟩
    rw [hown]
    exact setMark_mark _ mark
  case damagedCrossing =>
    intro s x m r mark hx hc hn hi hw hd hm hr hlow hmark
    have hmod := crossed_module (s := s) (m := m) (r := .damaged) (mark := mark) rfl
    obtain ⟨hout, hwatch, hring, hqueue⟩ := crossed_told (s := s) (m := m) (r := .damaged) rfl hmark
    have hown := hmod m
    rw [if_pos rfl] at hown
    obtain ⟨ho, hp, -⟩ := setMark_rest ((s.module m).after .damaged) mark
    have hafter : ((s.module m).after .damaged).replyErrors = mark := hr
    rw [hafter] at hring hqueue
    refine ⟨_, exec_damaged_crossing hx hc hn hi hw hd hm hr, by rw [hown]; exact ho, by rw [hown]; exact hp.trans hafter, ?_,
      by rw [hown, hafter]; rfl, fun j hj => by rw [hmod, if_neg hj], hout, hwatch, hring, hqueue⟩
    rw [hown]
    exact setMark_mark _ mark
  case toWatch =>
    intro s x m hx hc hn hi hw hl hg hr hmark hres hk hq ht
    rw [exec_silent_crossing hx hc hn hi hw (.inl rfl) hl hg, silent_toWatch hl hg hr hmark hk hq ht]
    rfl
  case toRestricted =>
    intro s x m l hx hc hn hi hw hl hg hres hst
    obtain ⟨hholds, htxn, hprofile, hothers, heq⟩ := silent_toRestricted hl hg hres hst
    exact ⟨_, exec_silent_crossing hx hc hn hi hw (.inr (.inl rfl)) hl hg, hholds, htxn, hprofile, hothers, heq⟩
  case station =>
    intro s x m l hx hc hn hi hw hl hg hst hgo
    obtain ⟨hholds, htxn, hothers, heq⟩ := silent_stationIsolated hn hi hg hst hgo
    exact ⟨_, exec_silent_crossing hx hc hn hi hw (.inr (.inr rfl)) hl hg, hholds, htxn, hothers, heq⟩
  case blower =>
    intro s x m hx hc hn hi hw hl hg hk hgo
    obtain ⟨v, hscreen, hcash, hdeposit, henvelope, halarm, htube, hadd, heq⟩ := silent_blowerIsolated hn hi hg hk hgo
    have hrun := exec_silent_crossing hx hc hn hi hw (.inr (.inr rfl)) hl hg
    have hf := (touches_blowerIsolated (s := v)).framed
    have hcarrier : ∀ l, v.carrier l = s.carrier l := fun l => by unfold State.carrier; rw [htube]
    rw [heq] at hrun
    refine ⟨_, hrun, blowerIsolated_requests, blowerIsolated_blower, fun l => blowerIsolated_moving, fun l hmoving hno => ?_,
      hf.screen.trans hscreen, hf.cash.trans hcash, hf.deposit.trans hdeposit, hf.envelope.trans henvelope,
      hf.alarm.trans halarm, not_addressed_dropFrames (blowerIsolated_addressed.trans hadd)⟩
    rw [← hcarrier] at hmoving
    have hno' : v.requestOf l = none := by
      unfold State.requestOf
      rw [htube]
      exact hno
    rw [blowerIsolated_lost hmoving hno', ← hcarrier]
    exact ⟨rfl, rfl, rfl, rfl, blowerIsolated_holds hmoving⟩
  case recycler =>
    intro s x m hx hc hn hi hw hl hg hst hf hq
    have hgone := silent_recyclerIsolated hn hi hg hst hf hq
    refine ⟨_, exec_silent_crossing hx hc hn hi hw (.inr (.inr rfl)) hl hg, hgone.recycler, hgone.queue, hgone.condition,
      fun i hany => ?_, fun i hall => ?_, hgone.sessions, fun hnone => hgone.screen fun i r hr => ?_, hgone.authority,
      hgone.envelope, hgone.tube, hgone.alarm, not_addressed_dropFrames hgone.addressed⟩
    · obtain ⟨r, hr, hst⟩ := (Option.any_eq_true ..).1 hany
      refine (hgone.records i).trans ((Option.filter_eq_none_iff ..).2 fun q hq hout => ?_)
      have : r = q := Option.some.inj (hr.symm.trans hq)
      subst this
      revert hst hout
      unfold DispenseRecord.outlasts
      cases r.state <;> decide
    · exact (hgone.records i).trans (filter_of_all hall)
    · exact hnone r (mem_dispenses hr)

end Sys2Proof.Machine
end

section
/-! SUPPORT. What no step of a soft reset brings about: a lost report with a place left, an overrun without a dropped record, a
FAULTED entry where every one is OK, and a CLOSED lane opened. -/

namespace Sys2Proof.Machine

open Sys2Proof

-- One thread, so that the check's memory holds the stacks.
set_option Elab.async false

variable {s t u v : State} {ps : List Part}

/-! ## The table entries of a part -/

/-- Every entry of a part's table is OK. -/
def Part.sound : Part → State → Prop
  | .copies, s => ∀ p l, (s.lanes.copy p l).check = {}
  | .authority, s => ∀ i, (s.authority i).check = {}
  | .denominations, s => ∀ i : DenomId, (s.cash.denominations[i]).check = {}
  | .cassettes, s => ∀ c, (s.cassette c).check = {}
  | .loops, s => ∀ i, (s.loop i).check = {}
  | .modules, s => ∀ m, (s.module m).check = {}
  | .screening, s => s.screen.setting.check = {}
  | .planner, s => s.cash.planner.check = {}
  | .presenter, s => s.dispense.setting.check = {}
  | .depositSetting, s => s.deposit.setting.check = {}
  | .depository, s => s.envelope.setting.check = {}
  | .tubeSetting, s => s.tube.setting.check = {}
  | .busSetting, s => s.bus.setting.check = {}
  | _, _ => True

theorem soundTables_iff : s.soundTables = true ↔ ∀ p : Part, p.sound s := by
  constructor
  · intro h p
    obtain ⟨-, -, -, -, -, -, -, hscreening, hplanner, hpresenter, hdeposit, hdepository, htube, hbus⟩ := soundTables_and h
    cases p with
    | copies => exact sound_copy h
    | authority => exact sound_authority h
    | denominations => exact sound_denomination h
    | cassettes => exact sound_cassette h
    | loops => exact sound_loop h
    | modules => exact sound_module h
    | screening => exact hscreening
    | planner => exact hplanner
    | presenter => exact hpresenter
    | depositSetting => exact hdeposit
    | depository => exact hdepository
    | tubeSetting => exact htube
    | busSetting => exact hbus
    | _ => trivial
  · intro h
    have hv : ∀ {α : Type} {n : Nat} (v : Vector α n) (f : α → Check), (∀ i : Fin n, f v[i] = {}) →
        v.toList.all (fun x => f x == {}) = true := fun v f hf => by
      refine List.all_eq_true.2 fun x hx => ?_
      obtain ⟨i, hi, rfl⟩ := List.getElem_of_mem hx
      have hi' : i < v.size := by simpa using hi
      simpa using hf ⟨i, hi'⟩
    simp only [State.soundTables, Bool.and_eq_true, beq_iff_eq]
    exact ⟨⟨⟨⟨⟨⟨⟨⟨⟨⟨⟨⟨⟨hv s.lanes.dayCopies PolicyCopy.check (h .copies .day),
      hv s.lanes.nightCopies PolicyCopy.check (h .copies .night)⟩, hv s.screen.authority AuthorityEntry.check (h .authority)⟩,
      hv s.cash.denominations Denomination.check (h .denominations)⟩, hv s.cash.cassettes Cassette.check (h .cassettes)⟩,
      hv s.alarm.loops Loop.check (h .loops)⟩, hv s.bus.modules Module.check (h .modules)⟩, h .screening⟩, h .planner⟩,
      h .presenter⟩, h .depositSetting⟩, h .depository⟩, h .tubeSetting⟩, h .busSetting⟩

/-- A part left as it was is as sound as it was. -/
theorem Part.sound_congr {p : Part} (h : p.view t = p.view s) (hs : p.sound s) : p.sound t := by
  cases p with
  | copies =>
    have hd : t.lanes.dayCopies = s.lanes.dayCopies := congrArg Prod.fst h
    have hn : t.lanes.nightCopies = s.lanes.nightCopies := congrArg Prod.snd h
    intro p l
    have hc : t.lanes.copy p l = s.lanes.copy p l := by
      unfold LaneControl.copy
      rw [hd, hn]
    rw [hc]
    exact hs p l
  | authority =>
    intro i
    have hv : t.authority i = s.authority i := congrArg (fun v : Vector AuthorityEntry 32 => v[i]) h
    rw [hv]
    exact hs i
  | denominations =>
    intro i
    have hv : t.cash.denominations[i] = s.cash.denominations[i] := congrArg (fun v : Vector Denomination 8 => v[i]) h
    rw [hv]
    exact hs i
  | cassettes =>
    intro c
    have hv : t.cassette c = s.cassette c := congrArg (fun v : Vector Cassette 8 => v[c]) h
    rw [hv]
    exact hs c
  | loops =>
    intro i
    have hv : t.loop i = s.loop i := congrArg (fun v : Vector Loop 16 => v[i]) h
    rw [hv]
    exact hs i
  | modules =>
    intro m
    have hv : t.module m = s.module m := congrArg (fun v : Vector Module 16 => v[m]) h
    rw [hv]
    exact hs m
  | screening => exact (congrArg ScreeningSetting.check h).trans hs
  | planner | presenter | depositSetting | depository | tubeSetting => exact (congrArg Setting.check h).trans hs
  | busSetting => exact (congrArg BusSetting.check h).trans hs
  | _ => trivial

/-- The parts that are tables under a parity check. -/
abbrev tableParts : List Part :=
  [.copies, .authority, .denominations, .cassettes, .loops, .modules, .screening, .planner, .presenter, .depositSetting,
    .depository, .tubeSetting, .busSetting]

/-! ## What is tallied -/

/-- The queue and the overrun count only grow, the sticky causes that tell of them come of nothing else, and a CLOSED lane stays
CLOSED. -/
structure Tallies (s t : State) : Prop where
  used : s.link.used ≤ t.link.used
  lost : t.mgmt.sticky.reportLost = true → s.mgmt.sticky.reportLost = true ∨ 64 ≤ t.link.used
  overrun : min s.journal.overrun 65535 ≤ t.journal.overrun
  dropped : t.mgmt.sticky.journalOverrun = true → s.mgmt.sticky.journalOverrun = true
    ∨ s.journal.overrun < t.journal.overrun ∨ 65535 ≤ t.journal.overrun
  closed : ∀ l, (s.laneRec l).state = .closed → (t.laneRec l).state = .closed

theorem Tallies.refl : Tallies s s := ⟨Nat.le_refl _, .inl, Nat.min_le_left .., .inl, fun _ => id⟩

theorem Tallies.trans (h : Tallies s t) (k : Tallies t u) : Tallies s u where
  used := h.used.trans k.used
  lost hl := (k.lost hl).elim (fun ht => (h.lost ht).imp_right fun hu => hu.trans k.used) .inr
  overrun := by
    have hho := h.overrun
    have hko := k.overrun
    omega
  dropped hd := by
    have hho := h.overrun
    have hko := k.overrun
    rcases k.dropped hd with ht | ht | ht
    · rcases h.dropped ht with hs | hs | hs
      · exact .inl hs
      · exact .inr (by omega)
      · exact .inr (.inr (by omega))
    · exact .inr (by omega)
    · exact .inr (.inr ht)
  closed l hl := k.closed l (h.closed l hl)

theorem Framed.causes (h : Framed ps s t) (hp : .sticky ∉ ps) : t.mgmt.sticky.journalOverrun = s.mgmt.sticky.journalOverrun
    ∧ t.mgmt.sticky.tableFault = s.mgmt.sticky.tableFault ∧ t.mgmt.sticky.reportLost = s.mgmt.sticky.reportLost :=
  have hk := h .sticky hp
  ⟨(congrArg Sticky.journalOverrun hk :), (congrArg Sticky.tableFault hk :), (congrArg Sticky.reportLost hk :)⟩

theorem Framed.overrun (h : Framed ps s t) (hp : .journal ∉ ps) : t.journal.overrun = s.journal.overrun :=
  (congrArg Journal.overrun (h .journal hp) :)

theorem Tallies.of_framed (h : Framed ps s t)
    (hp : apart [.reports, .held, .journal, .sticky, .laneRecs] ps = true := by decide) : Tallies s t := by
  have k := fun p hq => h p (not_mem_of_apart hp hq)
  have hr : t.link.reports = s.link.reports := k .reports (by decide)
  have hh : t.link.held = s.link.held := k .held (by decide)
  have hj := h.overrun (not_mem_of_apart hp (by decide))
  obtain ⟨ho, -, hl⟩ := h.causes (not_mem_of_apart hp (by decide))
  have hu : t.link.used = s.link.used := by
    unfold Link.used
    rw [hr, hh]
  exact ⟨by rw [hu], fun h => .inl (hl ▸ h), by rw [hj]; exact Nat.min_le_left .., fun h => .inl (ho ▸ h), fun l hc => by
    rw [h.laneRec l (not_mem_of_apart hp (by decide))]
    exact hc⟩

/-! ## What no step of a soft reset brings about -/

/-- A step that only tallies, and that finds no entry FAULTED where every one is OK. -/
structure Steady (s t : State) : Prop where
  tallies : Tallies s t
  sound : s.soundTables = true → t.soundTables = true ∧ t.mgmt.sticky.tableFault = s.mgmt.sticky.tableFault

theorem Steady.refl : Steady s s := ⟨.refl, fun h => ⟨h, rfl⟩⟩

theorem Steady.trans (h : Steady s t) (k : Steady t u) : Steady s u :=
  ⟨h.tallies.trans k.tallies, fun hs => by
    obtain ⟨ht, hf⟩ := h.sound hs
    obtain ⟨hu, hg⟩ := k.sound ht
    exact ⟨hu, hg.trans hf⟩⟩

theorem sound_of_framed (h : Framed ps s t) (hs : s.soundTables = true) (hp : ∀ p ∈ ps, p.sound t) : t.soundTables = true :=
  soundTables_iff.2 fun p => by
    by_cases hm : p ∈ ps
    · exact hp p hm
    · exact Part.sound_congr (h p hm) (soundTables_iff.1 hs p)

theorem sound_of_apart (hp : apart tableParts ps = true) : ∀ p ∈ ps, p.sound s := by
  intro p hm
  have hno : p ∉ tableParts := fun hin => not_mem_of_apart hp hin hm
  cases p with
  | copies | authority | denominations | cassettes | loops | modules | screening | planner | presenter | depositSetting
  | depository | tubeSetting | busSetting => exact absurd (by decide) hno
  | _ => trivial

/-- A step that tallies nothing and writes no table. -/
theorem Steady.of_framed (h : Framed ps s t)
    (hp : apart [.reports, .held, .journal, .sticky, .laneRecs] ps = true := by decide)
    (ht : apart tableParts ps = true := by decide) : Steady s t :=
  ⟨.of_framed h hp, fun hs => ⟨sound_of_framed h hs (sound_of_apart ht),
    (h.causes (not_mem_of_apart hp (by decide))).2.1⟩⟩

/-- A step that tallies nothing and keeps the tables it writes. -/
theorem Steady.of_tables (h : Framed ps s t) (hs : s.soundTables = true → ∀ p ∈ ps, p.sound t)
    (hp : apart [.reports, .held, .journal, .sticky, .laneRecs] ps = true := by decide) : Steady s t :=
  ⟨.of_framed h hp, fun hsound => ⟨sound_of_framed h hsound (hs hsound),
    (h.causes (not_mem_of_apart hp (by decide))).2.1⟩⟩

theorem Steady.ite {c : Prop} [Decidable c] (h : c → Steady s t) (k : ¬c → Steady s u) : Steady s (if c then t else u) := by
  split
  · exact h ‹_›
  · exact k ‹_›

theorem steady_forEach {α : Type} {f : State → α → State} (h : ∀ s a, Steady s (f s a)) (ls : List α) :
    Steady s (s.forEach ls f) := forEach_preserves (I := Steady s) (fun t a ht => ht.trans (h t a)) ls .refl

/-! ### Records and reports -/

theorem tallies_record {e : Entry} : Tallies s (s.record e) := by
  unfold State.record
  split
  · exact ⟨Nat.le_refl _, .inl, Nat.min_le_left .., .inl, fun _ => id⟩
  · refine ⟨Nat.le_refl _, .inl, ?_, fun _ => .inr ?_, fun _ => id⟩
    all_goals
      simp only [State.raiseOverrun, State.mapSticky, State.mapMgmt, State.mapJournal]
      omega

theorem steady_record {e : Entry} : Steady s (s.record e) := by
  refine ⟨tallies_record, fun hs => ⟨sound_of_framed touches_record.framed hs (sound_of_apart (by decide)), ?_⟩⟩
  unfold State.record
  split <;> rfl

theorem steady_outcome {e : Entry} : Steady s (s.outcome e) :=
  ⟨⟨Nat.le_refl _, .inl, Nat.min_le_left .., .inl, fun _ => id⟩,
    fun hs => ⟨sound_of_framed touches_outcome.framed hs (sound_of_apart (by decide)), rfl⟩⟩

theorem steady_send {d : Station} {tag : Nat} {r : Report} : Steady s (s.send d tag r) := by
  refine ⟨?_, fun hs => ⟨sound_of_framed touches_send.framed hs (sound_of_apart (by decide)), ?_⟩⟩
  · unfold State.send
    split
    · refine ⟨?_, .inl, Nat.min_le_left .., .inl, fun _ => id⟩
      simp only [State.mapLink, Link.used, List.length_append]
      omega
    · next h => exact ⟨Nat.le_refl _, fun _ => .inr (Nat.le_of_not_lt h), Nat.min_le_left .., .inl, fun _ => id⟩
  · unfold State.send
    split <;> rfl

theorem steady_send7 {r : Report} : Steady s (s.send7 r) := steady_send

theorem steady_sendCopied {d : Station} {tag : Nat} {own copy : Report} : Steady s (s.sendCopied d tag own copy) := by
  cases d with
  | supervisor => exact steady_send
  | console c => exact steady_send.trans steady_send

theorem steady_sendServing {l : Lane} {tag : Nat} {own copy : Report} : Steady s (s.sendServing l tag own copy) :=
  (steady_forEach (fun _ _ => steady_send) _).trans steady_send

theorem tallies_tableFault {r : TableRef} : Tallies s (s.tableFault r) := by
  have h : Tallies s s.raiseTableFault := ⟨Nat.le_refl _, .inl, Nat.min_le_left .., .inl, fun _ => id⟩
  exact h.trans tallies_record

/-- A parity check: of an OK entry it does nothing. -/
theorem steady_check {c : Prop} [Decidable c] {r : TableRef} (hc : s.soundTables = true → c) (h : Tallies s u) :
    Steady s (if c then s else u.tableFault r) := by
  refine ⟨?_, fun hs => ?_⟩
  · split
    · exact .refl
    · exact h.trans tallies_tableFault
  · rw [if_pos (hc hs)]
    exact ⟨hs, rfl⟩

/-! ### Lanes -/

theorem steady_mapLane {l : Lane} {f : LaneRecord → LaneRecord} (hf : ∀ r, r.state = .closed → (f r).state = .closed) :
    Steady s (s.mapLane l f) := by
  have hframe : Framed [.laneRecs, .txns, .holds, .profiles] s (s.mapLane l f) := fun p hp => by
    cases p with
    | laneRecs | txns | holds | profiles => exact absurd (by decide) hp
    | _ => rfl
  refine ⟨⟨Nat.le_refl _, .inl, Nat.min_le_left .., .inl, fun k hk => ?_⟩,
    fun hs => ⟨sound_of_framed hframe hs (sound_of_apart (by decide)), rfl⟩⟩
  rw [mapLane_laneRec]
  split
  · next h => exact hf _ (h ▸ hk)
  · exact hk

theorem steady_settle {l : Lane} : Steady s (s.settle l) := steady_mapLane fun _ h => if_pos h

theorem steady_checkCopy {p : Profile} {l : Lane} : Steady s (s.checkCopy p l) :=
  steady_check (fun hs => by rw [sound_copy hs]) (.of_framed (touches_setCopy).framed)

theorem steady_announce {l : Lane} {b : LaneRecord} : Steady s (s.announce l b) := by
  unfold State.announce
  dsimp only
  split
  · have hc : Steady s (if (s.policy l).check.faulted then s else s.checkCopy (s.laneRec l).profile l) :=
      .ite (fun _ => .refl) fun _ => steady_checkCopy
    exact (hc.trans steady_settle).trans (.ite (fun _ => steady_send7) fun _ => steady_sendServing)
  · exact .ite (fun _ => steady_send7) fun _ => .refl

theorem steady_settleAndAnnounce {l : Lane} {b : LaneRecord} : Steady s (s.settleAndAnnounce l b) :=
  steady_settle.trans steady_announce

theorem steady_postHold {l : Lane} {h : HoldReason} : Steady s (s.postHold l h) := by
  unfold State.postHold
  dsimp only
  refine .ite (fun _ => .refl) fun _ => ?_
  have hm : Steady s (s.mapLane l fun r => { r with holds := r.holds.add h }) := steady_mapLane fun _ hr => hr
  generalize (s.mapLane l fun r => { r with holds := r.holds.add h }) = u at hm ⊢
  exact (hm.trans steady_record).trans steady_settleAndAnnounce

theorem steady_withNode {l : Lane} : Steady s (s.withNode l) := by
  unfold State.withNode
  refine Steady.trans (steady_mapLane ?_) steady_record
  exact fun _ hr => hr

theorem steady_evaluateNode {l : Lane} : Steady s (s.evaluateNode l) := by
  rw [evaluateNode_eq]
  exact .ite (fun _ => .refl) fun _ => steady_withNode.trans steady_settleAndAnnounce

theorem steady_adopt {l : Lane} : Steady s (s.adopt l) := by
  unfold State.adopt
  dsimp only
  generalize hu : (s.mapLane l fun r => { r with profile := s.lanes.operateSelect, switchPending := false }) = u
  have h : Steady s u := hu ▸ steady_mapLane fun _ hr => hr
  generalize hv : (u.record { kind := .profileSwitch, lane := numberOf l, facts :=
    [.profiles (s.laneRec l).profile s.lanes.operateSelect] }).checkCopy s.lanes.operateSelect l = v
  have hk : Steady s v := hv ▸ (h.trans steady_record).trans steady_checkCopy
  exact .ite (fun _ => hk) fun _ => hk.trans (steady_mapLane fun _ _ => rfl)

theorem steady_closeTxn {l : Lane} : Steady s (s.closeTxn l) := by
  have h : Steady s (s.mapLane l fun r => { r with txn := none }) := steady_mapLane fun _ hr => hr
  unfold State.closeTxn
  dsimp only
  generalize (s.mapLane l fun r => { r with txn := none }) = u at h ⊢
  exact (Steady.ite (fun _ => h.trans steady_adopt) fun _ => h.trans steady_checkCopy).trans steady_settleAndAnnounce

/-! ### Money -/

theorem steady_onDispense {i : DispenseSlot} {act : State → DispenseRecord → State} (h : ∀ r, Steady s (act s r)) :
    Steady s (s.onDispense i act) := onDispense_cases (Q := Steady s) (fun _ => .refl) fun r _ => h r

theorem steady_onSession {l : Lane} {act : State → Session → State} (h : ∀ x, Steady s (act s x)) :
    Steady s (s.onSession l act) := onSession_cases (Q := Steady s) (fun _ => .refl) fun x _ => h x

theorem steady_mapAuthority {i : AuthId} {f : AuthorityEntry → AuthorityEntry}
    (hf : s.soundTables = true → (f (s.authority i)).check = {}) : Steady s (s.mapAuthority i f) := by
  refine .of_tables touches_mapAuthority.framed fun hs p hp => ?_
  obtain rfl : p = .authority := by simpa using hp
  intro j
  have hj : (s.mapAuthority i f).authority j = if j = i then f (s.authority i) else s.authority j := by
    have hval : i.val = j.val ↔ j = i := by rw [Fin.ext_iff, eq_comm]
    simp only [State.mapAuthority, State.mapScreen, State.authority, Fin.getElem_fin, Vector.getElem_set, hval]
  rw [hj]
  split
  · exact hf hs
  · exact sound_authority hs j

theorem steady_checkAuthority {i : AuthId} : Steady s (s.checkAuthority i) :=
  steady_check (fun hs => by rw [sound_authority hs]) (.of_framed touches_mapAuthority.framed)

theorem steady_lowerShift {i : AuthId} {n : Nat} : Steady s (s.lowerShift i n) :=
  steady_mapAuthority fun hs => by
    dsimp only
    rw [sound_authority hs]
    rfl

theorem steady_mapDispenseAt {i : DispenseSlot} {f : DispenseRecord → DispenseRecord}
    (hn : ∀ r, ((f r).id, (f r).lane) = (r.id, r.lane) := by exact fun _ => rfl) : Steady s (s.mapDispenseAt i f) :=
  .of_framed (touches_mapDispenseAt hn).framed

theorem steady_lowerCharge {i : DispenseSlot} {n : Nat} : Steady s (s.lowerCharge i n) := by
  refine steady_onDispense fun r => ?_
  dsimp only
  refine .ite (fun _ => steady_mapDispenseAt) fun _ => .ite (fun _ => ?_) fun _ => ?_
  · exact (steady_checkAuthority.trans steady_lowerShift).trans steady_mapDispenseAt
  · exact steady_checkAuthority.trans steady_mapDispenseAt

theorem steady_reportDispense {i : DispenseSlot} {e : DispenseEvent} {c : Option Code} : Steady s (s.reportDispense i e c) :=
  steady_onDispense fun _ => steady_sendCopied

theorem steady_endDispense {i : DispenseSlot} {k : RecordKind} {n d : Nat} {c : Option Code} :
    Steady s (s.endDispense i k n c d) := by
  unfold State.endDispense
  dsimp only
  have h : Steady s ((if k = .cancelled ∨ k = .retracted then s.lowerCharge i 0 else s).touchDispense i) :=
    (Steady.ite (fun _ => steady_lowerCharge) fun _ => .refl).trans (.of_framed touches_touchDispense.framed)
  refine h.trans (steady_onDispense fun r => ?_)
  have hp := (steady_outcome (s := (if k = .cancelled ∨ k = .retracted then s.lowerCharge i 0 else s).touchDispense i)
    (e := r.outcomeEntry k n d)).trans (Steady.ite (c := bringsCash k r.flags.takenLate = true)
      (fun _ => steady_postHold (l := r.lane) (h := .cash)) fun _ => .refl)
  exact ((hp.trans steady_closeTxn).trans steady_reportDispense).trans (.of_framed framed_setDispense)

end Sys2Proof.Machine
end

section
/-! SUPPORT. The steps of a soft reset bring about none of that. -/

namespace Sys2Proof.Machine

open Sys2Proof

-- One thread, so that the check's memory holds the stacks.
set_option Elab.async false

variable {s t u : State} {l : Lane} {i : DispenseSlot} {ps : List Part}

/-! ### Cassettes and notes -/

theorem steady_mapCassette {c : CassetteId} {f : Cassette → Cassette} (hf : ∀ k, k.check = {} → (f k).check = {}) :
    Steady s (s.mapCassette c f) := by
  have h : Steady s (s.setCassette c (f (s.cassette c))) := by
    have hframe : Framed [.cassettes] s (s.setCassette c (f (s.cassette c))) := fun p hp => by
      cases p with
      | cassettes => exact absurd (by decide) hp
      | _ => rfl
    refine .of_tables hframe fun hs p hp => ?_
    obtain rfl := List.mem_singleton.1 hp
    intro d
    rw [setCassette_cassette]
    split
    · exact hf _ (sound_cassette hs c)
    · exact sound_cassette hs d
  rw [mapCassette_eq]
  exact .ite (fun _ => h) fun _ => h.trans steady_send7

theorem steady_changeCassette {c : CassetteId} {f : Cassette → Cassette} : Steady s (s.changeCassette c f) :=
  steady_mapCassette fun _ hk => by
    dsimp only
    rw [hk]
    rfl

theorem steady_markUnreconciled {c : CassetteId} : Steady s (s.markUnreconciled c) := steady_changeCassette

theorem steady_markDest {n : Transit} : Steady s (s.markDest n) := by
  unfold State.markDest
  split
  · exact steady_markUnreconciled
  · exact .refl

theorem steady_readNoteValue {d : Nat} : Steady s (s.readNoteValue d).1 := by
  unfold State.readNoteValue
  split
  · exact .refl
  · next j _ =>
    have h : ∀ d, Framed [.denominations] s (s.mapCash fun k => { k with denominations := d }) := fun d p hp => by
      cases p with
      | denominations => exact absurd (by decide) hp
      | _ => rfl
    exact steady_check (fun hs => by rw [sound_denomination hs j]) (.of_framed (h _))

theorem steady_doubtValue {list : List Transit} : Steady s (s.doubtValue list).1 := by
  have h : ∀ a : State × Nat × Bool, Steady s a.1 → Steady s (list.foldl (fun a t =>
      let v := a.1.readNoteValue t.denom; (v.1, a.2.1 + v.2.1, a.2.2 && v.2.2)) a).1 := by
    induction list with
    | nil => exact fun a ha => ha
    | cons n list ih => exact fun a ha => ih _ (ha.trans steady_readNoteValue)
  exact h (s, 0, true) .refl

/-! ### The outcomes of dispenses, sessions and captures -/

theorem steady_endOperation {p : WorkEntry → Bool} : Steady s (s.endOperation p) := .of_framed touches_endOperation.framed

theorem steady_endInDoubt {b : Bool} {d : Nat} : Steady s (s.endInDoubt i b d) := by
  refine steady_onDispense fun r => ?_
  dsimp only
  have h : Steady s (if b then s.forEach r.currentPlan fun s p => s.markUnreconciled p.cassette else s) :=
    .ite (fun _ => steady_forEach (fun _ _ => steady_markUnreconciled) _) fun _ => .refl
  exact (((h.trans steady_mapDispenseAt).trans steady_endDispense).trans (.of_framed touches_setInDoubt.framed)).trans
    steady_endOperation

theorem steady_resetDispense : Steady s (s.resetDispense i) := by
  refine steady_onDispense fun r => ?_
  split
  · exact steady_endDispense
  · exact steady_endInDoubt
  · exact steady_endDispense
  · exact steady_endDispense
  · exact steady_endInDoubt

theorem steady_reportDeposit {e : DepositEvent} {c : Option Code} : Steady s (s.reportDeposit l e c) :=
  steady_onSession fun _ => steady_sendCopied

theorem steady_endSession {e : SessionEnd} {r : Option Nat} : Steady s (s.endSession l e r) := by
  unfold State.endSession
  dsimp only
  refine (Steady.of_framed (touches_touchSession (s := s) (l := l)).framed).trans (steady_onSession fun x => ?_)
  have hp : Steady (s.touchSession l) (if e.kind = .inDoubt then
      ((s.touchSession l).outcome (x.outcomeEntry l e r)).postHold l .cash
      else (s.touchSession l).outcome (x.outcomeEntry l e r)) :=
    .ite (fun _ => steady_outcome.trans steady_postHold) fun _ => steady_outcome
  have hf := (((hp.trans (steady_closeTxn (l := l))).trans
    (steady_reportDeposit (l := l) (e := e.event) (c := e.code))).trans
    (.of_framed (framed_setSession (l := l) (x := none)))).trans (.of_framed (touches_retire (o := .acceptBegin l)).framed)
  exact .ite (fun _ => hf) fun _ => hf.trans steady_endOperation

theorem steady_closeSession {c : Option Code} {b : Bool} {r : Option Nat} : Steady s (s.closeSession l c b r) :=
  steady_onSession fun _ => steady_endSession

theorem steady_sessionDoubted {b : Bool} {mark : State → Transit → State} (hm : ∀ s n, Steady s (mark s n)) :
    Steady s (s.sessionDoubted l b mark) :=
  steady_onSession fun _ => (((steady_forEach hm _).trans steady_doubtValue).trans
    (.of_framed touches_mapSession.framed)).trans steady_endSession

theorem steady_place {f : Frame} : Steady s (s.place f).1 := by
  unfold State.place
  split
  · dsimp only
    exact .of_framed touches_setOutgoing.framed
  · exact steady_record

theorem steady_post {e : Option ModuleId} {w : Owner} {o : BusOrder} : Steady s (s.post e w o) := by
  cases e with
  | none => exact .refl
  | some m => exact steady_place

theorem steady_resetSession : Steady s (s.resetSession l) := by
  refine steady_onSession fun x => .ite (fun _ => ?_) fun _ => steady_closeSession
  exact (Steady.ite (fun _ => steady_closeSession) fun _ => steady_sessionDoubted fun _ _ => steady_markDest).trans steady_post

theorem steady_voidCapture {r : VoidReason} {b : Bool} {fs : List Fact} : Steady s (s.voidCapture l r b fs) := by
  unfold State.voidCapture
  dsimp only
  have h : Steady s (s.touchCapture l) := .of_framed touches_touchCapture.framed
  split
  · exact h
  · next c hc =>
    have ho := h.trans (steady_outcome (e := c.entry .void l (s.touchCapture l).envelope.count r.number fs))
    have hp := ho.trans (Steady.ite (c := r = .jammed) (fun _ => steady_postHold (l := l) (h := .envelope)) fun _ => .refl)
    refine (Steady.trans ?_ steady_sendServing).trans (.of_framed touches_setCapture.framed)
    exact .ite (fun _ => hp.trans steady_post) fun _ => hp

/-! ### The other blocks -/

theorem steady_endExchange {w : Cause} : Steady s (s.endExchange w) := by
  unfold State.endExchange
  split
  · exact .refl
  · exact (((Steady.of_framed touches_setExchange.framed).trans steady_changeCassette).trans steady_record).trans steady_send7

theorem steady_closeSafe {w : Cause} : Steady s (s.closeSafe w) :=
  .ite (fun _ => ((Steady.of_framed touches_setSafe.framed).trans steady_record).trans steady_send7) fun _ => .refl

/-- A carrier under a soft reset (R122). -/
def Carrier.stopped (c : Carrier) : Carrier :=
  if c.moving then { c with bound := none, location := .unknown, cause := some .reset, seated := false, timer := none }
  else { c with bound := none }

/-- A carrier stopped, with the report of a change (R122). -/
def State.stopCarrier (s : State) (l : Lane) : State :=
  if (s.carrier l).moving ∨ (s.carrier l).bound.isSome then (s.mapCarrier l Carrier.stopped).reportCarrier l resetEvent
  else s.mapCarrier l Carrier.stopped

theorem resetCarrier_eq (s : State) (l : Lane) : s.resetCarrier l =
    if (s.carrier l).moving then (s.stopCarrier l).postHold l .carrier else s.stopCarrier l := rfl

theorem touches_stopCarrier : Touches [.carriers, .reports, .sticky] s (s.stopCarrier l) :=
  .ite (fun _ => touches_mapCarrier.mono.then touches_reportCarrier) fun _ => touches_mapCarrier.mono

theorem steady_stopCarrier : Steady s (s.stopCarrier l) := by
  have hm := Steady.of_framed (touches_mapCarrier (s := s) (l := l) (f := Carrier.stopped)).framed
  exact .ite (fun _ => hm.trans steady_sendServing) fun _ => hm

theorem steady_resetCarrier : Steady s (s.resetCarrier l) := by
  rw [resetCarrier_eq]
  exact .ite (fun _ => steady_stopCarrier.trans steady_postHold) fun _ => steady_stopCarrier

theorem steady_releaseBlower : Steady s (s.releaseBlower l) := by
  have hframe : ∀ x, Framed [.tubeSetting] s (s.mapTube fun t => { t with setting := x }) := fun x p hp => by
    cases p with
    | tubeSetting => exact absurd (by decide) hp
    | _ => rfl
  have hc : Steady s s.checkTubeSetting :=
    steady_check (fun hs => by rw [(soundTables_iff.1 hs .tubeSetting : s.tube.setting.check = {})]) (.of_framed (hframe _))
  exact .ite (fun _ => hc.trans (.of_framed touches_setBlower.framed)) fun _ => .refl

theorem steady_mapLoop {i : LoopId} {f : Loop → Loop} (hf : ∀ k, (f k).check = k.check) : Steady s (s.mapLoop i f) := by
  refine .of_tables touches_mapLoop.framed fun hs p hp => ?_
  obtain rfl := List.mem_singleton.1 hp
  intro j
  rw [mapLoop_loop]
  split
  · rw [hf]
    exact sound_loop hs i
  · exact sound_loop hs j

theorem steady_resetLoop {i : LoopId} : Steady s (s.resetLoop i) :=
  .ite (fun _ => .ite (fun _ => steady_mapLoop fun _ => rfl) fun _ => steady_mapLoop fun _ => rfl) fun _ => .refl

theorem steady_endRestore {r : Restore} {x : RestoreResult} : Steady s (s.endRestore r x) :=
  ((Steady.of_framed touches_setRestores.framed).trans steady_record).trans steady_send7

end Sys2Proof.Machine
end

section
/-! SUPPORT. What the outcomes of a soft reset come to, one after the other: lanes whose transaction ends, lanes with CASH, cassettes
UNRECONCILED, reserved slots used (R16, R72, R93, R110, R169). -/

namespace Sys2Proof.Machine

open Sys2Proof

-- One thread, so that the check's memory holds the stacks.
set_option Elab.async false

variable {s t u : State} {l : Lane} {i : DispenseSlot} {c : CassetteId} {ps : List Part}

/-! ## The calculus -/

/-- What a number of outcomes come to. -/
@[ext] structure Outcomes where
  closes : Lane → Bool := fun _ => false
  posts : Lane → Bool := fun _ => false
  marks : CassetteId → Bool := fun _ => false
  used : Nat := 0

/-- The one outcomes after the other. -/
def Outcomes.and (a b : Outcomes) : Outcomes :=
  { closes := fun l => a.closes l || b.closes l
    posts := fun l => a.posts l || b.posts l
    marks := fun c => a.marks c || b.marks c
    used := a.used + b.used }

/-- A list of outcomes, in its order. -/
def Outcomes.all (os : List Outcomes) : Outcomes :=
  { closes := fun l => os.any fun o => o.closes l
    posts := fun l => os.any fun o => o.posts l
    marks := fun c => os.any fun o => o.marks c
    used := (os.map Outcomes.used).sum }

theorem Outcomes.all_cons (o : Outcomes) (os : List Outcomes) : all (o :: os) = o.and (all os) := by
  simp [Outcomes.and, Outcomes.all]

/-- A lane record but for the state that it is settled in. -/
def State.laneCore (s : State) (l : Lane) : LaneRecord := { s.laneRec l with state := .closed }

/-- A lane whose transaction ended, or that CASH was posted to, or neither (R5, R16). -/
def LaneRecord.ended (r : LaneRecord) (sel : Profile) (closes posts : Bool) : LaneRecord :=
  { r with
    txn := if closes then none else r.txn
    holds := { r.holds with cash := r.holds.cash || posts }
    profile := if r.switchPending && closes then sel else r.profile
    switchPending := r.switchPending && !closes }

theorem LaneRecord.ended_ended (r : LaneRecord) (sel : Profile) (a b p q : Bool) :
    (r.ended sel a p).ended sel b q = r.ended sel (a || b) (p || q) := by
  unfold LaneRecord.ended
  cases a with
  | true => simp [Bool.or_assoc]
  | false => simp [Bool.or_assoc]

theorem LaneRecord.ended_nothing (r : LaneRecord) (sel : Profile) : r.ended sel false false = r := by
  simp [LaneRecord.ended]

/-- A cassette marked UNRECONCILED or not. -/
def Cassette.marked (k : Cassette) (b : Bool) : Cassette :=
  if b then { k with unreconciled := true, check := k.check.recomputed } else k

theorem Cassette.marked_marked (k : Cassette) (a b : Bool) : (k.marked a).marked b = k.marked (a || b) := by
  cases a with
  | false => rfl
  | true => cases b <;> rfl

/-- A recycler whose running operation is over. -/
def RecyclerState.rested (r : RecyclerState) : RecyclerState := if r = .busy then .ready else r

theorem RecyclerState.rested_rested (r : RecyclerState) : r.rested.rested = r.rested := by
  cases r <;> rfl

/-- A step that comes to these outcomes. -/
structure Ends (o : Outcomes) (s t : State) : Prop where
  core : ∀ l, t.laneCore l = (s.laneCore l).ended s.lanes.operateSelect (o.closes l) (o.posts l)
  select : t.lanes.operateSelect = s.lanes.operateSelect
  cassette : ∀ c, t.cassette c = (s.cassette c).marked (o.marks c)
  reserved : t.journal.reserved = s.journal.reserved - o.used
  recycler : t.cash.recycler.rested = s.cash.recycler.rested

theorem Ends.trans {a b : Outcomes} (h : Ends a s t) (k : Ends b t u) : Ends (a.and b) s u where
  core l := by rw [k.core, h.core, h.select, LaneRecord.ended_ended]; rfl
  select := k.select.trans h.select
  cassette c := by rw [k.cassette, h.cassette, Cassette.marked_marked]; rfl
  reserved := by rw [k.reserved, h.reserved, Nat.sub_sub]; rfl
  recycler := k.recycler.trans h.recycler

theorem Ends.cast {a b : Outcomes} (h : Ends a s t) (hab : a = b) : Ends b s t := hab ▸ h

theorem Framed.laneCore (h : Framed ps s t) (l : Lane) (ht : .txns ∉ ps := by decide) (hh : .holds ∉ ps := by decide)
    (hp : .profiles ∉ ps := by decide) : t.laneCore l = s.laneCore l := by
  unfold State.laneCore
  have htxn : (t.laneRec l).txn = (s.laneRec l).txn := congrFun (h .txns ht) l
  have hholds := h.holds l hh
  have hprofile := h.profile l hp
  have hpending := h.switchPending l hp
  generalize t.laneRec l = a at *
  generalize s.laneRec l = b at *
  cases a
  cases b
  simp_all

/-- A step that ends nothing. -/
theorem Ends.of_framed (h : Framed ps s t)
    (hp : apart [.txns, .holds, .profiles, .operateSelect, .cassettes, .reserved, .recycler] ps = true := by decide) :
    Ends {} s t := by
  have k := fun p (hq : p ∈ _) => not_mem_of_apart hp hq
  have hr : t.cash.recycler = s.cash.recycler := h .recycler (k _ (by decide))
  exact ⟨fun l => by rw [h.laneCore l (k _ (by decide)) (k _ (by decide)) (k _ (by decide)), LaneRecord.ended_nothing],
    h .operateSelect (k _ (by decide)), fun c => h.cassette c (k _ (by decide)), h .reserved (k _ (by decide)), by rw [hr]⟩

theorem Ends.refl : Ends {} s s := .of_framed (ps := []) .refl

theorem Outcomes.nothing_and (a : Outcomes) : Outcomes.and {} a = a := by
  simp [Outcomes.and]

theorem Outcomes.and_nothing (a : Outcomes) : a.and {} = a := by
  simp [Outcomes.and]

/-- Ends nothing, and then what follows. -/
theorem Ends.then {a : Outcomes} (h : Ends {} s t) (k : Ends a t u) : Ends a s u := (h.trans k).cast a.nothing_and

/-- What follows ends nothing more. -/
theorem Ends.still {a : Outcomes} (h : Ends a s t) (k : Ends {} t u) : Ends a s u := (h.trans k).cast a.and_nothing

/-- Things taken in order. -/
theorem ends_forEach {α : Type} {f : State → α → State} {o : α → Outcomes} (h : ∀ s a, Ends (o a) s (f s a))
    (ls : List α) : Ends (.all (ls.map o)) s (s.forEach ls f) := by
  induction ls generalizing s with
  | nil => exact .refl
  | cons a ls ih => exact ((h s a).trans ih).cast (Outcomes.all_cons ..).symm

/-- Things taken in order, each by what it is and leaving the others as they were. -/
theorem ends_turns {α β : Type} {f : State → α → State} {V : α → State → β} {o : α → β → Outcomes}
    (hother : ∀ s a b, b ≠ a → V b (f s a) = V b s) (h : ∀ s a, Ends (o a (V a s)) s (f s a)) {ls : List α} (hn : ls.Nodup) :
    Ends (.all (ls.map fun a => o a (V a s))) s (s.forEach ls f) := by
  induction ls generalizing s with
  | nil => exact .refl
  | cons a ls ih =>
    obtain ⟨ha, hn⟩ := List.nodup_cons.1 hn
    have hrest : ls.map (fun b => o b (V b (f s a))) = ls.map fun b => o b (V b s) :=
      List.map_congr_left fun b hb => by rw [hother s a b fun he => ha (he ▸ hb)]
    exact ((h s a).trans (ih hn)).cast (by rw [hrest]; exact (Outcomes.all_cons ..).symm)

end Sys2Proof.Machine
end

section
/-! SUPPORT. The outcomes that a soft reset writes, each by what it comes to. -/

namespace Sys2Proof.Machine

open Sys2Proof

-- One thread, so that the check's memory holds the stacks.
set_option Elab.async false

variable {s t u : State} {l : Lane} {i : DispenseSlot} {c : CassetteId} {ps : List Part}

theorem Framed.rested (h : Framed ps s t) (hp : .recycler ∉ ps := by decide) : t.cash.recycler.rested = s.cash.recycler.rested :=
  congrArg RecyclerState.rested (h .recycler hp)

/-- A step that ends transactions and posts CASH alone. -/
theorem Ends.of_lanes {a b : Lane → Bool} (h : Framed ps s t)
    (hc : ∀ l, t.laneCore l = (s.laneCore l).ended s.lanes.operateSelect (a l) (b l))
    (hp : apart [.operateSelect, .cassettes, .reserved, .recycler] ps = true := by decide) :
    Ends { closes := a, posts := b } s t :=
  have k := fun p (hq : p ∈ _) => not_mem_of_apart hp hq
  ⟨hc, h .operateSelect (k _ (by decide)), fun c => h.cassette c (k _ (by decide)), h .reserved (k _ (by decide)),
    h.rested (k _ (by decide))⟩

/-! ## Lanes -/

theorem mapLane_laneCore (f : LaneRecord → LaneRecord) (m : Lane) : (s.mapLane l f).laneCore m =
    if m = l then { f (s.laneRec l) with state := .closed } else s.laneCore m := by
  unfold State.laneCore
  rw [mapLane_laneRec]
  split <;> rfl

theorem adopt_laneCore (hn : (s.laneRec l).txn = none) (m : Lane) : (s.adopt l).laneCore m =
    if m = l then { s.laneCore l with profile := s.lanes.operateSelect, switchPending := false } else s.laneCore m := by
  unfold State.adopt
  dsimp only
  generalize hu : (s.mapLane l fun r => { r with profile := s.lanes.operateSelect, switchPending := false }) = u
  generalize hv : (u.record { kind := .profileSwitch, lane := numberOf l, facts :=
    [.profiles (s.laneRec l).profile s.lanes.operateSelect] }).checkCopy s.lanes.operateSelect l = v
  have hf : Framed [.copies, .journal, .sticky] u v :=
    hv ▸ (touches_record.mono.then touches_checkCopy).framed
  have hcore : v.laneCore m = if m = l then { s.laneCore l with profile := s.lanes.operateSelect, switchPending := false }
      else s.laneCore m := by
    rw [hf.laneCore, ← hu, mapLane_laneCore]
    rfl
  split
  · exact hcore
  · rw [mapLane_laneCore]
    split
    · next h =>
      subst h
      rw [if_pos rfl] at hcore
      exact hcore
    · next h =>
      rw [if_neg h] at hcore
      exact hcore

/-- A transaction ends, and a switch that waited for it is made (R5). -/
theorem ends_closeTxn : Ends { closes := (· == l) } s (s.closeTxn l) := by
  refine .of_lanes framed_closeTxn fun m => ?_
  unfold State.closeTxn
  dsimp only
  generalize hu : (s.mapLane l fun r => { r with txn := none }) = u
  have hcore : ∀ m, u.laneCore m = if m = l then { s.laneCore l with txn := none } else s.laneCore m := fun m => by
    rw [← hu, mapLane_laneCore]
    rfl
  have hn : (u.laneRec l).txn = none := by rw [← hu, mapLane_laneRec, if_pos rfl]
  have hsel : u.lanes.operateSelect = s.lanes.operateSelect := by rw [← hu]; rfl
  rw [touches_settleAndAnnounce.framed.laneCore]
  by_cases hp : (s.laneRec l).switchPending = true
  · rw [if_pos hp, adopt_laneCore hn, hcore, hcore, if_pos rfl, hsel]
    split
    · next h =>
      subst h
      simp [LaneRecord.ended, State.laneCore, hp]
    · next h =>
      rw [beq_false_of_ne h, LaneRecord.ended_nothing]
  · rw [if_neg hp, touches_checkCopy.framed.laneCore, hcore]
    split
    · next h =>
      subst h
      simp [LaneRecord.ended, State.laneCore, hp]
    · next h =>
      rw [beq_false_of_ne h, LaneRecord.ended_nothing]

theorem postHold_laneCore {k : Lane} {h : HoldReason} : (s.postHold l h).laneCore k =
    if k = l then { s.laneCore l with holds := (s.laneRec l).holds.add h } else s.laneCore k := by
  have hf := (touches_postHold (s := s) (l := l) (h := h)).framed
  have htxn : ((s.postHold l h).laneRec k).txn = (s.laneRec k).txn := congrFun (hf .txns (by decide)) k
  simp only [State.laneCore, htxn, hf.profile k, hf.switchPending k, postHold_holds]
  split
  · next hk => rw [hk]
  · rfl

/-- CASH posted to a lane. -/
theorem ends_postCash : Ends { posts := (· == l) } s (s.postHold l .cash) := by
  refine .of_lanes touches_postHold.framed fun m => ?_
  rw [postHold_laneCore]
  split
  · next h =>
    subst h
    simp [LaneRecord.ended, State.laneCore, Holds.add]
  · next h =>
    simp [LaneRecord.ended, State.laneCore, beq_false_of_ne h]

/-! ## Cassettes and the work queue -/

theorem mapCassette_cassette (f : Cassette → Cassette) (d : CassetteId) :
    (s.mapCassette c f).cassette d = if d = c then f (s.cassette c) else s.cassette d := by
  rw [mapCassette_eq]
  split
  · exact setCassette_cassette ..
  · rw [touches_send7.framed.cassette]
    exact setCassette_cassette ..

theorem ends_markUnreconciled : Ends { marks := (· == c) } s (s.markUnreconciled c) := by
  have hf := (touches_markUnreconciled (s := s) (c := c)).framed
  refine ⟨fun m => by rw [hf.laneCore, LaneRecord.ended_nothing], hf .operateSelect (by decide), fun d => ?_,
    hf .reserved (by decide), hf.rested⟩
  unfold State.markUnreconciled State.changeCassette
  rw [mapCassette_cassette]
  by_cases h : d = c
  · rw [if_pos h, h]
    simp [Cassette.marked]
  · rw [if_neg h]
    dsimp only
    rw [beq_false_of_ne h]
    rfl

/-- Marks alone. -/
theorem Outcomes.all_marks {α : Type} (ls : List α) (m : α → CassetteId → Bool) :
    all (ls.map fun a => { marks := m a }) = { marks := fun c => ls.any fun a => m a c } := by
  induction ls with
  | nil => rfl
  | cons a ls ih => rw [List.map_cons, all_cons, ih]; rfl

theorem ends_markDest {n : Transit} : Ends { marks := n.goesTo } s (s.markDest n) := by
  unfold State.markDest Transit.goesTo
  cases n.dest with
  | toCustomer => exact .refl
  | store d =>
    refine ends_markUnreconciled.cast (Outcomes.ext rfl rfl (funext fun c => ?_) rfl)
    exact Bool.beq_comm

theorem ends_markPlan {plan : List PlanItem} :
    Ends { marks := planNames plan } s (s.forEach plan fun s p => s.markUnreconciled p.cassette) := by
  refine (ends_forEach (o := fun p : PlanItem => { marks := (· == p.cassette) }) (fun _ _ => ends_markUnreconciled) plan).cast ?_
  rw [Outcomes.all_marks]
  refine Outcomes.ext rfl rfl (funext fun c => ?_) rfl
  exact congrArg (List.any plan) (funext fun p => Bool.beq_comm)

theorem ends_markNotes {notes : List Transit} :
    Ends { marks := fun c => notes.any fun n => n.goesTo c } s (s.forEach notes State.markDest) := by
  refine (ends_forEach (o := fun n : Transit => { marks := n.goesTo }) (fun _ _ => ends_markDest) notes).cast ?_
  rw [Outcomes.all_marks]

theorem ends_endOperation {p : WorkEntry → Bool} : Ends {} s (s.endOperation p) := by
  unfold State.endOperation
  split
  · have hf := touches_setRecycler (s := s.dropWork fun e => e.running && p e)
      (f := fun k => if k.recycler = .busy then .ready else k.recycler) |>.framed
    refine Ends.still (.of_framed touches_dropWork.framed) (t := s.dropWork fun e => e.running && p e) ?_
    exact ⟨fun m => by rw [hf.laneCore, LaneRecord.ended_nothing], hf .operateSelect (by decide), fun d => hf.cassette d,
      hf .reserved (by decide), RecyclerState.rested_rested _⟩
  · exact .refl

theorem ends_outcome {e : Entry} : Ends { used := 1 } s (s.outcome e) := by
  have hf := (touches_outcome (s := s) (e := e)).framed
  exact ⟨fun m => by rw [hf.laneCore, LaneRecord.ended_nothing], hf .operateSelect (by decide), fun d => hf.cassette d, rfl,
    hf.rested⟩

end Sys2Proof.Machine
end

section
/-! SUPPORT. What a soft reset makes of each dispense, session and capture (R72, R110, R169). -/

namespace Sys2Proof.Machine

open Sys2Proof

-- One thread, so that the check's memory holds the stacks.
set_option Elab.async false

variable {s t u : State} {l m : Lane} {i j : DispenseSlot} {ps : List Part}

/-! ## Dispenses -/

/-- What the outcome of a dispense comes to. -/
def DispenseRecord.endedBy (r : DispenseRecord) (k : RecordKind) : Outcomes :=
  { closes := (· == r.lane), posts := fun l => l == r.lane && bringsCash k r.flags.takenLate, used := 1 }

/-- What a dispense comes to at a soft reset (R72). -/
def DispenseRecord.resets (r : DispenseRecord) : Outcomes :=
  { closes := (· == r.lane)
    posts := fun l => l == r.lane && (r.state != .queued || r.flags.takenLate)
    marks := fun c => r.state == .picking && planNames r.currentPlan c
    used := 1 }

theorem lowerCharge_own {n : Nat} {r : DispenseRecord} (h : s.recordAt i = some r) :
    ∃ x, (s.lowerCharge i n).recordAt i = some x ∧ x.lane = r.lane ∧ x.flags = r.flags := by
  unfold State.lowerCharge
  rw [onDispense_some h]
  dsimp only
  split
  · rw [mapDispenseAt_recordAt, if_pos rfl, h]
    exact ⟨_, rfl, rfl, rfl⟩
  · have hc := (touches_checkAuthority (s := s) (i := r.index)).framed.recordAt i
    split
    · rw [mapDispenseAt_recordAt, if_pos rfl, touches_lowerShift.framed.recordAt, hc, h]
      exact ⟨_, rfl, rfl, rfl⟩
    · rw [mapDispenseAt_recordAt, if_pos rfl, hc, h]
      exact ⟨_, rfl, rfl, rfl⟩

theorem ends_endDispense {k : RecordKind} {n d : Nat} {c : Option Code} {r : DispenseRecord} (h : s.recordAt i = some r) :
    Ends (r.endedBy k) s (s.endDispense i k n c d) := by
  unfold State.endDispense
  dsimp only
  have hu : Ends {} s ((if k = .cancelled ∨ k = .retracted then s.lowerCharge i 0 else s).touchDispense i) := by
    refine Ends.then ?_ (.of_framed touches_touchDispense.framed)
    split
    · exact .of_framed touches_lowerCharge.framed
    · exact .refl
  have hown : ∃ x, ((if k = .cancelled ∨ k = .retracted then s.lowerCharge i 0 else s).touchDispense i).recordAt i = some x
      ∧ x.lane = r.lane ∧ x.flags.takenLate = r.flags.takenLate := by
    rw [touchDispense_own]
    split
    · obtain ⟨x, hx, hl, hf⟩ := lowerCharge_own h
      rw [hx]
      exact ⟨_, rfl, hl, (congrArg DispenseFlags.takenLate hf :)⟩
    · rw [h]
      exact ⟨_, rfl, rfl, rfl⟩
  generalize (if k = .cancelled ∨ k = .retracted then s.lowerCharge i 0 else s).touchDispense i = u at hu hown ⊢
  obtain ⟨x, hx, hl, hf⟩ := hown
  refine hu.then ?_
  rw [onDispense_some hx, hl, hf]
  have hlast : ∀ {o : Outcomes} {v : State}, Ends o u v →
      Ends (o.and { closes := (· == r.lane) }) u (((v.closeTxn r.lane).reportDispense i (.outcome k) c).setDispense i none) :=
    fun hv => ((hv.trans ends_closeTxn).still (.of_framed touches_reportDispense.framed)).still (.of_framed framed_setDispense)
  split
  · next hb =>
    refine (hlast (ends_outcome.trans ends_postCash)).cast ?_
    simp [Outcomes.and, DispenseRecord.endedBy, hb]
  · next hb =>
    refine (hlast ends_outcome).cast ?_
    simp [Outcomes.and, DispenseRecord.endedBy, Bool.not_eq_true _ ▸ hb]

theorem ends_endInDoubt {b : Bool} {d : Nat} {r : DispenseRecord} (h : s.recordAt i = some r) :
    Ends { closes := (· == r.lane), posts := (· == r.lane), marks := fun c => b && planNames r.currentPlan c, used := 1 } s
      (s.endInDoubt i b d) := by
  unfold State.endInDoubt
  rw [onDispense_some h]
  dsimp only
  have hm : Ends { marks := fun c => b && planNames r.currentPlan c } s
      (if b then s.forEach r.currentPlan fun s p => s.markUnreconciled p.cassette else s) := by
    cases b with
    | true => exact ends_markPlan
    | false => exact .refl
  have hown : (if b then s.forEach r.currentPlan fun s p => s.markUnreconciled p.cassette else s).recordAt i = some r := by
    split
    · rw [(touches_forEach (fun _ _ => touches_markUnreconciled) _ _).framed.recordAt, h]
    · exact h
  generalize (if b then s.forEach r.currentPlan fun s p => s.markUnreconciled p.cassette else s) = u at hm hown ⊢
  have hd := ends_endDispense (s := u.mapDispenseAt i fun r => { r with flags := { r.flags with inDoubt := true } })
    (k := .inDoubt) (n := r.notes) (d := d) (c := none) (i := i) (r := { r with flags := { r.flags with inDoubt := true } })
    (by rw [mapDispenseAt_recordAt, if_pos rfl, hown]; rfl)
  have hf := (hm.still (.of_framed (touches_mapDispenseAt).framed)).trans hd
  refine ((hf.still (.of_framed touches_setInDoubt.framed)).still ends_endOperation).cast ?_
  simp [Outcomes.and, DispenseRecord.endedBy, bringsCash]

theorem ends_resetDispense : Ends ((s.recordAt i).elim {} DispenseRecord.resets) s (s.resetDispense i) := by
  unfold State.resetDispense
  refine onDispense_cases (Q := Ends ((s.recordAt i).elim {} DispenseRecord.resets) s) (fun h => ?_) fun r h => ?_
  · rw [h]
    exact .refl
  · rw [h]
    change Ends r.resets s _
    have hdone : ∀ k, ((bringsCash k r.flags.takenLate, false) : Bool × Bool) =
        (r.state != .queued || r.flags.takenLate, r.state == .picking) →
          Ends r.resets s (s.endDispense i k r.notes) := fun k hk => by
      obtain ⟨hp, hm⟩ := Prod.mk.inj hk
      refine (ends_endDispense h).cast ?_
      simp [DispenseRecord.endedBy, DispenseRecord.resets, hp, ← hm]
    have hdoubt : ∀ b, ((true, b) : Bool × Bool) = (r.state != .queued || r.flags.takenLate, r.state == .picking) →
        Ends r.resets s (s.endInDoubt i b) := fun b hb => by
      obtain ⟨hp, hm⟩ := Prod.mk.inj hb
      refine (ends_endInDoubt h).cast ?_
      simp [DispenseRecord.resets, ← hp, hm]
    cases hst : r.state with
    | queued => exact hdone .cancelled (by rw [hst]; rfl)
    | picking => exact hdoubt true (by rw [hst]; rfl)
    | presented => exact hdone .presented (by rw [hst]; rfl)
    | taken => exact hdone .taken (by rw [hst]; rfl)
    | inTransit => exact hdoubt false (by rw [hst]; rfl)

theorem resetDispense_recordAt : (s.resetDispense i).recordAt j = if j = i then none else s.recordAt j := by
  unfold State.resetDispense
  refine onDispense_cases (Q := fun t => t.recordAt j = if j = i then none else s.recordAt j) (fun h => ?_) fun r _ => ?_
  · split
    · next he => rw [he]; exact h
    · rfl
  · split
    · exact endDispense_recordAt
    · exact endInDoubt_recordAt
    · exact endDispense_recordAt
    · exact endDispense_recordAt
    · exact endInDoubt_recordAt

/-! ## Sessions -/

/-- What the outcome of a session comes to. -/
def SessionEnd.ends (e : SessionEnd) (l : Lane) : Outcomes :=
  { closes := (· == l), posts := fun k => k == l && decide (e.kind = .inDoubt), used := 1 }

/-- What a session comes to at a soft reset (R110). -/
def Session.resets (x : Session) (l : Lane) : Outcomes :=
  { closes := (· == l)
    posts := fun k => k == l && (x.running && !x.transit.isEmpty)
    marks := fun c => x.running && x.transit.any fun n => n.goesTo c
    used := 1 }

theorem ends_endSession {e : SessionEnd} {r : Option Nat} {x : Session} (h : s.session l = some x) :
    Ends (e.ends l) s (s.endSession l e r) := by
  unfold State.endSession
  dsimp only
  have hu : Ends {} s (s.touchSession l) := .of_framed touches_touchSession.framed
  have hown : ∃ y, (s.touchSession l).session l = some y := by
    unfold State.touchSession
    rw [mapSession_session, if_pos rfl, h]
    exact ⟨_, rfl⟩
  generalize s.touchSession l = u at hu hown ⊢
  obtain ⟨y, hy⟩ := hown
  refine hu.then ?_
  rw [onSession_some hy]
  have hlast : ∀ {o : Outcomes} {v : State}, Ends o u v → Ends (o.and { closes := (· == l) }) u
      ((((v.closeTxn l).reportDeposit l e.event e.code).setSession l none).retire (.acceptBegin l)) := fun hv =>
    (((hv.trans ends_closeTxn).still (.of_framed touches_reportDeposit.framed)).still (.of_framed framed_setSession)).still
      (.of_framed touches_retire.framed)
  have hall : Ends (e.ends l) u (((((if e.kind = .inDoubt then (u.outcome (y.outcomeEntry l e r)).postHold l .cash
      else u.outcome (y.outcomeEntry l e r)).closeTxn l).reportDeposit l e.event e.code).setSession l none).retire
        (.acceptBegin l)) := by
    split
    · next hk =>
      refine (hlast (ends_outcome.trans ends_postCash)).cast ?_
      simp [Outcomes.and, SessionEnd.ends, hk]
    · next hk =>
      refine (hlast ends_outcome).cast ?_
      simp [Outcomes.and, SessionEnd.ends, hk]
  split
  · exact hall
  · exact hall.still ends_endOperation

theorem ends_closeSession {c : Option Code} {b : Bool} {r : Option Nat} {x : Session} (h : s.session l = some x) :
    Ends { closes := (· == l), used := 1 } s (s.closeSession l c b r) := by
  unfold State.closeSession
  rw [onSession_some h]
  exact (ends_endSession h).cast (by simp [SessionEnd.ends])

theorem ends_sessionDoubted {x : Session} (h : s.session l = some x) :
    Ends { closes := (· == l), posts := (· == l), marks := fun c => x.transit.any fun n => n.goesTo c, used := 1 } s
      (s.sessionDoubted l false State.markDest) := by
  unfold State.sessionDoubted
  rw [onSession_some h]
  dsimp only
  have hm := ends_markNotes (s := s) (notes := x.transit)
  have hown : (s.forEach x.transit State.markDest).session l = some x := by
    rw [(touches_forEach (fun _ _ => touches_markDest) _ _).framed.session, h]
  generalize s.forEach x.transit State.markDest = u at hm hown ⊢
  have hv := hm.still (.of_framed (touches_doubtValue (s := u) (list := x.transit)).framed)
  have hvown : (u.doubtValue x.transit).1.session l = some x := by rw [touches_doubtValue.framed.session, hown]
  generalize u.doubtValue x.transit = v at hv hvown ⊢
  have hw := hv.still (.of_framed (touches_mapSession (s := v.1) (l := l) (f := fun x => { x with
    transit := [], flags := { x.flags with valueUnknown := x.flags.valueUnknown || !v.2.2 } })).framed)
  refine (hw.trans (ends_endSession (x := { x with
    transit := [], flags := { x.flags with valueUnknown := x.flags.valueUnknown || !v.2.2 } }) ?_)).cast ?_
  · rw [mapSession_session, if_pos rfl, hvown]
    rfl
  · simp [Outcomes.and, SessionEnd.ends]

theorem ends_resetSession : Ends ((s.session l).elim {} fun x => x.resets l) s (s.resetSession l) := by
  unfold State.resetSession
  refine onSession_cases (Q := Ends ((s.session l).elim {} fun x => x.resets l) s) (fun h => ?_) fun x h => ?_
  · rw [h]
    exact .refl
  · rw [h]
    change Ends (x.resets l) s _
    split
    · next hr =>
      refine Ends.still ?_ (.of_framed touches_post.framed)
      split
      · next ht => exact (ends_closeSession h).cast (by simp [Session.resets, hr, ht])
      · next ht => exact (ends_sessionDoubted h).cast (by simp [Session.resets, hr, List.isEmpty_eq_false_iff.2 ht])
    · next hr => exact (ends_closeSession h).cast (by simp [Session.resets, Bool.not_eq_true _ ▸ hr])

theorem resetSession_session : (s.resetSession l).session m = if m = l then none else s.session m := by
  unfold State.resetSession
  refine onSession_cases (Q := fun t => t.session m = if m = l then none else s.session m) (fun h => ?_) fun x _ => ?_
  · split
    · next he => rw [he]; exact h
    · rfl
  · split
    · dsimp only
      rw [touches_post.framed.session]
      split
      · exact closeSession_session
      · exact sessionDoubted_session fun _ _ => touches_markDest
    · exact closeSession_session

/-! ## Captures -/

theorem ends_voidCapture {fs : List Fact} :
    Ends ((s.capture l).elim {} fun _ => { used := 1 }) s (s.voidCapture l .reset false fs) := by
  unfold State.voidCapture
  dsimp only
  have hu : Ends {} s (s.touchCapture l) := .of_framed touches_touchCapture.framed
  have hown : (s.capture l).isSome = ((s.touchCapture l).capture l).isSome :=
    (congrFun ((touches_touchCapture (s := s) (l := l)).framed .captured (by decide)) l).symm
  generalize s.touchCapture l = u at hu hown ⊢
  cases hc : u.capture l with
  | none =>
    rw [hc] at hown
    rw [Option.isSome_eq_false_iff.1 hown |> Option.isNone_iff_eq_none.1]
    exact hu
  | some c =>
    rw [hc] at hown
    obtain ⟨x, hx⟩ := Option.isSome_iff_exists.1 hown
    rw [hx]
    refine hu.then ?_
    exact (ends_outcome.still (.of_framed touches_reportEnvelope.framed)).still (.of_framed touches_setCapture.framed)

end Sys2Proof.Machine
end

section
/-! SUPPORT. All the outcomes of a soft reset together. -/

namespace Sys2Proof.Machine

open Sys2Proof

-- One thread, so that the check's memory holds the stacks.
set_option Elab.async false

variable {s t u : State}

/-! ## The occupied of a block's slots -/

theorem toList_eq_slots {α : Type} {n : Nat} (v : Vector α n) : v.toList = (List.finRange n).map fun i => v[i] :=
  List.ext_getElem (by simp) fun i _ _ => by simp

theorem any_occupied {α : Type} {n : Nat} (v : Vector (Option α) n) (p : α → Bool) :
    (v.toList.filterMap id).any p = (List.finRange n).any fun i => v[i].any p := by
  rw [toList_eq_slots]
  induction List.finRange n with
  | nil => rfl
  | cons i ls ih =>
    rw [List.map_cons, List.any_cons, ← ih]
    cases h : v[i] with
    | none => rw [List.filterMap_cons_none rfl]; rfl
    | some x => rw [List.filterMap_cons_some (f := id) rfl]; rfl

theorem length_occupied {α : Type} {n : Nat} (v : Vector (Option α) n) :
    (v.toList.filterMap id).length = ((List.finRange n).map fun i => v[i].elim 0 fun _ => 1).sum := by
  rw [toList_eq_slots]
  induction List.finRange n with
  | nil => rfl
  | cons i ls ih =>
    rw [List.map_cons, List.map_cons, List.sum_cons, ← ih]
    cases h : v[i] with
    | none => rw [List.filterMap_cons_none rfl]; exact (Nat.zero_add _).symm
    | some x => rw [List.filterMap_cons_some (f := id) rfl, List.length_cons]; simp [Nat.add_comm]

/-- The outcomes of a block's slots, read off one of their fields. -/
theorem all_elim {α : Type} {n : Nat} (v : Fin n → Option α) (o : Fin n → α → Outcomes) :
    Outcomes.all ((List.finRange n).map fun i => (v i).elim {} (o i)) =
      { closes := fun l => (List.finRange n).any fun i => (v i).any fun x => (o i x).closes l
        posts := fun l => (List.finRange n).any fun i => (v i).any fun x => (o i x).posts l
        marks := fun c => (List.finRange n).any fun i => (v i).any fun x => (o i x).marks c
        used := ((List.finRange n).map fun i => (v i).elim 0 fun x => (o i x).used).sum } := by
  induction List.finRange n with
  | nil => rfl
  | cons i ls ih =>
    rw [List.map_cons, Outcomes.all_cons, ih]
    cases h : v i with
    | none => simp [Outcomes.and, h]
    | some x => simp [Outcomes.and, h]

/-! ## Dispenses, sessions and captures -/

/-- What the dispenses come to. -/
theorem ends_resetDispenses : Ends
    { closes := fun l => s.dispenses.any fun r => r.lane == l
      posts := fun l => s.dispenses.any fun r => r.lane == l && (r.state != .queued || r.flags.takenLate)
      marks := fun c => s.dispenses.any fun r => r.state == .picking && planNames r.currentPlan c
      used := s.dispenses.length } s s.resetDispenses := by
  refine (ends_turns (V := fun i s => s.recordAt i) (o := fun _ r => r.elim {} DispenseRecord.resets)
    (fun s i j h => by rw [resetDispense_recordAt, if_neg h]) (fun _ _ => ends_resetDispense) (List.nodup_finRange 8)).cast ?_
  rw [all_elim (fun i => s.recordAt i) fun _ => DispenseRecord.resets]
  have hl : ∀ (l : Lane) (r : DispenseRecord), (l == r.lane) = (r.lane == l) := fun _ _ => Bool.beq_comm
  unfold State.dispenses
  simp only [any_occupied, length_occupied, DispenseRecord.resets, hl]
  rfl

/-- What the sessions come to. -/
theorem ends_resetSessions : Ends
    { closes := fun l => (s.session l).isSome
      posts := fun l => (s.session l).any fun x => x.running && !x.transit.isEmpty
      marks := fun c => s.sessions.any fun x => x.running && x.transit.any fun n => n.goesTo c
      used := s.sessions.length } s s.resetSessions := by
  have own : ∀ (l : Lane) (p : Session → Bool), ((List.finRange 6).any fun k => (s.session k).any fun x => l == k && p x) =
      (s.session l).any p := fun l p => by
    rw [Bool.eq_iff_iff]
    simp [Option.any_eq_true]
  refine (ends_turns (V := fun l s => s.session l) (o := fun l x => x.elim {} fun x => x.resets l)
    (fun s i j h => by rw [resetSession_session, if_neg h]) (fun _ _ => ends_resetSession) (List.nodup_finRange 6)).cast ?_
  rw [all_elim (fun l => s.session l) fun l x => x.resets l]
  unfold State.sessions
  simp only [any_occupied, length_occupied]
  refine Outcomes.ext (funext fun l => ?_) (funext fun l => own l _) rfl rfl
  have h := own l fun _ => true
  simp only [Bool.and_true] at h
  refine h.trans ?_
  dsimp only
  cases s.session l <;> rfl

theorem ends_voidCaptures : Ends { used := s.captures.length } s
    (s.forEach (List.finRange 6) fun s l => s.voidCapture l .reset false) := by
  refine (ends_turns (V := fun l s => s.capture l) (o := fun _ c => c.elim {} fun _ => { used := 1 })
    (fun s l k h => by rw [voidCapture_capture (by decide), if_neg h]) (fun _ _ => ends_voidCapture)
    (List.nodup_finRange 6)).cast ?_
  rw [all_elim (fun l => s.capture l) fun _ _ => { used := 1 }]
  unfold State.captures
  rw [length_occupied]
  exact Outcomes.ext (funext fun l => by simp) (funext fun l => by simp) (funext fun c => by simp) rfl

end Sys2Proof.Machine
end

section
/-! SUPPORT. The Wall Bus Controller's part of a soft reset (R157, R159), and what NODE comes to (R10). -/

namespace Sys2Proof.Machine

open Sys2Proof

-- One thread, so that the check's memory holds the stacks.
set_option Elab.async false

variable {s t u : State} {l : Lane} {m : ModuleId} {ps : List Part}

/-! ## The steps of the reset -/

/-- An entry after a reset (R157). -/
def Module.restarted (e : Module) : Module :=
  e.changedTo { e.clearMarks with orderErrors := 0, replyErrors := 0, health := .active }

/-- No exchange outstanding and no frame queued. -/
def State.busCleared (s : State) : State := s.mapBus fun b => { b with outstanding := none, outgoing := [], resend := none }

/-- Every restore abandoned. -/
def State.restoresEnded (s : State) : State := s.forEach s.bus.restores fun s r => s.endRestore r .abandoned

/-- Every entry restarted. -/
def State.modulesRestarted (s : State) : State := s.mapBus fun b => { b with modules := b.modules.map Module.restarted }

theorem resetBus_eq (s : State) : s.resetBus = s.busCleared.restoresEnded.modulesRestarted.evaluateNodes := rfl

theorem framed_busCleared : Framed [.outstanding, .asked, .outgoing, .resend, .due] s s.busCleared := fun p hp => by
  cases p with
  | outstanding | asked | outgoing | resend | due => exact absurd (by decide) hp
  | _ => rfl

theorem touches_restoresEnded : Touches (.restores :: logParts) s s.restoresEnded :=
  touches_forEach (fun _ _ => touches_endRestore) _ _

theorem framed_modulesRestarted : Framed [.modules] s s.modulesRestarted := fun p hp => by
  cases p with
  | modules => exact absurd (by decide) hp
  | _ => rfl

/-! ## Restores -/

theorem endRestore_restores {r : Restore} {x : RestoreResult} :
    (s.endRestore r x).bus.restores = s.bus.restores.filter fun y => y.node ≠ r.node := by
  unfold State.endRestore
  dsimp only
  generalize hu : (s.mapBus fun b => { b with restores := b.restores.filter fun y => y.node ≠ r.node }) = u
  have hf := (touches_record (s := u)
    (e := { kind := .nodeRestore, facts := [.node r.node, .restore x r.probes r.goods] })).framed.mono (ps := logParts)
    |>.then (touches_send7 (r := .nodeRestore r.node x r.probes r.goods)).framed
  refine (hf .restores (by decide)).trans ?_
  rw [← hu]
  rfl

theorem restoresEnded_restores : s.restoresEnded.bus.restores = [] := by
  have h : ∀ (ls : List Restore) (s : State), (∀ y ∈ s.bus.restores, y ∈ ls) →
      (s.forEach ls fun s r => s.endRestore r .abandoned).bus.restores = [] := by
    intro ls
    induction ls with
    | nil => exact fun s hs => List.eq_nil_iff_forall_not_mem.2 fun y hy => by simpa using hs y hy
    | cons r ls ih =>
      refine fun s hs => ih _ fun y hy => ?_
      rw [endRestore_restores, List.mem_filter] at hy
      rcases List.mem_cons.1 (hs y hy.1) with rfl | hm
      · simp at hy
      · exact hm
  exact h _ s fun _ => id

/-! ## Modules -/

theorem restarted_named (e : Module) : e.restarted.node = e.node ∧ e.restarted.kind = e.kind ∧ e.restarted.lane = e.lane := by
  unfold Module.restarted Module.changedTo
  split <;> exact ⟨rfl, rfl, rfl⟩

theorem restarted_health (e : Module) : e.restarted.health = .active := by
  unfold Module.restarted Module.changedTo
  split
  · next h => exact (congrArg Module.health h).symm
  · rfl

theorem modulesRestarted_module : s.modulesRestarted.module m = (s.module m).restarted := by
  unfold State.modulesRestarted State.module State.mapBus
  simp

theorem resetBus_module : s.resetBus.module m = (s.module m).restarted := by
  rw [resetBus_eq, touches_evaluateNodes.framed.module, modulesRestarted_module, touches_restoresEnded.framed.module,
    framed_busCleared.module]

theorem resetBus_stationEntry : s.resetBus.stationEntry l = s.stationEntry l := by
  refine stationEntry_congr fun i => ?_
  rw [resetBus_module]
  exact restarted_named _

/-! ## NODE -/

/-- With every node ACTIVE, NODE stands where there is none. -/
theorem nodeStands_active (h : ∀ m, (s.module m).health = .active) : s.nodeStands l = (s.stationEntry l).isNone := by
  unfold State.nodeStands State.healthOf
  cases hs : s.stationEntry l with
  | none => rfl
  | some m =>
    have hm : s.bus.modules[m].health = .active := h m
    simp only [Option.map_some, hm]
    rfl

theorem resetBus_laneCore : s.resetBus.laneCore l =
    { s.laneCore l with holds := { (s.laneRec l).holds with node := (s.stationEntry l).isNone } } := by
  have hframe : Framed (.restores :: .modules :: .outstanding :: .asked :: .outgoing :: .resend :: .due :: logParts) s
      s.busCleared.restoresEnded.modulesRestarted :=
    (framed_busCleared.mono.then touches_restoresEnded.framed).then framed_modulesRestarted
  have hnode : s.resetBus.nodeStands l = (s.stationEntry l).isNone := by
    rw [nodeStands_active fun m => by rw [resetBus_module]; exact restarted_health _, resetBus_stationEntry]
  rw [resetBus_eq] at hnode ⊢
  generalize s.busCleared.restoresEnded.modulesRestarted = u at hframe hnode ⊢
  have hjudged : ({ u.nodeJudged u.evaluateNodes l with state := .closed } : LaneRecord) =
      { u.laneCore l with holds := { (u.laneRec l).holds with node := u.evaluateNodes.nodeStands l } } := by
    unfold State.nodeJudged
    dsimp only
    split
    · next h => rw [h]; rfl
    · rfl
  rw [← hnode, ← hframe.laneCore l, ← hframe.holds l, ← hjudged, ← evaluateNodes_laneRec]
  rfl

end Sys2Proof.Machine
end

section
/-! SUPPORT. A soft reset step by step: what lanes, cassettes, the journal's reserved slots and the recycler come to (R182). -/

namespace Sys2Proof.Machine

open Sys2Proof

-- One thread, so that the check's memory holds the stacks.
set_option Elab.async false

variable {s t u : State} {l : Lane} {m : ModuleId} {ps : List Part}

theorem Framed.dispenses (h : Framed ps s t) (hp : .records ∉ ps := by decide) : t.dispenses = s.dispenses :=
  congrArg (fun v : Vector (Option DispenseRecord) 8 => v.toList.filterMap id) (h .records hp)

theorem Framed.sessions (h : Framed ps s t) (hp : .slots ∉ ps := by decide) : t.sessions = s.sessions :=
  congrArg (fun v : Vector (Option Session) 6 => v.toList.filterMap id) (h .slots hp)

theorem Framed.takenCaptures (h : Framed ps s t) (hp : .captures ∉ ps := by decide) : t.captures = s.captures :=
  congrArg (fun v : Vector (Option Capture) 6 => v.toList.filterMap id) (h .captures hp)

theorem Framed.reserved (h : Framed ps s t) (hp : .reserved ∉ ps := by decide) : t.journal.reserved = s.journal.reserved :=
  h .reserved hp

/-! ## Its steps -/

/-- Management's part and the Console Link's come first (R182). -/
def State.resetBegun (s : State) : State :=
  ((s.mapLink fun k => { k with reports := [], rxBuffer := [], rxPartial := [] }).record { kind := .reset }).mapMgmt
    fun m => { m with partState := .suspended, sticky := {}, goPending := false }

/-- The Wall Bus Controller's and the Order Screen's. -/
def State.frontReset (s : State) : State := s.resetBegun.resetBus.resetScreen

/-- Dispense Control's and Deposit Control's. -/
def State.moneyReset (s : State) : State := s.frontReset.resetDispenses.resetSessions

/-- Cash Position's and the Envelope Depository's. -/
def State.cashReset (s : State) : State := s.moneyReset.resetCash.resetEnvelope

/-- The Tube Scheduler's and the Alarm Supervisor's. -/
def State.tubeReset (s : State) : State := s.cashReset.resetTube.resetAlarm

/-- Lane Control's comes last: each lane settled. -/
def State.lanesSettled (s : State) : State := s.forEach (List.finRange 6) fun s l => s.settleAndAnnounce l (s.laneRec l)

theorem softReset_eq (s : State) : s.softReset = s.tubeReset.lanesSettled := rfl

/-- What the steps before the dispenses may change. -/
abbrev frontParts : List Part :=
  .consoles :: .pairSlots :: .managementSlot :: .modules :: .outstanding :: .asked :: .outgoing :: .resend :: .due :: .restores ::
    holdParts

/-- What the steps from the dispenses on may change. -/
abbrev endParts : List Part :=
  .loops :: .exchange :: .safe :: .captures :: .captured :: .denominations :: .inDoubtLanes :: .cassettes :: .slots :: .occupied ::
    .workQueue :: .recycler :: tubeParts

theorem touches_frontReset : Touches frontParts s.resetBegun s.frontReset := touches_resetBus.mono.then touches_resetScreen

theorem touches_moneyReset :
    Touches (.cassettes :: .denominations :: .inDoubtLanes :: .records :: .names :: .authority :: sessionParts) s.frontReset
      s.moneyReset :=
  touches_resetDispenses.mono.then touches_resetSessions

theorem touches_resetCaptures :
    Touches (.safe :: .captures :: .captured :: .reserved :: logParts) s s.resetEnvelope :=
  (touches_forEach (fun _ _ => touches_voidQuietly (by decide)) _ _).mono.then touches_closeSafe

theorem touches_cashReset : Touches (.workQueue :: .recycler :: .exchange :: .outgoing :: .cassettes :: .safe :: .captures ::
    .captured :: .reserved :: logParts) s.moneyReset s.cashReset :=
  touches_resetCash.mono.then touches_resetCaptures

theorem touches_tubeReset : Touches (.loops :: .requests :: .carriers :: .blower :: .tubeSetting :: .outgoing :: holdParts)
    s.cashReset s.tubeReset := touches_resetTube.mono.then touches_resetAlarm

theorem touches_lanesSettled : Touches announceParts s s.lanesSettled := touches_forEach (fun _ _ => touches_settleAndAnnounce) _ _

theorem touches_endsReset : Touches endParts s.frontReset s.softReset :=
  touches_moneyReset.mono.then touches_cashReset |>.then touches_tubeReset |>.then touches_lanesSettled

/-- What the steps from the first on may change. -/
abbrev stepParts : List Part := .consoles :: .pairSlots :: .managementSlot :: .modules :: .asked :: .due :: .restores :: endParts

theorem touches_resetSteps : Touches stepParts s.resetBegun s.softReset :=
  touches_frontReset.mono.then touches_endsReset

theorem framed_resetBegun : Framed [.reports, .rx, .journal, .partState, .sticky, .watch, .low, .goPending] s s.resetBegun := by
  have hlink := framed_clearLink (s := s)
  unfold State.resetBegun
  generalize (s.mapLink fun k => { k with reports := [], rxBuffer := [], rxPartial := [] }) = u at hlink ⊢
  refine (hlink.mono.then (touches_record (e := { kind := .reset })).framed).then
    (qs := [.partState, .sticky, .watch, .low, .goPending]) fun p hp => ?_
  cases p with
  | partState | sticky | watch | low | goPending => exact absurd (by decide) hp
  | _ => rfl

/-- What they and Management's and the Console Link's part may change. -/
abbrev beginningParts : List Part := .reports :: .rx :: .partState :: .goPending :: .watch :: .low :: frontParts

theorem framed_frontReset : Framed beginningParts s s.frontReset := framed_resetBegun.mono.then touches_frontReset.framed

/-! ## None of them brings about a lost report with a place left, or the like -/

theorem steady_resetBus : Steady s s.resetBus := by
  have hm : ∀ u : State, Steady u u.modulesRestarted := fun u => by
    refine .of_tables framed_modulesRestarted fun hs p hp => ?_
    obtain rfl := List.mem_singleton.1 hp
    intro m
    rw [modulesRestarted_module]
    unfold Module.restarted Module.changedTo
    split
    · exact sound_module hs m
    · exact congrArg Check.recomputed (sound_module hs m)
  rw [resetBus_eq]
  exact (((Steady.of_framed framed_busCleared).trans (steady_forEach (fun _ _ => steady_endRestore) _)).trans (hm _)).trans
    (steady_forEach (fun _ _ => steady_evaluateNode) _)

theorem steady_resetCash : Steady s s.resetCash := by
  have h : Steady s (s.mapCash fun k => { k with workQueue := [], recycler := if k.recycler = .busy then .ready else k.recycler }) :=
    .of_framed (ps := [.workQueue, .recycler]) fun p hp => by
      cases p with
      | workQueue | recycler => exact absurd (by decide) hp
      | _ => rfl
  unfold State.resetCash
  dsimp only
  generalize (s.mapCash fun k => { k with workQueue := [], recycler := if k.recycler = .busy then .ready else k.recycler }) = u
    at h ⊢
  exact .ite (fun _ => (h.trans steady_endExchange).trans steady_post) fun _ => h.trans steady_endExchange

theorem steady_resetEnvelope : Steady s s.resetEnvelope := by
  unfold State.resetEnvelope
  exact (steady_forEach (fun _ _ => steady_voidCapture) _).trans steady_closeSafe

theorem steady_resetTube : Steady s s.resetTube := by
  unfold State.resetTube
  dsimp only
  have h : Steady s ((s.mapTube fun t => { t with requests := [] }).forEach (List.finRange 6) State.resetCarrier) :=
    (Steady.of_framed touches_setRequests.framed).trans (steady_forEach (fun _ _ => steady_resetCarrier) _)
  generalize (s.mapTube fun t => { t with requests := [] }).forEach (List.finRange 6) State.resetCarrier = u at h ⊢
  split
  · exact (h.trans (.ite (fun _ => steady_post) fun _ => .refl)).trans steady_releaseBlower
  · exact h

theorem steady_resetAlarm : Steady s s.resetAlarm := by
  unfold State.resetAlarm
  exact steady_forEach (fun _ _ => steady_resetLoop) _

/-- Up to the Tube Scheduler's part. -/
theorem steady_cashReset : Steady s.resetBegun s.cashReset := by
  have hfront : Steady s.resetBegun s.frontReset := steady_resetBus.trans (.of_framed touches_resetScreen.framed)
  have hmoney : Steady s.frontReset s.moneyReset :=
    (steady_forEach (fun _ _ => steady_resetDispense) _).trans (steady_forEach (fun _ _ => steady_resetSession) _)
  have hcash : Steady s.moneyReset s.cashReset := steady_resetCash.trans steady_resetEnvelope
  exact (hfront.trans hmoney).trans hcash

theorem steady_softReset : Steady s.resetBegun s.softReset := by
  have htube : Steady s.cashReset s.tubeReset := steady_resetTube.trans steady_resetAlarm
  rw [softReset_eq]
  exact (steady_cashReset.trans htube).trans (steady_forEach (fun _ _ => steady_settleAndAnnounce) _)

/-! ## Outcomes -/

/-- What the dispenses and sessions come to. -/
theorem ends_moneyReset : Ends
    { closes := s.resetCloses, posts := s.resetPostsCash, marks := s.resetUnreconciles
      used := s.dispenses.length + s.sessions.length } s.frontReset s.moneyReset := by
  have hf := framed_frontReset (s := s)
  have hs : ∀ l, s.frontReset.resetDispenses.session l = s.session l := fun l => by
    rw [touches_resetDispenses.framed.session, hf.session]
  refine (ends_resetDispenses.trans ends_resetSessions).cast ?_
  rw [hf.dispenses, touches_resetDispenses.framed.sessions, hf.sessions]
  simp only [hs]
  rfl

theorem ends_resetEnvelope : Ends { used := s.captures.length } s s.resetEnvelope :=
  ends_voidCaptures.still (.of_framed touches_closeSafe.framed)

/-! ## Cash Position -/

theorem endExchange_cassette {w : Cause} {c : CassetteId} : (s.endExchange w).cassette c =
    if s.cash.exchange.any (fun a => a.cassette == c) then
      { s.cassette c with causes := { (s.cassette c).causes with exchange := false }, check := (s.cassette c).check.recomputed }
    else s.cassette c := by
  unfold State.endExchange
  cases h : s.cash.exchange with
  | none => rfl
  | some a =>
    dsimp only
    rw [touches_send7.framed.cassette, touches_record.framed.cassette]
    unfold State.changeCassette
    rw [mapCassette_cassette]
    by_cases hc : c = a.cassette
    · rw [if_pos hc, if_pos (by simp [hc]), hc]
      rfl
    · rw [if_neg hc, if_neg (by simp [Ne.symm hc])]
      rfl

theorem resetCash_cassette {c : CassetteId} : s.resetCash.cassette c =
    if s.cash.exchange.any (fun a => a.cassette == c) then
      { s.cassette c with causes := { (s.cassette c).causes with exchange := false }, check := (s.cassette c).check.recomputed }
    else s.cassette c := by
  unfold State.resetCash
  dsimp only
  have h := endExchange_cassette (w := .softReset) (c := c)
    (s := s.mapCash fun k => { k with workQueue := [], recycler := if k.recycler = .busy then .ready else k.recycler })
  split
  · rw [touches_post.framed.cassette]
    exact h
  · exact h

theorem endExchange_exchangeNone {w : Cause} : (s.endExchange w).cash.exchange = none := by
  unfold State.endExchange
  cases h : s.cash.exchange with
  | none => exact h
  | some a =>
    dsimp only
    generalize hu : (s.mapCash fun k => { k with exchange := none }) = u
    have hf : Framed (.cassettes :: logParts) u (((u.changeCassette a.cassette fun k =>
        { k with causes := { k.causes with exchange := false } }).record
          { kind := .exchangeEnd, facts := [.cassette a.cassette, .cause w] }).send7 (.exchangeEnd a.cassette w)) :=
      (touches_changeCassette.mono.then touches_record |>.then touches_send7).framed
    refine (hf .exchange (by decide)).trans ?_
    rw [← hu]
    rfl

/-- The recycler, the work queue and the exchange. -/
theorem resetCash_cash : s.resetCash.cash.workQueue = [] ∧ s.resetCash.cash.recycler = s.cash.recycler.rested
    ∧ s.resetCash.cash.exchange = none := by
  unfold State.resetCash
  dsimp only
  generalize hu : (s.mapCash fun k => { k with workQueue := [], recycler := if k.recycler = .busy then .ready else k.recycler }) = u
  have hq : u.cash.workQueue = [] := by rw [← hu]; rfl
  have hr : u.cash.recycler = s.cash.recycler.rested := by rw [← hu]; rfl
  have hf := (touches_endExchange (s := u) (c := .softReset)).framed
  have hqe : (u.endExchange .softReset).cash.workQueue = [] := (hf .workQueue (by decide)).trans hq
  have hre : (u.endExchange .softReset).cash.recycler = s.cash.recycler.rested := (hf .recycler (by decide)).trans hr
  have hx := endExchange_exchangeNone (s := u) (w := .softReset)
  generalize u.endExchange .softReset = v at hqe hre hx ⊢
  split
  · have hp := (touches_post (s := v) (e := v.recyclerEntry) (w := .cash) (o := .lockBays)).framed
    exact ⟨(hp .workQueue (by decide)).trans hqe, (hp .recycler (by decide)).trans hre, (hp .exchange (by decide)).trans hx⟩
  · exact ⟨hqe, hre, hx⟩

end Sys2Proof.Machine
end

section
/-! SUPPORT. What a soft reset leaves of the lanes, the cassettes, the carriers, the blower and the loops (R16, R93, R122, R138). -/

namespace Sys2Proof.Machine

open Sys2Proof

-- One thread, so that the check's memory holds the stacks.
set_option Elab.async false

variable {s t u : State} {l k : Lane} {m : ModuleId} {ps : List Part}

/-! ## Carriers -/

theorem stopCarrier_carrier : (s.stopCarrier l).carrier k = if k = l then (s.carrier l).stopped else s.carrier k := by
  unfold State.stopCarrier
  split
  · rw [touches_reportCarrier.framed.carrier, mapCarrier_carrier]
  · exact mapCarrier_carrier _

theorem resetCarrier_carrier : (s.resetCarrier l).carrier k = if k = l then (s.carrier l).stopped else s.carrier k := by
  rw [resetCarrier_eq]
  split
  · rw [touches_postHold.framed.carrier, stopCarrier_carrier]
  · exact stopCarrier_carrier

theorem resetCarrier_laneCore : (s.resetCarrier l).laneCore k = if k = l then
    { s.laneCore l with holds := { (s.laneRec l).holds with carrier := (s.laneRec l).holds.carrier || (s.carrier l).moving } }
    else s.laneCore k := by
  have hf := (touches_stopCarrier (s := s) (l := l)).framed
  rw [resetCarrier_eq]
  split
  · next hm =>
    rw [postHold_laneCore, hf.laneCore, hf.laneCore, hf.holds, hm, Bool.or_true]
    rfl
  · next hm =>
    rw [hf.laneCore, (Bool.not_eq_true _).mp hm, Bool.or_false]
    split
    · next hk => rw [hk]; rfl
    · rfl

/-- Every carrier stopped. -/
def State.carriersStopped (s : State) : State :=
  (s.mapTube fun t => { t with requests := [] }).forEach (List.finRange 6) State.resetCarrier

theorem touches_carriersStopped : Touches (.requests :: .carriers :: holdParts) s s.carriersStopped := by
  unfold State.carriersStopped
  exact touches_setRequests.mono.then (touches_forEach (fun _ _ => touches_resetCarrier) _ _)

theorem carriersStopped_requests : s.carriersStopped.tube.requests = [] := by
  unfold State.carriersStopped
  generalize hu : (s.mapTube fun t => { t with requests := [] }) = u
  have hf := (touches_forEach (f := State.resetCarrier) (fun _ _ => touches_resetCarrier) (List.finRange 6) u).framed
  have hnone : u.tube.requests = [] := by rw [← hu]; rfl
  generalize u.forEach (List.finRange 6) State.resetCarrier = w at hf ⊢
  exact (hf .requests (by decide)).trans hnone

theorem steady_carriersStopped : Steady s s.carriersStopped := by
  unfold State.carriersStopped
  exact (Steady.of_framed touches_setRequests.framed).trans (steady_forEach (fun _ _ => steady_resetCarrier) _)

theorem carriersStopped_lane : s.carriersStopped.carrier l = (s.carrier l).stopped ∧ s.carriersStopped.laneCore l =
    { s.laneCore l with holds := { (s.laneRec l).holds with carrier := (s.laneRec l).holds.carrier || (s.carrier l).moving } } := by
  unfold State.carriersStopped
  generalize hu : (s.mapTube fun t => { t with requests := [] }) = u
  obtain ⟨v, -, hv, hf⟩ := forEach_turn (s := u) (f := State.resetCarrier) (V := fun l s => (s.carrier l, s.laneCore l))
    (I := fun _ => True) (fun _ _ _ => trivial)
    (fun s l k hk => by rw [resetCarrier_carrier, resetCarrier_laneCore, if_neg hk, if_neg hk]) trivial l
  simp only [Prod.mk.injEq] at hv hf
  obtain ⟨hcar, hcore⟩ := hv
  obtain ⟨hfcar, hfcore⟩ := hf
  have hholds : (v.laneRec l).holds = (u.laneRec l).holds := (congrArg LaneRecord.holds hcore :)
  rw [hfcar, hfcore, resetCarrier_carrier, resetCarrier_laneCore, if_pos rfl, if_pos rfl, hcore, hholds, hcar, ← hu]
  exact ⟨rfl, rfl⟩

/-- The blower after the carriers were stopped: a movement ends (R138). -/
theorem resetTube_cases : (∃ l, s.tube.blower = .moving l ∧ s.resetTube =
      (if s.carriersStopped.blowerUsable then s.carriersStopped.post s.carriersStopped.blowerEntry .tube .blowerStop
        else s.carriersStopped).releaseBlower l)
    ∨ (∀ l, s.tube.blower ≠ .moving l) ∧ s.resetTube = s.carriersStopped := by
  have hb : s.carriersStopped.tube.blower = s.tube.blower := touches_carriersStopped.framed .blower (by decide)
  unfold State.resetTube
  dsimp only
  rw [← State.carriersStopped]
  split
  · next l h => exact .inl ⟨l, hb.symm.trans h, rfl⟩
  · next h => exact .inr ⟨fun l hl => h l (hb.trans hl), rfl⟩

end Sys2Proof.Machine
end

section
/-! SUPPORT. BLOWER STOP finds a place, and the blower and the loops as a soft reset leaves them (R138, R143). -/

namespace Sys2Proof.Machine

open Sys2Proof

-- One thread, so that the check's memory holds the stacks.
set_option Elab.async false

variable {s t u : State} {l k : Lane} {m : ModuleId} {i j : LoopId} {ps : List Part}

/-! ## The room of the outgoing queue -/

theorem post_addressed {e : Option ModuleId} {w : Owner} {o : BusOrder} :
    (s.post e w o).addressed.length ≤ s.addressed.length + 1 := by
  cases e with
  | none => exact Nat.le_succ _
  | some m =>
    unfold State.post State.placeFor State.place
    dsimp only
    split
    · simp [State.addressed, State.mapBus]
    · dsimp only
      rw [touches_record.framed.addressed]
      exact Nat.le_succ _

/-- Things that each place at most one frame. -/
theorem forEach_addressed {α : Type} {f : State → α → State} (h : ∀ s a, (f s a).addressed.length ≤ s.addressed.length + 1)
    (ls : List α) : (s.forEach ls f).addressed.length ≤ s.addressed.length + ls.length := by
  induction ls generalizing s with
  | nil => exact Nat.le_refl _
  | cons a ls ih =>
    have ha := h s a
    have hrest := ih (s := f s a)
    have hall : (s.forEach (a :: ls) f).addressed.length ≤ (f s a).addressed.length + ls.length := hrest
    rw [List.length_cons]
    omega

theorem sessionDoubted_addressed {b : Bool} {mark : State → Transit → State}
    (hm : ∀ s n, Touches [.cassettes, .reports, .sticky] s (mark s n)) : (s.sessionDoubted l b mark).addressed = s.addressed := by
  refine onSession_cases (Q := fun t => t.addressed = s.addressed) (fun _ => rfl) fun x _ => ?_
  rw [endSession_addressed, touches_mapSession.framed.addressed, touches_doubtValue.framed.addressed,
    (touches_forEach hm _ _).framed.addressed]

theorem resetSession_addressed : (s.resetSession l).addressed.length ≤ s.addressed.length + 1 := by
  refine onSession_cases (Q := fun t => t.addressed.length ≤ s.addressed.length + 1) (fun _ => Nat.le_succ _) fun x _ => ?_
  split
  · refine post_addressed.trans (Nat.succ_le_succ (Nat.le_of_eq (congrArg List.length ?_)))
    split
    · exact closeSession_addressed
    · exact sessionDoubted_addressed fun _ _ => touches_markDest
  · rw [closeSession_addressed]
    exact Nat.le_succ _

theorem resetCash_addressed : s.resetCash.addressed.length ≤ s.addressed.length + 1 := by
  unfold State.resetCash
  dsimp only
  have h : ((s.mapCash fun k => { k with workQueue := [], recycler := if k.recycler = .busy then .ready else k.recycler }).endExchange
      .softReset).addressed = s.addressed := by
    rw [touches_endExchange.framed.addressed]
    rfl
  split
  · exact post_addressed.trans (Nat.le_of_eq (by rw [h]))
  · rw [h]
    exact Nat.le_succ _

/-- At most seven frames are queued before the blower's. -/
theorem cashReset_room : s.cashReset.bus.outgoing.length < 48 := by
  have hbus : s.resetBegun.resetBus.addressed = [] := by
    rw [resetBus_eq, touches_evaluateNodes.framed.addressed, framed_modulesRestarted.addressed,
      touches_restoresEnded.framed.addressed]
    rfl
  have hfront : s.frontReset.resetDispenses.addressed = [] := by
    rw [touches_resetDispenses.framed.addressed]
    unfold State.frontReset
    rw [touches_resetScreen.framed.addressed, hbus]
  have hsessions : s.moneyReset.addressed.length ≤ 0 + 6 := by
    have h := forEach_addressed (s := s.frontReset.resetDispenses) (f := State.resetSession) (fun _ _ => resetSession_addressed)
      (List.finRange 6)
    rw [hfront] at h
    exact h
  have hcash := resetCash_addressed (s := s.moneyReset)
  have hall : s.cashReset.addressed = s.moneyReset.resetCash.addressed := by
    unfold State.cashReset
    rw [touches_resetCaptures.framed.addressed]
  have hlen : s.cashReset.addressed.length < 48 := by
    rw [hall]
    omega
  unfold State.addressed at hlen
  rwa [List.length_map] at hlen

/-! ## The blower -/

theorem orderTo_congr {w : Owner} {o : BusOrder} (h : (t.module m).node = (s.module m).node) : t.orderTo m w o = s.orderTo m w o := by
  unfold State.orderTo
  rw [h]

theorem post_placed {w : Owner} {o : BusOrder} (h : s.bus.outgoing.length < 48) :
    s.orderTo m w o ∈ (s.post (some m) w o).bus.outgoing := by
  unfold State.post State.placeFor State.place
  dsimp only
  rw [if_pos h]
  exact List.mem_append_right _ (List.mem_singleton.2 rfl)

theorem releaseBlower_blower (h : s.tube.blower = .moving l) (hc : s.tube.setting.check = {}) :
    (s.releaseBlower l).tube.blower =
      if s.tube.setting.value = 0 then .idle else .resting ⟨s.now, s.tube.setting.value⟩ := by
  have hs : s.checkTubeSetting = s := if_pos (by rw [hc])
  have hr : s.restTime = s.tube.setting.value := by
    unfold State.restTime
    rw [hc]
    rfl
  unfold State.releaseBlower
  rw [if_pos h]
  dsimp only
  rw [hs, hr]
  rfl

/-! ## The loops -/

/-- A loop under a soft reset (R138). -/
def State.loopReset (s : State) (i : LoopId) : Loop :=
  if (s.loop i).kind = .none ∨ (s.loop i).state = .tripped then s.loop i else { s.loop i with
    state := if (s.loop i).armMode = .always then .arming else .disarmed
    armTimer := if (s.loop i).armMode = .always then some ⟨s.now, 10000⟩ else none
    armFailed := false
    qualifyTimer := none
    candidate := none }

theorem loopReset_congr (hl : t.loop i = s.loop i) (hn : t.now = s.now) : t.loopReset i = s.loopReset i := by
  unfold State.loopReset
  rw [hl, hn]

theorem resetLoop_loop : (s.resetLoop i).loop j = if j = i then s.loopReset i else s.loop j := by
  have hcond : ((s.loop i).configured && !(s.loop i).tripped) = true ↔
      ¬((s.loop i).kind = .none ∨ (s.loop i).state = .tripped) := by
    unfold Loop.configured Loop.tripped
    simp
  unfold State.resetLoop State.loopReset
  dsimp only
  by_cases h : (s.loop i).kind = .none ∨ (s.loop i).state = .tripped
  · rw [if_neg fun hc => hcond.1 hc h, if_pos h]
    split
    · next hj => rw [hj]
    · rfl
  · rw [if_pos (hcond.2 h), if_neg h]
    split
    · exact mapLoop_loop _
    · exact mapLoop_loop _

theorem resetAlarm_loop : s.resetAlarm.loop i = s.loopReset i := by
  unfold State.resetAlarm
  obtain ⟨v, hn, hv, hf⟩ := forEach_turn (s := s) (f := State.resetLoop) (V := fun i s => s.loop i) (I := fun u => u.now = s.now)
    (fun u i hu => (touches_resetLoop.framed.now).trans hu)
    (fun s i j hj => by rw [resetLoop_loop, if_neg hj]) rfl i
  rw [hf, resetLoop_loop, if_pos rfl]
  exact loopReset_congr hv hn

end Sys2Proof.Machine
end

section
/-! SUPPORT. What a soft reset leaves, block by block (R182). -/

namespace Sys2Proof.Machine

open Sys2Proof

-- One thread, so that the check's memory holds the stacks.
set_option Elab.async false

variable {s t u : State} {l m : Lane} {ps : List Part}

theorem laneCore_holds : (s.laneCore l).holds = (s.laneRec l).holds := rfl

/-! ## Every lane settled -/

/-- A lane settled and announced, with or without a change to tell, stands as the copy left in force says. -/
theorem settleAndAnnounce_settles {b : LaneRecord} :
    (s.settleAndAnnounce l b).laneRec m = (if m = l then
      { s.laneRec l with state := settledState (s.laneRec l) ((s.settleAndAnnounce l b).policy l).readsOpen }
    else s.laneRec m) ∧ (m ≠ l → (s.settleAndAnnounce l b).policy m = s.policy m) := by
  have hl : (s.settle l).laneRec l = { s.laneRec l with state := settledState (s.laneRec l) (s.policy l).readsOpen } := by
    rw [settle_laneRec, if_pos rfl]
  unfold State.settleAndAnnounce
  by_cases h : ((s.settle l).laneRec l).state ≠ b.state ∨ ((s.settle l).laneRec l).holds ≠ b.holds
  · obtain ⟨u, hu, hopen, hp, ht⟩ := announce_settles h
    rw [settle_policy] at hopen
    rw [ht.laneRec m, ht.policy l, settle_policy, settle_laneRec, hu.laneRec l, hu.laneRec m, hl, settle_laneRec, ht.policy m,
      settle_policy]
    refine ⟨?_, fun hm => by rw [hp m hm, settle_policy]⟩
    split
    · dsimp only
      rw [settledState_narrowed hopen]
    · rfl
  · have ht : Framed [.reports, .sticky] (s.settle l) ((s.settle l).announce l b) := by
      unfold State.announce
      rw [if_neg h]
      split
      · exact touches_send7.framed
      · exact .refl
    rw [ht.laneRec m, ht.policy l, settle_policy, settle_laneRec, ht.policy m, settle_policy]
    exact ⟨rfl, fun _ => rfl⟩

theorem lanesSettled_state : (s.lanesSettled.laneRec l).state =
    settledState (s.lanesSettled.laneRec l) (s.lanesSettled.policy l).readsOpen := by
  have hother : ∀ (s : State) (l m : Lane), m ≠ l → ((s.settleAndAnnounce l (s.laneRec l)).laneRec m,
      (s.settleAndAnnounce l (s.laneRec l)).policy m) = (s.laneRec m, s.policy m) := fun s l m hm => by
    obtain ⟨hrec, hpol⟩ := settleAndAnnounce_settles (s := s) (l := l) (m := m) (b := s.laneRec l)
    rw [hpol hm, hrec, if_neg hm]
  unfold State.lanesSettled
  obtain ⟨v, -, -, hf⟩ := forEach_turn (s := s) (f := fun s l => s.settleAndAnnounce l (s.laneRec l))
    (V := fun l s => (s.laneRec l, s.policy l)) (I := fun _ => True) (fun _ _ _ => trivial) hother trivial l
  simp only [Prod.mk.injEq] at hf
  obtain ⟨hrec, hpol⟩ := hf
  rw [hrec, hpol, settleAndAnnounce_settles.1, if_pos rfl]
  exact (settledState_idem ..).symm

theorem touches_lastReset : Touches announceParts s.tubeReset s.softReset := by
  rw [softReset_eq]
  exact touches_lanesSettled

theorem softReset_settled : (s.softReset.laneRec l).state =
    settledState (s.softReset.laneRec l) (s.softReset.policy l).readsOpen := lanesSettled_state

/-! ## Lanes -/

theorem frontReset_laneCore : s.frontReset.laneCore l =
    { s.laneCore l with holds := { (s.laneRec l).holds with node := (s.stationEntry l).isNone } } := by
  have hf := framed_resetBegun (s := s)
  have hentry : s.resetBegun.stationEntry l = s.stationEntry l :=
    stationEntry_congr fun i => by rw [hf.module]; exact ⟨rfl, rfl, rfl⟩
  unfold State.frontReset
  rw [touches_resetScreen.framed.laneCore, resetBus_laneCore, hf.laneCore, hf.holds, hentry]

theorem softReset_laneCore : s.softReset.laneCore l =
    { (s.laneCore l).ended s.lanes.operateSelect (s.resetCloses l) (s.resetPostsCash l) with holds := s.holdsReset l } := by
  have hfront := framed_frontReset (s := s)
  have hsel : s.frontReset.lanes.operateSelect = s.lanes.operateSelect := hfront .operateSelect (by decide)
  have hcarrier : s.cashReset.carrier l = s.carrier l :=
    ((touches_cashReset.framed.carrier l).trans (touches_moneyReset.framed.carrier l)).trans (hfront.carrier l)
  have hcash : s.cashReset.laneCore l = s.moneyReset.laneCore l := touches_cashReset.framed.laneCore l
  have htube : s.cashReset.resetTube.laneCore l = s.cashReset.carriersStopped.laneCore l := by
    rcases resetTube_cases (s := s.cashReset) with ⟨k, -, h⟩ | ⟨-, h⟩
    · rw [h, touches_releaseBlower.framed.laneCore]
      split
      · rw [touches_post.framed.laneCore]
      · rfl
    · rw [h]
  rw [touches_lastReset.framed.laneCore]
  unfold State.tubeReset
  rw [touches_resetAlarm.framed.laneCore, htube, carriersStopped_lane.2, ← laneCore_holds, hcarrier, hcash, ends_moneyReset.core,
    frontReset_laneCore, hsel]
  rfl

/-! ## Cassettes, the journal and the recycler -/

theorem softReset_cassette {c : CassetteId} : s.softReset.cassette c = s.cassetteReset c := by
  have hfront := framed_frontReset (s := s)
  have hx : s.moneyReset.cash.exchange = s.cash.exchange :=
    (touches_moneyReset.framed .exchange (by decide)).trans (hfront .exchange (by decide))
  rw [touches_lastReset.framed.cassette, touches_tubeReset.framed.cassette]
  have hmarked : s.moneyReset.cassette c = (s.cassette c).marked (s.resetUnreconciles c) := by
    rw [ends_moneyReset.cassette, hfront.cassette]
  unfold State.cashReset
  rw [touches_resetCaptures.framed.cassette, resetCash_cassette, hx, hmarked]
  unfold State.cassetteReset Cassette.marked
  dsimp only
  generalize s.cash.exchange.any (fun a => a.cassette == c) = e
  generalize s.resetUnreconciles c = r
  cases e with
  | false => cases r <;> simp
  | true => cases r <;> simp [Check.recomputed]

theorem softReset_reserved : s.softReset.journal.reserved =
    s.journal.reserved - (s.dispenses.length + s.sessions.length + s.captures.length) := by
  have hfront := framed_frontReset (s := s)
  have hmoney : s.moneyReset.journal.reserved = s.journal.reserved - (s.dispenses.length + s.sessions.length) := by
    rw [ends_moneyReset.reserved, hfront.reserved]
  have hcaptures : s.moneyReset.resetCash.captures = s.captures := by
    rw [touches_resetCash.framed.takenCaptures, touches_moneyReset.framed.takenCaptures, hfront.takenCaptures]
  rw [touches_lastReset.framed.reserved, touches_tubeReset.framed.reserved]
  unfold State.cashReset
  rw [ends_resetEnvelope.reserved, touches_resetCash.framed.reserved, hcaptures, hmoney, Nat.sub_sub]

theorem softReset_cash : s.softReset.cash.workQueue = [] ∧ s.softReset.cash.recycler = s.cash.recycler.rested
    ∧ s.softReset.cash.exchange = none := by
  have hfront := framed_frontReset (s := s)
  have hlast : Framed (.safe :: .captures :: .captured :: .reserved :: .loops :: .requests :: .carriers :: .blower ::
      .tubeSetting :: .outgoing :: holdParts) s.moneyReset.resetCash s.softReset :=
    (touches_resetCaptures.framed.mono.then (touches_tubeReset (s := s)).framed).then touches_lastReset.framed
  obtain ⟨hq, hr, hx⟩ := resetCash_cash (s := s.moneyReset)
  refine ⟨(hlast .workQueue (by decide)).trans hq, (hlast .recycler (by decide)).trans ?_,
    (hlast .exchange (by decide)).trans hx⟩
  exact (hr.trans ends_moneyReset.recycler).trans (hfront.rested)

/-! ## Nothing under way -/

theorem softReset_record (i : DispenseSlot) : s.softReset.recordAt i = none := by
  have hlast : Framed (.slots :: .occupied :: .denominations :: .loops :: .exchange :: .safe :: .captures :: .captured ::
      .cassettes :: .workQueue :: .recycler :: .carriers :: .requests :: .blower :: .tubeSetting :: .reserved :: .txns ::
      .profiles :: holdParts ++ frameParts) s.frontReset.resetDispenses s.softReset :=
    ((touches_resetSessions.framed.mono.then (touches_cashReset (s := s)).framed).then touches_tubeReset.framed).then
      touches_lastReset.framed
  rw [hlast.recordAt]
  obtain ⟨v, -, -, hf⟩ := forEach_turn (s := s.frontReset) (f := State.resetDispense) (V := fun i s => s.recordAt i)
    (I := fun _ => True) (fun _ _ _ => trivial) (fun s i j h => by rw [resetDispense_recordAt, if_neg h]) trivial i
  exact hf.trans (by rw [resetDispense_recordAt, if_pos rfl])

theorem softReset_session (l : Lane) : s.softReset.session l = none := by
  have hlast : Framed (.loops :: .exchange :: .safe :: .captures :: .captured :: .cassettes :: .workQueue :: .recycler ::
      .carriers :: .requests :: .blower :: .tubeSetting :: .reserved :: .outgoing :: holdParts) s.moneyReset s.softReset :=
    (touches_cashReset.framed.mono.then touches_tubeReset.framed).then touches_lastReset.framed
  rw [hlast.session]
  obtain ⟨v, -, -, hf⟩ := forEach_turn (s := s.frontReset.resetDispenses) (f := State.resetSession) (V := fun l s => s.session l)
    (I := fun _ => True) (fun _ _ _ => trivial) (fun s l m h => by rw [resetSession_session, if_neg h]) trivial l
  exact hf.trans (by rw [resetSession_session, if_pos rfl])

theorem closeSafe_safe {w : Cause} : (s.closeSafe w).envelope.safe = none := by
  unfold State.closeSafe
  split
  · dsimp only
    generalize hu : (s.mapEnvelope fun e => { e with safe := none }).record { kind := .safeClose, facts := [.cause w] } = u
    have hsafe : u.envelope.safe = none := by
      rw [← hu]
      exact touches_record.framed .safe (by decide)
    exact ((touches_send7 (s := u)).framed .safe (by decide)).trans hsafe
  · next h => exact Option.not_isSome_iff_eq_none.1 h

theorem softReset_envelope : (∀ l, s.softReset.capture l = none) ∧ s.softReset.envelope.safe = none := by
  have hlast : Framed (.loops :: .requests :: .carriers :: .blower :: .tubeSetting :: .outgoing :: holdParts) s.cashReset
      s.softReset := touches_tubeReset.framed.then touches_lastReset.framed
  have hsafe : s.cashReset.envelope.safe = none := by
    unfold State.cashReset State.resetEnvelope
    exact closeSafe_safe
  refine ⟨fun l => ?_, (hlast .safe (by decide)).trans hsafe⟩
  rw [hlast.capture]
  unfold State.cashReset State.resetEnvelope
  rw [touches_closeSafe.framed.capture]
  obtain ⟨v, -, -, hf⟩ := forEach_turn (s := s.moneyReset.resetCash) (f := fun s l => s.voidCapture l .reset false)
    (V := fun l s => s.capture l) (I := fun _ => True) (fun _ _ _ => trivial)
    (fun s l m h => by rw [voidCapture_capture (by decide), if_neg h]) trivial l
  exact hf.trans (by rw [voidCapture_capture (by decide), if_pos rfl])

end Sys2Proof.Machine
end

section
/-! SUPPORT. What a soft reset leaves of the Wall Bus Controller, the Tube Scheduler, the Alarm Supervisor and Lane Control (R182). -/

namespace Sys2Proof.Machine

open Sys2Proof

-- One thread, so that the check's memory holds the stacks.
set_option Elab.async false

variable {s t u : State} {l : Lane} {m : ModuleId} {ps : List Part}

/-! ## The Wall Bus Controller and the Order Screen -/

theorem frontReset_module : s.frontReset.module m = (s.module m).restarted := by
  unfold State.frontReset
  rw [touches_resetScreen.framed.module, resetBus_module, framed_resetBegun.module]

theorem softReset_module : s.softReset.module m = (s.module m).restarted := by
  rw [touches_endsReset.framed.module, frontReset_module]

theorem resetBus_quiet : s.resetBus.bus.restores = [] ∧ s.resetBus.bus.outstanding = none ∧ s.resetBus.bus.resend = none := by
  have hlast : Framed (.modules :: holdParts) s.busCleared.restoresEnded s.resetBus := by
    rw [resetBus_eq]
    exact framed_modulesRestarted.mono.then touches_evaluateNodes.framed
  have hended := (touches_restoresEnded (s := s.busCleared)).framed
  exact ⟨(hlast .restores (by decide)).trans restoresEnded_restores,
    (hlast .outstanding (by decide)).trans (hended .outstanding (by decide)),
    (hlast .resend (by decide)).trans (hended .resend (by decide))⟩

theorem softReset_bus : s.softReset.bus.restores = [] ∧ s.softReset.bus.outstanding = none ∧ s.softReset.bus.resend = none := by
  have hscreen := (touches_resetScreen (s := s.resetBegun.resetBus)).framed
  have hends := (touches_endsReset (s := s)).framed
  obtain ⟨hr, ho, hd⟩ := resetBus_quiet (s := s.resetBegun)
  have hasked : s.softReset.bus.outstanding.isSome = s.resetBegun.resetBus.bus.outstanding.isSome :=
    (hends .asked (by decide)).trans (hscreen .asked (by decide))
  have hdue : s.softReset.bus.resend.isSome = s.resetBegun.resetBus.bus.resend.isSome :=
    (hends .due (by decide)).trans (hscreen .due (by decide))
  rw [ho] at hasked
  rw [hd] at hdue
  exact ⟨((hends .restores (by decide)).trans (hscreen .restores (by decide))).trans hr,
    Option.isNone_iff_eq_none.1 (Option.isSome_eq_false_iff.1 hasked),
    Option.isNone_iff_eq_none.1 (Option.isSome_eq_false_iff.1 hdue)⟩

theorem softReset_screen : s.softReset.screen.consoles = .replicate 4 none ∧ s.softReset.screen.pairSlots = .replicate 6 none
    ∧ s.softReset.screen.managementSlot = none :=
  have h := (touches_endsReset (s := s)).framed
  ⟨h .consoles (by decide), h .pairSlots (by decide), h .managementSlot (by decide)⟩

/-! ## The Tube Scheduler -/

/-- What ends a movement of the blower. -/
theorem framed_blowerStopped : Framed [.blower, .tubeSetting, .outgoing, .journal, .sticky] s.carriersStopped s.resetTube := by
  rcases resetTube_cases (s := s) with ⟨k, -, h⟩ | ⟨-, h⟩
  · rw [h]
    exact (Touches.ite (fun _ => touches_post.mono) fun _ => .refl).then touches_releaseBlower |>.framed
  · rw [h]
    exact .refl

/-- From the Tube Scheduler's part on. -/
theorem framed_afterTube : Framed (.loops :: announceParts) s.cashReset.resetTube s.softReset :=
  touches_resetAlarm.framed.mono.then touches_lastReset.framed

/-- Up to the Tube Scheduler's part. -/
theorem framed_cashReset : Framed (beginningParts ++ [.cassettes, .denominations, .inDoubtLanes, .records, .names, .authority]
    ++ sessionParts ++ [.exchange, .safe, .captures, .captured]) s s.cashReset :=
  (framed_frontReset.mono.then touches_moneyReset.framed).then touches_cashReset.framed

theorem softReset_carrier : s.softReset.carrier l = (s.carrier l).stopped := by
  rw [framed_afterTube.carrier, framed_blowerStopped.carrier, carriersStopped_lane.1, framed_cashReset.carrier]

theorem softReset_requests : s.softReset.tube.requests = [] := by
  exact ((framed_afterTube .requests (by decide)).trans (framed_blowerStopped .requests (by decide))).trans
    carriersStopped_requests

theorem softReset_blowerKept (h : ∀ l, s.tube.blower ≠ .moving l) : s.softReset.tube.blower = s.tube.blower := by
  have hb : s.cashReset.tube.blower = s.tube.blower := framed_cashReset .blower (by decide)
  have hlast : s.softReset.tube.blower = s.cashReset.resetTube.tube.blower := framed_afterTube .blower (by decide)
  rcases resetTube_cases (s := s.cashReset) with ⟨k, hk, -⟩ | ⟨-, he⟩
  · exact absurd (hb.symm.trans hk) (h k)
  · rw [hlast, he]
    exact (touches_carriersStopped.framed .blower (by decide)).trans hb

theorem soundTables_resetBegun (h : s.soundTables = true) : s.resetBegun.soundTables = true :=
  sound_of_framed framed_resetBegun h (sound_of_apart (by decide))

theorem blowerEntry_congr (h : ∀ i, (t.module i).node = (s.module i).node ∧ (t.module i).kind = (s.module i).kind) :
    t.blowerEntry = s.blowerEntry := by
  unfold State.blowerEntry State.findModule
  congr 1
  funext i
  obtain ⟨hn, hk⟩ := h i
  change (((t.module i).node != 0) && ((t.module i).kind == .blower)) = (((s.module i).node != 0) && ((s.module i).kind == .blower))
  rw [hn, hk]

/-- A movement ends, with BLOWER STOP placed where there is a cabinet to order. -/
theorem softReset_movement (h : s.tube.blower = .moving l) : ∃ w : State, w.tube.blower = .moving l
    ∧ w.tube.setting = s.tube.setting ∧ w.now = s.now ∧ (s.soundTables = true → w.soundTables = true)
    ∧ s.cashReset.resetTube = w.releaseBlower l
    ∧ ∀ m ∈ s.blowerEntry, s.orderTo m .tube .blowerStop ∈ w.bus.outgoing := by
  have hf : Framed _ s s.cashReset.carriersStopped :=
    framed_cashReset.mono (ps := beginningParts ++ [.cassettes, .denominations, .inDoubtLanes, .records, .names, .authority,
      .exchange, .safe, .captures, .captured, .requests, .carriers] ++ sessionParts) |>.then touches_carriersStopped.framed
  have hb : s.cashReset.tube.blower = s.tube.blower := framed_cashReset .blower (by decide)
  have hsteady : s.soundTables = true → s.cashReset.carriersStopped.soundTables = true := fun hs =>
    ((steady_cashReset.trans steady_carriersStopped).sound (soundTables_resetBegun hs)).1
  rcases resetTube_cases (s := s.cashReset) with ⟨k, hk, he⟩ | ⟨hn, -⟩
  · obtain rfl : k = l := Blower.moving.inj (hk.symm.trans (hb.trans h))
    have hmod : ∀ i, s.cashReset.carriersStopped.module i = (s.module i).restarted := fun i => by
      rw [touches_carriersStopped.framed.module, touches_cashReset.framed.module, touches_moneyReset.framed.module,
        frontReset_module]
    have hroom : s.cashReset.carriersStopped.bus.outgoing.length < 48 := by
      have hsame : s.cashReset.carriersStopped.bus.outgoing = s.cashReset.bus.outgoing :=
        touches_carriersStopped.framed .outgoing (by decide)
      rw [hsame]
      exact cashReset_room
    generalize s.cashReset.carriersStopped = v at hf hsteady he hmod hroom
    have hpost : Framed [.outgoing, .journal, .sticky] v
        (if v.blowerUsable then v.post v.blowerEntry .tube .blowerStop else v) :=
      (Touches.ite (fun _ => touches_post) fun _ => .refl).framed
    refine ⟨_, ?_, ?_, ?_, fun hs => ?_, he, fun m hm => ?_⟩
    · exact ((hpost .blower (by decide)).trans (hf .blower (by decide))).trans h
    · exact (hpost .tubeSetting (by decide)).trans (hf .tubeSetting (by decide))
    · exact hpost.now.trans hf.now
    · exact sound_of_framed hpost (hsteady hs) (sound_of_apart (by decide))
    · have hentry : v.blowerEntry = some m := (blowerEntry_congr fun i => by
        obtain ⟨hnode, hkind, -⟩ := restarted_named (s.module i)
        rw [hmod]
        exact ⟨hnode, hkind⟩).trans hm
      have husable : v.blowerUsable = true := by
        have hactive : v.bus.modules[m].health = .active := (congrArg Module.health (hmod m)).trans (restarted_health _)
        unfold State.blowerUsable State.entryReachable State.healthOf
        rw [hentry]
        simp only [Option.map_some, hactive]
        rfl
      rw [if_pos husable, hentry, ← orderTo_congr (s := s) (t := v) (by rw [hmod]; exact (restarted_named _).1)]
      exact post_placed hroom
  · exact absurd (hb.trans h) (hn l)

theorem softReset_blowerRests (h : s.tube.blower = .moving l) (hs : s.soundTables = true) : s.softReset.tube.blower =
    if s.tube.setting.value = 0 then .idle else .resting ⟨s.now, s.tube.setting.value⟩ := by
  obtain ⟨w, hw, hset, hnow, hsound, he, -⟩ := softReset_movement h
  have hcheck : w.tube.setting.check = {} := soundTables_iff.1 (hsound hs) .tubeSetting
  have hlast : s.softReset.tube.blower = s.cashReset.resetTube.tube.blower := framed_afterTube .blower (by decide)
  rw [hlast, he, releaseBlower_blower hw hcheck, hset, hnow]

theorem softReset_blowerStop (h : s.tube.blower = .moving l) (hm : m ∈ s.blowerEntry) :
    s.orderTo m .tube .blowerStop ∈ s.softReset.bus.outgoing := by
  obtain ⟨w, -, -, -, -, he, hplaced⟩ := softReset_movement h
  have hlast : s.softReset.bus.outgoing = s.cashReset.resetTube.bus.outgoing := framed_afterTube .outgoing (by decide)
  have hrelease : (w.releaseBlower l).bus.outgoing = w.bus.outgoing := touches_releaseBlower.framed .outgoing (by decide)
  rw [hlast, he, hrelease]
  exact hplaced m hm

/-! ## The Alarm Supervisor -/

theorem softReset_loop {i : LoopId} : s.softReset.loop i = s.loopReset i := by
  have hf : Framed (beginningParts ++ [.cassettes, .denominations, .inDoubtLanes, .records, .names, .authority] ++ sessionParts
      ++ [.exchange, .safe, .captures, .captured, .carriers, .tubeSetting, .requests, .blower]) s s.cashReset.resetTube :=
    framed_cashReset.mono.then touches_resetTube.framed
  have hlast : s.softReset.loop i = s.tubeReset.loop i := touches_lastReset.framed.loop i
  rw [hlast]
  unfold State.tubeReset
  rw [resetAlarm_loop]
  exact loopReset_congr (hf.loop i) hf.now

end Sys2Proof.Machine
end

section
/-! SUPPORT. The state that RESTART leaves: its answer, the part state and the receive buffer (R182). -/

namespace Sys2Proof.Machine

open Sys2Proof

-- One thread, so that the check's memory holds the stacks.
set_option Elab.async false

variable {s t u : State} {l : Lane} {m : ModuleId} {ps : List Part} {h : Sender}

/-! ## Lane Control's policies -/

/-- Copies that are OK before and after are the same where their stored fields are. -/
theorem Framed.lanesKept (h : Framed ps s t) (hs : s.soundTables = true) (ht : t.soundTables = true)
    (hp : apart [.policies, .writeSelect, .operateSelect] ps = true := by decide) :
    t.lanes = { s.lanes with records := t.lanes.records } := by
  have k := fun p hq => h p (not_mem_of_apart hp hq)
  have hcopy : ∀ p l, t.lanes.copy p l = s.lanes.copy p l := fun p l => by
    have hc : ({ t.lanes.copy p l with check := {} } : PolicyCopy) = { s.lanes.copy p l with check := {} } :=
      congrFun (congrFun (k .policies (by decide)) p) l
    have hsc := sound_copy hs (p := p) (l := l)
    have htc := sound_copy ht (p := p) (l := l)
    generalize t.lanes.copy p l = x at *
    generalize s.lanes.copy p l = y at *
    cases x
    cases y
    simp_all
  have hday : t.lanes.dayCopies = s.lanes.dayCopies := Vector.ext fun i hi => hcopy .day ⟨i, hi⟩
  have hnight : t.lanes.nightCopies = s.lanes.nightCopies := Vector.ext fun i hi => hcopy .night ⟨i, hi⟩
  have hwrite : t.lanes.writeSelect = s.lanes.writeSelect := k .writeSelect (by decide)
  have hoperate : t.lanes.operateSelect = s.lanes.operateSelect := k .operateSelect (by decide)
  dsimp only
  rw [← hday, ← hnight, ← hwrite, ← hoperate]

/-! ## The order -/

/-- The state that RESTART leaves. -/
def State.restarted (s : State) (h : Sender) : State :=
  ((s.takeFrame h .restart).softReset.respond h .restart .done .empty).send7 (.partState .suspended)

theorem restart_next (hh : s.supervised h) : exec (.restart h) s = .next (s.restarted h) := by
  obtain ⟨hst, hused⟩ := hh
  have hr : s.restart h = s.restarted h := by
    unfold State.restart
    rw [if_pos hused]
    dsimp only
    rw [if_pos hst]
    rfl
  rw [← hr]
  rfl

theorem framed_restarted : Framed [.reports, .held, .sticky] (s.takeFrame h .restart).softReset (s.restarted h) :=
  touches_respond.framed.mono.then touches_send7.framed

theorem framed_taken : Framed [.rx, .held] s (s.takeFrame h .restart) := touches_takeFrame.framed

theorem framed_restart : Framed (.held :: .sticky :: resetParts) s (s.restarted h) :=
  (framed_taken.mono.then framed_softReset).then framed_restarted

/-- The response and the report of the part's state close the queue (R182). -/
theorem restarted_told :
    [responseTo h .restart .done .empty, reportItem .supervisor 0 (.partState .suspended)] <:+ (s.restarted h).link.reports
      ∨ [responseTo h .restart .done .empty] <:+ (s.restarted h).link.reports ∧ 64 ≤ (s.restarted h).link.used
        ∧ (s.restarted h).mgmt.sticky.reportLost = true := by
  unfold State.restarted
  generalize (s.takeFrame h .restart).softReset = u
  unfold State.send7 State.send
  split
  · exact .inl ⟨u.link.reports, (List.append_assoc u.link.reports [responseTo h .restart .done .empty]
      [reportItem .supervisor 0 (.partState .suspended)]).symm⟩
  · next hfull => exact .inr ⟨List.suffix_append .., Nat.le_of_not_lt hfull, rfl⟩

theorem Framed.received (h : Framed ps s t) (hp : .rx ∉ ps := by decide) :
    t.link.rxBuffer = s.link.rxBuffer ∧ t.link.rxPartial = s.link.rxPartial :=
  have hrx := h .rx hp
  ⟨(congrArg (fun x : List Byte × List ConsoleFrame × List Byte => x.2.1) hrx :),
    (congrArg (fun x : List Byte × List ConsoleFrame × List Byte => x.1) hrx :)⟩

/-- The receive buffer is empty, and the part is SUSPENDED (R182). -/
theorem softReset_management : s.softReset.link.rxBuffer = [] ∧ s.softReset.link.rxPartial = []
    ∧ s.softReset.mgmt.partState = .suspended ∧ s.softReset.mgmt.goPending = false := by
  have hf := (touches_resetSteps (s := s)).framed
  have hbegun : s.resetBegun.link.rxBuffer = [] ∧ s.resetBegun.link.rxPartial = [] := by
    unfold State.resetBegun
    generalize hv : (s.mapLink fun k => { k with reports := [], rxBuffer := [], rxPartial := [] }) = v
    have hr := (touches_record (s := v) (e := { kind := .reset })).framed.received
    have hb : v.link.rxBuffer = [] := by rw [← hv]; rfl
    have hp : v.link.rxPartial = [] := by rw [← hv]; rfl
    exact ⟨hr.1.trans hb, hr.2.trans hp⟩
  exact ⟨hf.received.1.trans hbegun.1, hf.received.2.trans hbegun.2, hf .partState (by decide), hf .goPending (by decide)⟩

end Sys2Proof.Machine
end

section
/-! SUPPORT. What RESTART leaves of the journal and of the sticky causes (R170, R178). -/

namespace Sys2Proof.Machine

open Sys2Proof

-- One thread, so that the check's memory holds the stacks.
set_option Elab.async false

variable {s t u : State} {l : Lane} {m : ModuleId} {ps : List Part} {h : Sender}

/-! ## The journal and the sticky causes -/

theorem tallies_respond {k : OrderKind} {c : Code} {b : ResponseBody} : Tallies s (s.respond h k c b) := by
  refine ⟨?_, .inl, Nat.min_le_left .., .inl, fun _ => id⟩
  simp only [State.respond, State.mapLink, Link.used, List.length_append, List.length_singleton]
  omega

theorem steady_respond {k : OrderKind} {c : Code} {b : ResponseBody} : Steady s (s.respond h k c b) :=
  ⟨tallies_respond, fun hs => ⟨sound_of_framed touches_respond.framed hs (sound_of_apart (by decide)), rfl⟩⟩

theorem steady_restarted : Steady (s.takeFrame h .restart).resetBegun (s.restarted h) := by
  have hreset := steady_softReset (s := s.takeFrame h .restart)
  unfold State.restarted
  generalize (s.takeFrame h .restart).softReset = u at hreset ⊢
  exact (hreset.trans steady_respond).trans steady_send7

theorem grows_restarted : (s.takeFrame h .restart).resetBegun.journal.ring <+: (s.restarted h).journal.ring := by
  have hsteps := (touches_resetSteps (s := s.takeFrame h .restart)).grows.records
  unfold State.restarted
  generalize (s.takeFrame h .restart).softReset = u at hsteps ⊢
  exact (hsteps.trans touches_respond.grows.records).trans touches_send7.grows.records

/-- A record follows what the ring held, or is dropped and counted (R171). -/
theorem record_journal {e : Entry} : (s.journal.reserved < s.journal.free → (s.record e).journal.ring =
      s.journal.ring ++ [⟨s.journal.nextSeq, s.now, s.stamped e⟩] ∧ (s.record e).journal.overrun = s.journal.overrun)
    ∧ (s.journal.free ≤ s.journal.reserved → (s.record e).journal.ring = s.journal.ring
      ∧ (s.record e).journal.overrun = min (s.journal.overrun + 1) 65535) := by
  unfold State.record
  constructor
  · intro hfree
    rw [if_pos hfree]
    exact ⟨rfl, rfl⟩
  · intro hfull
    rw [if_neg (Nat.not_lt.2 hfull)]
    exact ⟨rfl, rfl⟩

theorem resetBegun_journal : (s.journal.reserved < s.journal.free → s.resetBegun.journal.ring =
      s.journal.ring ++ [⟨s.journal.nextSeq, s.now, s.stamped { kind := .reset }⟩]
        ∧ s.resetBegun.journal.overrun = s.journal.overrun)
    ∧ (s.journal.free ≤ s.journal.reserved → s.resetBegun.journal.ring = s.journal.ring
      ∧ s.resetBegun.journal.overrun = min (s.journal.overrun + 1) 65535) :=
  record_journal (s := s.mapLink fun k => { k with reports := [], rxBuffer := [], rxPartial := [] }) (e := { kind := .reset })

/-- The causes that a reset clears come back for a reason alone (R178). -/
theorem restarted_causes : (s.restarted h).mgmt.sticky.nodeWatch = false ∧ (s.restarted h).mgmt.sticky.cassetteLow = false
    ∧ ((s.restarted h).link.used < 64 → (s.restarted h).mgmt.sticky.reportLost = false)
    ∧ ((s.restarted h).journal.overrun = s.journal.overrun → (s.restarted h).journal.overrun < 65535 →
      (s.restarted h).mgmt.sticky.journalOverrun = false)
    ∧ (s.soundTables = true → (s.restarted h).mgmt.sticky.tableFault = false) := by
  have hf : Framed (.held :: stepParts) (s.takeFrame h .restart).resetBegun (s.restarted h) :=
    touches_resetSteps.framed.mono.then framed_restarted
  obtain ⟨ht, hsound⟩ := steady_restarted (s := s) (h := h)
  refine ⟨hf .watch (by decide), hf .low (by decide), fun hroom => ?_, fun hsame hless => ?_, fun hs => ?_⟩
  · by_contra hlost
    rcases ht.lost ((Bool.not_eq_false _).mp hlost) with hb | hb
    · cases hb
    · omega
  · by_contra hdropped
    obtain ⟨hroom, hfull⟩ := resetBegun_journal (s := s.takeFrame h .restart)
    have hover := ht.overrun
    have hnow : (s.takeFrame h .restart).journal = s.journal := rfl
    rw [hnow] at hroom hfull
    rcases ht.dropped ((Bool.not_eq_false _).mp hdropped) with hb | hb
    · cases hb
    · by_cases hfree : s.journal.reserved < s.journal.free
      · have := (hroom hfree).2
        omega
      · have := (hfull (Nat.le_of_not_lt hfree)).2
        omega
  · exact (hsound (soundTables_resetBegun hs)).2

end Sys2Proof.Machine
end

section
/-! PROOFS. RESTART makes a soft reset. -/

namespace Sys2Proof.Machine

open Sys2Proof

-- One thread, so that the check's memory holds the stacks.
set_option Elab.async false

variable {s t u : State} {l : Lane} {m : ModuleId} {ps : List Part} {h : Sender}

/-! ## Parts that are more than one field -/

theorem Framed.envelopeFigures (h : Framed ps s t) (hp : .envelopes ∉ ps := by decide) :
    t.envelope.counter = s.envelope.counter ∧ t.envelope.count = s.envelope.count :=
  have hk := h .envelopes hp
  ⟨(congrArg (fun x : Nat × Nat => x.1) hk :), (congrArg (fun x : Nat × Nat => x.2) hk :)⟩

theorem Framed.ringPos (h : Framed ps s t) (hp : .line ∉ ps := by decide) : t.bus.ringPos = s.bus.ringPos :=
  (congrArg (fun x : Nat × List Byte => x.1) (h .line hp) :)

theorem Framed.alarmLatches (h : Framed ps s t) (hp : .latches ∉ ps := by decide) : t.alarm.duress = s.alarm.duress
    ∧ t.alarm.lockdown = s.alarm.lockdown ∧ t.alarm.silentOutput = s.alarm.silentOutput
    ∧ t.alarm.localOutput = s.alarm.localOutput :=
  have hk := h .latches hp
  have hset := congrArg Prod.fst hk
  have houtput := congrArg Prod.snd hk
  ⟨(congrArg (fun x : Bool × Bool => x.1) hset :), (congrArg (fun x : Bool × Bool => x.2) hset :),
    (congrArg (fun x : Bool × Bool => x.1) houtput :), (congrArg (fun x : Bool × Bool => x.2) houtput :)⟩

/-! ## Lanes -/

/-- A lane but for its state (R5, R16). -/
theorem restarted_lane : ((s.restarted h).laneRec l).holds = s.holdsReset l
    ∧ ((s.restarted h).laneRec l).txn = (if s.resetCloses l then none else (s.laneRec l).txn)
    ∧ ((s.restarted h).laneRec l).switchPending = ((s.laneRec l).switchPending && !s.resetCloses l)
    ∧ ((s.restarted h).laneRec l).profile = if (s.laneRec l).switchPending = true ∧ s.resetCloses l = true then
        s.lanes.operateSelect else (s.laneRec l).profile := by
  have hcore : (s.restarted h).laneCore l =
      { (s.laneCore l).ended s.lanes.operateSelect (s.resetCloses l) (s.resetPostsCash l) with holds := s.holdsReset l } := by
    have hlanes : (s.takeFrame h .restart).lanes = s.lanes := rfl
    have hcore : (s.takeFrame h .restart).laneCore l = s.laneCore l := rfl
    have hcloses : (s.takeFrame h .restart).resetCloses l = s.resetCloses l := rfl
    have hposts : (s.takeFrame h .restart).resetPostsCash l = s.resetPostsCash l := rfl
    have hholds : (s.takeFrame h .restart).holdsReset l = s.holdsReset l := rfl
    rw [framed_restarted.laneCore, softReset_laneCore, hlanes, hcore, hcloses, hposts, hholds]
  unfold State.laneCore at hcore
  generalize (s.restarted h).laneRec l = x at hcore ⊢
  refine ⟨(congrArg LaneRecord.holds hcore :), (congrArg LaneRecord.txn hcore :), (congrArg LaneRecord.switchPending hcore :), ?_⟩
  have hprofile := (congrArg LaneRecord.profile hcore :)
  simp only [LaneRecord.ended, Bool.and_eq_true] at hprofile
  exact hprofile

theorem restarted_settled : ((s.restarted h).laneRec l).state =
    settledState ((s.restarted h).laneRec l) ((s.restarted h).policy l).readsOpen := by
  rw [framed_restarted.laneRec, framed_restarted.policy]
  exact softReset_settled

theorem restarted_closed (hc : (s.laneRec l).state = .closed) : ((s.restarted h).laneRec l).state = .closed := by
  refine steady_restarted.tallies.closed l ?_
  rw [framed_resetBegun.laneRec]
  exact hc

/-- The lane of a dispense record loses its transaction, and gains CASH where the dispense was under way (R72). -/
theorem restarted_dispense {i : DispenseSlot} {r : DispenseRecord} (hr : s.recordAt i = some r) :
    ((s.restarted h).laneRec r.lane).txn = none
      ∧ (r.state ≠ .queued → ((s.restarted h).laneRec r.lane).holds.cash = true) := by
  obtain ⟨hholds, htxn, -, -⟩ := restarted_lane (s := s) (l := r.lane) (h := h)
  have hmem := mem_dispenses hr
  refine ⟨?_, fun hq => ?_⟩
  · have hcloses : s.resetCloses r.lane = true := by
      unfold State.resetCloses
      rw [Bool.or_eq_true, List.any_eq_true]
      exact .inl ⟨r, hmem, beq_self_eq_true _⟩
    rw [htxn, if_pos hcloses]
  · have hposts : s.resetPostsCash r.lane = true := by
      unfold State.resetPostsCash
      rw [Bool.or_eq_true, List.any_eq_true]
      exact .inl ⟨r, hmem, by simp [hq]⟩
    rw [hholds]
    unfold State.holdsReset
    dsimp only
    rw [hposts, Bool.or_true]

/-- The lane of a session loses its transaction, and gains CASH where notes of a running session were listed (R110). -/
theorem restarted_session {x : Session} (hx : s.session l = some x) : ((s.restarted h).laneRec l).txn = none
    ∧ (x.running = true → x.transit ≠ [] → ((s.restarted h).laneRec l).holds.cash = true) := by
  obtain ⟨hholds, htxn, -, -⟩ := restarted_lane (s := s) (l := l) (h := h)
  refine ⟨?_, fun hrun hnotes => ?_⟩
  · have hcloses : s.resetCloses l = true := by
      unfold State.resetCloses
      rw [hx]
      exact Bool.or_true _
    rw [htxn, if_pos hcloses]
  · have hposts : s.resetPostsCash l = true := by
      unfold State.resetPostsCash
      rw [hx, Bool.or_eq_true]
      exact .inr (by simp [hrun, hnotes])
    rw [hholds]
    unfold State.holdsReset
    dsimp only
    rw [hposts, Bool.or_true]

/-- What stays of a lane's reasons, and what joins them (R16). -/
theorem restarted_holds :
    ((s.laneRec l).holds.loop = true → ((s.restarted h).laneRec l).holds.loop = true)
    ∧ ((s.laneRec l).holds.carrier = true ∨ (s.carrier l).moving = true → ((s.restarted h).laneRec l).holds.carrier = true)
    ∧ ((s.laneRec l).holds.cash = true → ((s.restarted h).laneRec l).holds.cash = true)
    ∧ ((s.laneRec l).holds.envelope = true → ((s.restarted h).laneRec l).holds.envelope = true) := by
  obtain ⟨hholds, -, -, -⟩ := restarted_lane (s := s) (l := l) (h := h)
  rw [hholds]
  refine ⟨id, fun hc => ?_, fun hc => ?_, id⟩
  · simpa [State.holdsReset] using hc
  · simp [State.holdsReset, hc]

/-- A movement of the blower ends (R138). -/
theorem restarted_blower (hb : s.tube.blower = .moving l) :
    (s.soundTables = true → (s.restarted h).tube.blower =
      (if s.tube.setting.value = 0 then .idle else .resting ⟨s.now, s.tube.setting.value⟩))
    ∧ ∀ m ∈ s.blowerEntry, s.orderTo m .tube .blowerStop ∈ (s.restarted h).bus.outgoing := by
  have hlast := framed_restarted (s := s) (h := h)
  have hout : (s.restarted h).bus.outgoing = (s.takeFrame h .restart).softReset.bus.outgoing := hlast .outgoing (by decide)
  refine ⟨fun hs => (hlast .blower (by decide)).trans (softReset_blowerRests (s := s.takeFrame h .restart) hb hs),
    fun m hm => ?_⟩
  rw [hout]
  exact softReset_blowerStop (s := s.takeFrame h .restart) hb hm

/-- RESET follows what the ring held, or is dropped and counted (R170, R182). -/
theorem restarted_journal : (s.journal.reserved < s.journal.free → s.journal.ring ++
      [⟨s.journal.nextSeq, s.now, s.stamped { kind := .reset }⟩] <+: (s.restarted h).journal.ring)
    ∧ (s.journal.free ≤ s.journal.reserved → s.journal.ring <+: (s.restarted h).journal.ring
      ∧ min (s.journal.overrun + 1) 65535 ≤ (s.restarted h).journal.overrun) := by
  obtain ⟨hroom, hfull⟩ := resetBegun_journal (s := s.takeFrame h .restart)
  have hgrows := grows_restarted (s := s) (h := h)
  have htally := (steady_restarted (s := s) (h := h)).tallies.overrun
  refine ⟨fun hfree => ?_, fun hnone => ?_⟩
  · rw [(hroom hfree).1] at hgrows
    exact hgrows
  · obtain ⟨hring, hover⟩ := hfull hnone
    rw [hring] at hgrows
    rw [hover, Nat.min_assoc, Nat.min_self] at htally
    exact ⟨hgrows, htally⟩

/-- No console is signed on and no half is stored. -/
theorem restarted_screen : (∀ c, (s.restarted h).binding c = none) ∧ (∀ l : Lane, (s.restarted h).screen.pairSlots[l] = none)
    ∧ (s.restarted h).screen.managementSlot = none := by
  have hlast := framed_restarted (s := s) (h := h)
  obtain ⟨hconsoles, hslots, hmgmt⟩ := softReset_screen (s := s.takeFrame h .restart)
  have hc : (s.restarted h).screen.consoles = .replicate 4 none := (hlast .consoles (by decide)).trans hconsoles
  have hp : (s.restarted h).screen.pairSlots = .replicate 6 none := (hlast .pairSlots (by decide)).trans hslots
  refine ⟨fun c => ?_, fun l => ?_, (hlast .managementSlot (by decide)).trans hmgmt⟩
  · unfold State.binding
    rw [hc]
    simp
  · rw [hp]
    simp

/-- Settles O48, block by block: the outcomes of dispenses, sessions and captures one after the other, then what follows them. -/
theorem restartResolvesEverything : Obligations.RestartResolvesEverything := by
  unfold Obligations.RestartResolvesEverything
  refine ⟨fun s h hh => ?nothingLeft, fun s h hh => ?journal, fun s h hh => ?movements, fun s h hh => ?lanes⟩
  all_goals have hlast := framed_restarted (s := s) (h := h)
  all_goals have hall := framed_restart (s := s) (h := h)
  case nothingLeft =>
    obtain ⟨hrx, hpartial, hpart, hgo⟩ := softReset_management (s := s.takeFrame h .restart)
    obtain ⟨hwork, hrecycler, hexchange⟩ := softReset_cash (s := s.takeFrame h .restart)
    obtain ⟨hcaptures, hsafe⟩ := softReset_envelope (s := s.takeFrame h .restart)
    obtain ⟨hbinding, hslots, hmgmt⟩ := restarted_screen (s := s) (h := h)
    obtain ⟨hrestores, hout, hresend⟩ := softReset_bus (s := s.takeFrame h .restart)
    obtain ⟨hcounter, hcount⟩ := hall.envelopeFigures
    obtain ⟨hduress, hlockdown, hsilent, hlocal⟩ := hall.alarmLatches
    obtain ⟨hrxr, hpartialr⟩ := hlast.received
    exact ⟨_, restart_next hh, restarted_told, hrxr.trans hrx, hpartialr.trans hpartial,
      (hlast .partState (by decide)).trans hpart, (hlast .goPending (by decide)).trans hgo, hall .time (by decide),
      fun i => (hlast.recordAt i).trans (softReset_record i), fun l => (hlast.session l).trans (softReset_session l),
      fun l => (hlast.capture l).trans (hcaptures l), hlast.reserved.trans softReset_reserved,
      (hlast .requests (by decide)).trans softReset_requests, (hlast .workQueue (by decide)).trans hwork,
      (hlast .recycler (by decide)).trans hrecycler, (hlast .exchange (by decide)).trans hexchange,
      (hlast .safe (by decide)).trans hsafe, hcounter, hcount, hbinding, hslots, hmgmt, hall .rateWindows (by decide),
      (hlast .outstanding (by decide)).trans hout, (hlast .resend (by decide)).trans hresend,
      (hlast .restores (by decide)).trans hrestores, hall.ringPos, hall .busSetting (by decide),
      fun m => (hlast.module m).trans softReset_module, hduress, hlockdown, hsilent, hlocal, hall.writeSelect, hall.operateSelect,
      hall .pending (by decide)⟩
  case journal =>
    obtain ⟨hroom, hfull⟩ := restarted_journal (s := s) (h := h)
    exact ⟨_, restart_next hh, hroom, hfull, restarted_causes⟩
  case movements =>
    refine ⟨_, restart_next hh, fun i => (hlast.loop i).trans softReset_loop, fun l => (hlast.carrier l).trans softReset_carrier,
      fun l hm => ?_, fun hb => (hlast .blower (by decide)).trans (softReset_blowerKept hb), fun l hb => restarted_blower hb⟩
    obtain ⟨-, hcarrier, -, -⟩ := restarted_holds (s := s) (l := l) (h := h)
    exact hcarrier (.inr hm)
  case lanes =>
    have hlane := fun l => restarted_lane (s := s) (l := l) (h := h)
    have hholds := fun l => restarted_holds (s := s) (l := l) (h := h)
    refine ⟨_, restart_next hh, fun l => restarted_settled, fun l => restarted_closed, fun l hn => ?none, fun l hl => ?loop,
      fun l hl => ?carrier, fun l hl => ?cash, fun l hl => ?envelope, fun l => ?holds, fun l => ?txn, fun l => ?pending,
      fun l => ?profile, ?policies, fun c => (hlast.cassette c).trans softReset_cassette, fun i r hr => restarted_dispense hr,
      fun l x hx => restarted_session hx⟩
    case policies =>
      exact hall.policiesKept (hs := fun hs => hall.lanesKept hs (steady_restarted.sound (soundTables_resetBegun hs)).1)
    all_goals
      obtain ⟨hreasons, htxn, hpending, hprofile⟩ := hlane l
      obtain ⟨hloop, hcarrier, hcash, henvelope⟩ := hholds l
    case none => rw [htxn, hn, ite_self]
    case loop => exact hloop hl
    case carrier => exact hcarrier (.inl hl)
    case cash => exact hcash hl
    case envelope => exact henvelope hl
    case holds => exact hreasons
    case txn => exact htxn
    case pending => exact hpending
    case profile => exact hprofile

end Sys2Proof.Machine
end

section
/-! PROOFS. Halves that expire, and management halves stored (O50, O41). -/

namespace Sys2Proof.Machine

open Sys2Proof

-- One thread, so that the check's memory holds the stacks.
set_option Elab.async false

section Halves

variable {s : State} {l : Lane}

/-- A timer whose age has reached its duration is due. -/
theorem timerDue_some {x : Timer} {now : Time} (h : x.duration ≤ age now x.start) : timerDue (some x) now = true :=
  decide_eq_true h

theorem pairExpired_event {p : PairHalf} (hp : s.screen.pairSlots[l] = some p) (hd : 1000 * p.window ≤ age s.now p.arrival) :
    Event s (s.setPair l none) (s.pairExpired l) (copied (.console p.station) p.tag .pairExpired .pairExpired)
      [s.stamped (p.entry l .pairExpired)] := by
  unfold State.pairExpired
  rw [hp]
  dsimp only
  rw [if_pos (timerDue_some hd)]
  exact ((Event.refl.mapScreen _).record _).sendCopied _ _ _ _

theorem managementPairExpired_event {p : MgmtHalf} (hp : s.screen.managementSlot = some p)
    (hd : 1000 * p.window ≤ age s.now p.arrival) :
    Event s (s.mapScreen fun k => { k with managementSlot := none }) s.managementPairExpired
      [reportItem .supervisor p.tag .pairExpired]
      [s.stamped { kind := .pairExpired, station := 7, facts := [.tag p.tag] }] := by
  unfold State.managementPairExpired
  rw [hp]
  dsimp only
  rw [if_pos (timerDue_some hd)]
  exact ((Event.refl.mapScreen _).record _).send _ _ _

/-- An older management half broken, or nothing done (R35). -/
def State.olderBroken (s : State) : State :=
  match s.screen.managementSlot with
  | none => s
  | some old => (s.record { kind := .pairBroken, station := 7, facts := [.tag old.tag] }).send .supervisor old.tag .brokenPair

theorem olderBroken_event (s : State) :
    Event s s s.olderBroken (s.screen.managementSlot.map fun o => reportItem .supervisor o.tag .brokenPair).toList
      (s.screen.managementSlot.map fun o =>
        s.stamped { kind := .pairBroken, station := 7, facts := [.tag o.tag] }).toList := by
  unfold State.olderBroken
  cases s.screen.managementSlot with
  | none => exact Event.refl
  | some old => exact (Event.refl.record _).send _ _ _

theorem storeHalf_eq (s : State) (op : MgmtOp) (n : Nat) : s.storeHalf op n =
    let u := s.olderBroken.checkScreening
    answer ((u.mapScreen fun k => { k with managementSlot := some ⟨op, n, u.now, u.screening.pairWindow⟩ }).record
      { kind := .pairFirst, station := 7, facts := [.tag n] }) .pairWait := rfl

/-- The order that stores a management half, its tables sound: the older half broken, the new one stored with its record. -/
theorem storeHalf_event {op : MgmtOp} {n : Nat} (hs : s.soundTables = true) :
    ∃ a, s.storeHalf op n = ⟨a, .pairWait, .empty⟩ ∧
      Event s (s.mapScreen fun k => { k with managementSlot := some ⟨op, n, s.now, s.screen.setting.pairWindow⟩ }) a
        (s.screen.managementSlot.map fun o => reportItem .supervisor o.tag .brokenPair).toList
        ((s.screen.managementSlot.map fun o =>
            s.stamped { kind := .pairBroken, station := 7, facts := [.tag o.tag] }).toList
          ++ [s.stamped { kind := .pairFirst, station := 7, facts := [.tag n] }]) := by
  have he := olderBroken_event s
  have hu : s.olderBroken.soundTables = true := (soundTables_of_logsOnly he.state).trans hs
  have hnow : s.olderBroken.now = s.now := he.writes.clock
  have hset : s.olderBroken.screen.setting = s.screen.setting := by rw [he.state]; rfl
  refine ⟨_, storeHalf_eq s op n, ?_⟩
  rw [checkScreening_sound hu, screening_sound hu, hnow, hset]
  exact (he.mapScreen _).record _

end Halves

/-- Settles O50: each expiry is one event, whose core is the slot emptied. -/
theorem pairHalvesExpire : Obligations.PairHalvesExpire := by
  unfold Obligations.PairHalvesExpire
  refine ⟨fun s l p hp hd => ?_, fun s p hp hd => ?_⟩
  · have he := pairExpired_event hp hd
    exact ⟨_, rfl, he.state, he.noted⟩
  · have he := managementPairExpired_event hp hd
    exact ⟨_, rfl, he.state, he.noted⟩

/-- Settles O41: the three orders store their half alike. -/
theorem managementHalvesAreStored : Obligations.ManagementHalvesAreStored := by
  unfold Obligations.ManagementHalvesAreStored
  refine ⟨fun s h n c hs hh hn => ?_, fun s h hs hh => ?_, fun s h hs hh => ?_⟩
  · obtain ⟨a, ha, he⟩ := storeHalf_event (s := s.takeFrame h .exchangeCassette) (op := .exchangeCassette c) (n := h.tag) hs
    have hact : (s.takeFrame h .exchangeCassette).exchangeFirst n h.tag = ⟨a, .pairWait, .empty⟩ := by
      unfold State.exchangeFirst exchangeOp
      rw [hn]
      exact ha
    obtain ⟨t, ht, hl, htold⟩ := takeMgmt_event (act := fun s => s.exchangeFirst n h.tag) hh hact he
    exact ⟨t, congrArg _ ht, hl, htold⟩
  · obtain ⟨a, ha, he⟩ := storeHalf_event (s := s.takeFrame h .emptyDepository) (op := .emptyDepository) (n := h.tag) hs
    obtain ⟨t, ht, hl, htold⟩ := takeMgmt_event (act := fun s => s.storeHalf .emptyDepository h.tag) hh ha he
    exact ⟨t, congrArg _ ht, hl, htold⟩
  · obtain ⟨a, ha, he⟩ := storeHalf_event (s := s.takeFrame h .clearCondition) (op := .clearLockdown) (n := h.tag) hs
    obtain ⟨t, ht, hl, htold⟩ := takeMgmt_event (act := fun s => s.storeHalf .clearLockdown h.tag) hh ha he
    exact ⟨t, congrArg _ ht, hl, htold⟩

end Sys2Proof.Machine
end

section
/-! PROOFS. Settings written (O32), and orders refused for their sender or their form (O20). -/

namespace Sys2Proof.Machine

open Sys2Proof

-- One thread, so that the check's memory holds the stacks.
set_option Elab.async false

section Settings

variable {s : State}

theorem changeDepository_event {f : EnvelopeControl → EnvelopeControl} :
    Event s (s.mapEnvelope f) (s.changeDepository f)
      (if s.depositoryWarn = (s.mapEnvelope f).depositoryWarn ∧ s.depositoryFull = (s.mapEnvelope f).depositoryFull then []
        else to7 (s.mapEnvelope f).depositoryReport) [] := by
  have he : Event s (s.mapEnvelope f) (s.mapEnvelope f) [] [] := Event.refl.mapEnvelope f
  unfold State.changeDepository
  dsimp only
  split
  · exact he
  · exact he.send7 _

end Settings

/-- Settles O32: each write is one event, whose core is the setting stored, with its TABLE WRITE record. -/
theorem settingsAreStoredWithinTheirRanges : Obligations.SettingsAreStoredWithinTheirRanges := by
  unfold Obligations.SettingsAreStoredWithinTheirRanges
  refine ⟨fun s h n hh => ?planner, fun s h n hh => ?presenter, fun s h n hh => ?deposit, fun s h n hh => ?tube,
    fun s h p w d hh => ?screening, fun s h w hh => ?bus, fun s h n hh => ?depository⟩
  case planner =>
    obtain ⟨t, ht, hl, htold⟩ := takeMgmt_event (act := fun s => s.writePlanner n) hh rfl ((Event.refl.mapCash _).record _)
    exact ⟨t, congrArg _ ht, hl, htold⟩
  case presenter =>
    obtain ⟨t, ht, hl, htold⟩ := takeMgmt_event (act := fun s => s.writePresenter n) hh rfl
      ((Event.refl.mapDispense _).record _)
    exact ⟨t, congrArg _ ht, hl, htold⟩
  case deposit =>
    obtain ⟨t, ht, hl, htold⟩ := takeMgmt_event (act := fun s => s.writeDeposit n) hh rfl ((Event.refl.mapDeposit _).record _)
    exact ⟨t, congrArg _ ht, hl, htold⟩
  case tube =>
    obtain ⟨t, ht, hl, htold⟩ := takeMgmt_event (act := fun s => s.writeTube n) hh rfl ((Event.refl.mapTube _).record _)
    exact ⟨t, congrArg _ ht, hl, htold⟩
  case screening =>
    obtain ⟨t, ht, hl, htold⟩ := takeMgmt_event (act := fun s => s.writeScreening p w d) hh rfl
      ((Event.refl.mapScreen _).record _)
    exact ⟨t, congrArg _ ht, hl, htold⟩
  case bus =>
    obtain ⟨t, ht, hl, htold⟩ := takeMgmt_event (act := fun s => s.writeBus w) hh rfl ((Event.refl.mapBus _).record _)
    exact ⟨t, congrArg _ ht, hl, htold⟩
  case depository =>
    obtain ⟨t, ht, hl, htold⟩ := takeMgmt_event (act := fun s => s.writeDepository n) hh rfl
      (changeDepository_event.record _)
    have henv : t.envelope = { s.envelope with setting := { value := s.storedCapacity n } } := by rw [hl]; rfl
    refine ⟨t, congrArg _ ht, hl, ?_⟩
    have hw : t.depositoryWarn = ((s.takeFrame h .writeEntry).mapEnvelope fun e =>
        { e with setting := { value := s.storedCapacity n } }).depositoryWarn := by
      unfold State.depositoryWarn; rw [henv]; rfl
    have hf : t.depositoryFull = ((s.takeFrame h .writeEntry).mapEnvelope fun e =>
        { e with setting := { value := s.storedCapacity n } }).depositoryFull := by
      unfold State.depositoryFull; rw [henv]; rfl
    rw [hw, hf, henv]
    exact htold

section Refusals

variable {s : State} {h : Sender} {k : OrderKind}

/-- A frame taken and answered, with nothing done between. -/
theorem respond_takeFrame {c : Code} {b : ResponseBody} {form : List Byte → Bool} :
    (s.takeFrame h k form).respond h k c b = { s with link := s.answeredWith h k c b form } := by
  unfold State.answeredWith State.repliedWith
  rw [List.append_nil]
  rfl

/-- Every management order of a console is answered NO RIGHT and changes nothing (R175). -/
theorem takeMgmt_console {act : State → Answer} (hst : h.station ≠ .supervisor) (hu : s.link.used < 64) :
    s.takeMgmt h k act = { s with link := s.answeredWith h k .noRight .empty } := by
  unfold State.takeMgmt
  rw [takeOrder_room _ _ _ _ _ hu, if_neg hst]
  exact respond_takeFrame

theorem restart_console (hst : h.station ≠ .supervisor) (hu : s.link.used < 64) :
    s.restart h = { s with link := s.answeredWith h .restart .noRight .empty } := by
  unfold State.restart
  rw [if_pos hu]
  dsimp only
  rw [if_neg hst]
  exact respond_takeFrame

/-- Only a DISPENSE body of six bytes is an order after all, or breaks a half. -/
theorem unknownOrder_refused {m : Bool} {n : Nat} {body : List Byte} {code : Code} (hb : m = true ∨ n ≠ 3 ∨ body.length ≠ 6)
    (hu : s.link.used < 64) (hc : code = if m = true ∧ h.station ≠ .supervisor then .noRight else .badOrder) :
    s.unknownOrder h m n body =
      { s with link := s.answeredWith h (.unknown m n) code .empty (fun b => b == body) } := by
  have hnone : (if !m ∧ n = 3 then readDispense body else none) = none := by
    split
    · next hd =>
      cases hr : readDispense body with
      | none => rfl
      | some x => exact absurd (readDispense_some hr).1 (by simp_all)
    · rfl
  have hbreak : ∀ t : State, t.breakByBody m n body = t := fun t => by
    unfold State.breakByBody
    split
    · exact if_neg (by rintro ⟨hm, hn⟩; simp_all)
    · rfl
  have hact : ∀ t : State, t.refuseForm h m n body =
      answer t code := fun t => by
    unfold State.refuseForm
    rw [hbreak, hc]
    split
    · rfl
    · rfl
  unfold State.unknownOrder
  rw [hnone]
  dsimp only
  rw [takeOrder_room _ _ _ _ _ hu, hact]
  exact respond_takeFrame

/-- A management order is taken as one, but for RESTART and a frame of no known kind. -/
theorem exec_mgmtOrder {c : Instr} (hk : orderKind c = some k) (hm : k.isMgmt = true) (hs : c.sender = some h) :
    (orderForm c k = k.fits ∧ ∃ act, ∀ s, exec c s = .next (s.takeMgmt h k act)) ∨ c = .restart h ∨
      ∃ n body, c = .unknownOrderKind h true n body := by
  cases c with
  | restart g => cases hs; exact .inr (.inl rfl)
  | unknownOrderKind g m n body =>
    cases hs
    cases hk
    obtain rfl : m = true := hm
    exact .inr (.inr ⟨n, body, rfl⟩)
  | signOn | signOff | dispenseSingle | dispenseFirst | dispenseSecond | cancelDispense | openDeposit | closeDeposit
  | sendCarrier | recallCarrier | openLane | closeLane | releaseLane | confirmExchangeCassette | confirmEmptyDepository
  | confirmClearCondition =>
    cases hk
    exact absurd hm (by decide)
  | hardReset | consoleFrameReceived | reportQueueItemSent | pairTimerExpiry | managementPairTimerExpiry
  | pickReportTimerExpiry | retractReportTimerExpiry | presentTimerExpiry | exchangeAuthorisationExpiry
  | idleTimerExpiry | endTimerExpiry | completionTimerExpiry | safeOpeningExpiry | restTimerExpiry | transitTimerExpiry
  | armTimerExpiry | qualifyTimerExpiry | loopReading | exchangeBegin | wallBusReplyTaken | replyWindowExpiry
  | busFrameDiscarded => cases hk
  | _ =>
    cases hk
    cases hs
    exact .inl ⟨rfl, _, fun _ => rfl⟩

end Refusals

/-- Settles O20: a management order of a console by the one way such orders are taken, a form refused by what is left of it. -/
theorem ordersOfWrongSenderOrFormAreRefused : Obligations.OrdersOfWrongSenderOrFormAreRefused := by
  unfold Obligations.OrdersOfWrongSenderOrFormAreRefused
  refine ⟨fun c k h s hk hm hs hst hu => ?_, fun s h m n body hst hb hu => ?_⟩
  · rcases exec_mgmtOrder hk hm hs with ⟨hform, act, hexec⟩ | rfl | ⟨n, body, rfl⟩
    · rw [hexec, takeMgmt_console hst hu, hform]
    · cases hk
      exact congrArg _ (restart_console hst hu)
    · cases hk
      exact congrArg _ (unknownOrder_refused (.inl rfl) hu (if_pos ⟨rfl, hst⟩).symm)
  · refine congrArg _ (unknownOrder_refused hb hu (if_neg ?_).symm)
    rintro ⟨rfl, hn⟩
    exact hn (by simpa using hst)

end Sys2Proof.Machine
end

section
/-! SUPPORT. The screening of a console's order passed (R25), and things taken in order of which one alone acts. -/

namespace Sys2Proof.Machine

open Sys2Proof

-- One thread, so that the check's memory holds the stacks.
set_option Elab.async false

/-! ## Turns without an effect -/

section Turns

variable {s : State} {α : Type} {f : State → α → State}

theorem forEach_cons (a : α) (ls : List α) : s.forEach (a :: ls) f = (f s a).forEach ls f := rfl

theorem forEach_append (xs ys : List α) : s.forEach (xs ++ ys) f = (s.forEach xs f).forEach ys f := List.foldl_append

/-- Turns that leave the state as it is. -/
theorem forEach_skip {ls : List α} (h : ∀ a ∈ ls, f s a = s) : s.forEach ls f = s := by
  induction ls with
  | nil => rfl
  | cons a ls ih =>
    rw [forEach_cons, h a (by simp)]
    exact ih fun b hb => h b (by simp [hb])

/-- One turn acts, and the others before and after it leave the state as it is. -/
theorem forEach_only {ls : List α} {a : α} (hn : ls.Nodup) (ha : a ∈ ls) (hb : ∀ b ≠ a, f s b = s)
    (hc : ∀ b ≠ a, f (f s a) b = f s a) : s.forEach ls f = f s a := by
  obtain ⟨xs, ys, rfl⟩ := List.append_of_mem ha
  have hne : a ∉ xs ∧ a ∉ ys := by
    have := List.nodup_middle.1 hn
    simpa using (List.nodup_cons.1 this).1
  rw [forEach_append, forEach_skip fun b hbx => hb b fun he => hne.1 (he ▸ hbx), forEach_cons,
    forEach_skip fun b hby => hc b fun he => hne.2 (he ▸ hby)]

end Turns

/-! ## The screening steps (R25, R26) -/

section Screening

variable {s : State} {h : Sender} {c : Console} {b : Binding} {right : Rights → Bool} {l : Lane} {n : Nat} {io : Bool}

/-- Step 3 passes where the entry, its table sound, still holds the bound credential. -/
theorem stepEntry_pass (hs : s.soundTables = true) (hb : s.binding c = some b)
    (hc : (s.authority b.index).credential = b.credential) : stepEntry c s = (s, none) := by
  unfold stepEntry
  rw [hb]
  dsimp only
  rw [checkAuthority_sound hs, sound_authority hs, if_neg (by decide), if_pos hc]

/-- What steps 2 to 4 ask of a console: its binding, whose entry still holds the credential and holds the right. -/
structure State.holdsRight (s : State) (c : Console) (b : Binding) (right : Rights → Bool) : Prop where
  bound : s.binding c = some b
  credential : (s.authority b.index).credential = b.credential
  right : right (s.authority b.index).rights = true

/-- An entitled console holds the right, also once its frame is taken. -/
theorem holdsRight_of_entitled {k : OrderKind} {form : List Byte → Bool} (he : s.entitled h c b right) :
    (s.takeFrame h k form).holdsRight c b right :=
  have ⟨_, _, hb, hc, hr⟩ := he
  ⟨hb, hc, hr⟩

/-- Steps 1 to 4 pass for a console with the right. -/
theorem checks_stepsWho (hs : s.soundTables = true)
    (hp : s.mgmt.partState = .inService ∨ io = false ∧ s.mgmt.partState ≠ .unconfigured) (he : s.holdsRight c b right)
    (fs : List Step) : s.checks (stepsWho c io right ++ fs) = s.checks fs := by
  obtain ⟨hb, hc, hr⟩ := he
  have hpart : (s.mgmt.partState == .inService || (!io && s.mgmt.partState == .suspended)) = true := by
    rcases hp with hp | ⟨hio, hp⟩
    · rw [hp]; rfl
    · rw [hio]
      generalize s.mgmt.partState = x at hp ⊢
      cases x <;> simp_all
  unfold stepsWho stepPart stepSignedOn stepRight
  simp only [List.cons_append, List.nil_append]
  rw [checks_need, if_pos hpart, checks_need, if_pos (by simp [hb]), checks_cons_pass s s _ _ (stepEntry_pass hs hb hc),
    checks_need, if_pos (by simp [hb, hr])]

/-- Step 5 passes for a console of the lane's serving set. -/
theorem stepLane_pass (hs : s.soundTables = true) (hn : numbered 6 n = some l) (hv : (s.policy l).serving[c] = true) :
    stepLane c n s = (s, none) := by
  unfold stepLane
  rw [hn]
  dsimp only
  rw [usePolicy_sound hs, sound_policy hs, if_neg (by decide), if_pos hv]

/-- An order of a console passes its screening on the lane it names, once the half stored there is broken. -/
theorem consoleLaneOrder_pass {breaks : Bool} {act : State → Console → Lane → Answer} {t : State}
    (ht : (if breaks then s.breakNamed n else s) = t) (hs : t.soundTables = true)
    (hp : t.mgmt.partState = .inService ∨ io = false ∧ t.mgmt.partState ≠ .unconfigured) (hc : h.station = .console c)
    (he : t.holdsRight c b right) (hn : numbered 6 n = some l) (hv : (t.policy l).serving[c] = true) :
    s.consoleLaneOrder h.station n io breaks right act = act t c l := by
  unfold State.consoleLaneOrder State.onLane
  rw [ht, hc]
  dsimp only
  rw [checks_stepsWho hs hp he, checks_cons_pass t t _ _ (stepLane_pass hs hn hv), checks_nil, hn]

/-- With no half stored there is none to break. -/
theorem breakNamed_none (hn : numbered 6 n = some l) (hp : s.screen.pairSlots[l] = none) : s.breakNamed n = s := by
  rw [breakNamed_some hn, breakPair_none hp]

theorem consoleEntry_bound (hb : s.binding c = some b) (k : RecordKind) : s.consoleEntry c k =
    { kind := k, station := numberOf c, credential := b.credential, authIndex := numberOf b.index } := by
  unfold State.consoleEntry
  rw [hb]

theorem setBinding_binding (s : State) (c d : Console) (x : Option Binding) :
    (s.setBinding c x).binding d = if d = c then x else s.binding d := by
  have hval : c.val = d.val ↔ d = c := by rw [Fin.ext_iff, eq_comm]
  simp only [State.setBinding, State.binding, State.mapScreen, Fin.getElem_fin, Vector.getElem_set, hval]

end Screening

end Sys2Proof.Machine
end

section
/-! PROOFS. SIGN ON and SIGN OFF (O24). -/

namespace Sys2Proof.Machine

open Sys2Proof

-- One thread, so that the check's memory holds the stacks.
set_option Elab.async false

section SignOnOff

variable {s c' : State} {c : Console} {b : Binding} {l : Lane}

theorem signOn_event {n : Nat} {i : AuthId} (hs : s.soundTables = true) (hm : s.mgmt.partState ≠ .unconfigured)
    (hn : 1 ≤ n ∧ n ≤ 65535) (hb : s.binding c = none) (hi : s.lookUp n = some i)
    (hfree : ∀ d, (s.binding d).map Binding.credential ≠ some n) :
    ∃ a, s.signOn (.console c) n = ⟨a, .done, .empty⟩ ∧ Event s (s.setBinding c (some ⟨n, i⟩)) a []
      [s.stamped { kind := .signOn, station := numberOf c, credential := n, authIndex := numberOf i }] := by
  have hany : ¬((List.finRange 4).any fun d => (s.binding d).any fun b => b.credential == n) = true := by
    simp only [List.any_eq_true, not_exists, not_and]
    intro d _ hd
    cases hx : s.binding d with
    | none => simp [hx] at hd
    | some x => exact hfree d (by simpa [hx] using hd)
  refine ⟨_, ?_, (Event.refl.mapScreen _).record _⟩
  unfold State.signOn
  dsimp only
  rw [if_neg (by omega), if_neg hm, hb, if_neg (by decide), forEach_id State.checkAuthority s (checkAuthority_sound hs), hi]
  dsimp only
  rw [sound_authority hs, if_neg (by decide), if_neg hany]
  rw [consoleEntry_bound (b := ⟨n, i⟩) (by rw [setBinding_binding, if_pos rfl])]
  rfl

/-- The halves of a console that has none. -/
theorem breakPairsOf_none (h : ∀ l : Lane, (s.screen.pairSlots[l]).any (fun p => p.station == c) = false) :
    s.breakPairsOf c = s := forEach_id _ s (fun l => if_neg (by rw [h l]; decide)) _

/-- Of a console with one half, that half is broken. -/
theorem breakPairsOf_one {p : PairHalf} (hp : s.screen.pairSlots[l] = some p) (hc : p.station = c)
    (h : ∀ k : Lane, k ≠ l → (s.screen.pairSlots[k]).any (fun q => q.station == c) = false) :
    s.breakPairsOf c = s.breakPair l := by
  have hown : (if (s.screen.pairSlots[l]).any (fun h => h.station == c) then s.breakPair l else s) = s.breakPair l :=
    if_pos (by simp [hp, hc])
  have hrest : ∀ k : Lane, k ≠ l → ((s.breakPair l).screen.pairSlots[k]).any (fun q => q.station == c) = false := fun k hk => by
    rw [show (s.breakPair l).screen = (s.setPair l none).screen by rw [(event_breakPair hp).state]; rfl, setPair_slot,
      if_neg hk]
    exact h k hk
  unfold State.breakPairsOf
  rw [forEach_only (List.nodup_finRange 6) (List.mem_finRange l) (fun k hk => if_neg (by rw [h k hk]; decide)) ?_, hown]
  intro k hk
  rw [hown]
  exact if_neg (by rw [hrest k hk]; decide)

theorem Event.redirect {t : State} {items : List Item} {records : List Entry} (h : Event s c' t items records)
    (c : Console) : Event s (c'.redirect c) (t.redirect c) items records := by
  unfold State.redirect
  exact (h.mapDispense _).mapDeposit _

/-- A sign-off, once the console's halves are broken (R19). -/
theorem signOff_event {items : List Item} {records : List Entry} (hb : s.binding c = some b)
    (hd : s.dispenses.any (fun r => r.station == c && r.state == .presented) = false)
    (he : Event s c' (s.breakPairsOf c) items records) :
    ∃ a, s.signOff (.console c) = ⟨a, .done, .empty⟩ ∧ Event s ((c'.redirect c).setBinding c none) a items
      (records ++ [c'.stamped
        { kind := .signOff, station := numberOf c, credential := b.credential, authIndex := numberOf b.index }]) := by
  refine ⟨_, ?_, ((he.redirect c).mapScreen _).record _⟩
  unfold State.signOff
  dsimp only
  rw [hb, if_neg (by simp), hd, if_neg (by decide), consoleEntry_bound hb]
  rfl

end SignOnOff

/-- Settles O24: each order is one event, the broken half before the sign-off. -/
theorem signOnAndSignOffBindAndFree : Obligations.SignOnAndSignOffBindAndFree := by
  unfold Obligations.SignOnAndSignOffBindAndFree
  refine ⟨fun s h c n i hst hu hs hm hn hb hi hfree => ?_, fun s h c b hst hu hb hd hp => ?_,
    fun s h c b l p hst hu hb hd hp hc hk => ?_⟩
  · obtain ⟨a, ha, he⟩ := signOn_event (s := s.takeFrame h .signOn) hs hm hn hb hi hfree
    rw [← hst] at ha
    obtain ⟨t, ht, hl, htold⟩ := takeOrder_event (act := fun s => s.signOn h.station n) hu ha he
    exact ⟨t, congrArg _ ht, hl, htold⟩
  · have hbreak : Event (s.takeFrame h .signOff) (s.takeFrame h .signOff) ((s.takeFrame h .signOff).breakPairsOf c) [] [] := by
      rw [breakPairsOf_none (s := s.takeFrame h .signOff) hp]
      exact Event.refl
    obtain ⟨a, ha, he⟩ := signOff_event (s := s.takeFrame h .signOff) hb hd hbreak
    rw [← hst] at ha
    obtain ⟨t, ht, hl, htold⟩ := takeOrder_event (act := fun s => s.signOff h.station) hu ha he
    exact ⟨t, congrArg _ ht, hl, htold⟩
  · have hbreak := event_breakPair (s := s.takeFrame h .signOff) hp
    rw [← breakPairsOf_one (s := s.takeFrame h .signOff) hp hc hk] at hbreak
    obtain ⟨a, ha, he⟩ := signOff_event (s := s.takeFrame h .signOff) hb hd hbreak
    rw [← hst] at ha
    obtain ⟨t, ht, hl, htold⟩ := takeOrder_event (act := fun s => s.signOff h.station) hu ha he
    exact ⟨t, congrArg _ ht, hl, htold⟩

end Sys2Proof.Machine
end

section
/-! PROOFS. CONFIRM carries out a paired operation (O31). -/

namespace Sys2Proof.Machine

open Sys2Proof

-- One thread, so that the check's memory holds the stacks.
set_option Elab.async false

section Post

variable {s c t : State} {items : List Item} {records : List Entry} {m : ModuleId}

/-- A frame placed for a configured module where the outgoing queue has a place. -/
theorem post_room {e : Option ModuleId} {w : Owner} {o : BusOrder} (he : e = some m) (hr : s.bus.outgoing.length < 48) :
    s.post e w o = s.mapBus fun b => { b with outgoing := b.outgoing ++ [s.orderTo m w o] } := by
  subst he
  unfold State.post State.placeFor State.place
  dsimp only
  rw [if_pos hr]
  rfl

theorem Event.post (h : Event s c t items records) {e : Option ModuleId} {w : Owner} {o : BusOrder} (he : e = some m)
    (hr : c.bus.outgoing.length < 48) :
    Event s (c.mapBus fun b => { b with outgoing := b.outgoing ++ [c.orderTo m w o] }) (t.post e w o) items records := by
  have hb : t.bus = c.bus := by rw [h.state]; rfl
  rw [post_room he (by rw [hb]; exact hr), show t.orderTo m w o = c.orderTo m w o by rw [h.state]; rfl]
  exact h.mapBus _

end Post

section Confirm

theorem Event.reportWall7 {s c t : State} {items : List Item} {records : List Entry} (h : Event s c t items records) :
    Event s c t.reportWall7 (items ++ to7 (.wallCondition c.condition (some (c.alarm.duress, c.alarm.lockdown)))) records := by
  have hr : t.reportWall7 = t.send7 (.wallCondition c.condition (some (c.alarm.duress, c.alarm.lockdown))) := by
    unfold State.reportWall7 State.condition
    rw [show t.alarm = c.alarm by rw [h.state]; rfl]
  rw [hr]
  exact h.send7 _

theorem Event.reportWallConsoles {s c t : State} {items : List Item} {records : List Entry}
    (h : Event s c t items records) :
    Event s c t.reportWallConsoles (items ++ c.toSignedOn (.wallCondition c.consoleCondition none)) records := by
  have hr : t.reportWallConsoles = t.sendSignedOn (.wallCondition c.consoleCondition none) := by
    unfold State.reportWallConsoles State.consoleCondition
    rw [show t.alarm = c.alarm by rw [h.state]; rfl]
  rw [hr]
  exact h.sendSignedOn _

variable {s u : State} {h : Sender} {c : Console} {b : Binding} {half : MgmtHalf} {right : Rights → Bool} {op : MgmtOp}

/-- The half consumed, with the PAIR COMPLETE record, before the operation is carried out. -/
def State.pairConsumed (s : State) (c : Console) (b : Binding) (half : MgmtHalf) : State :=
  (s.mapScreen fun k => { k with managementSlot := none }).record (confirmEntry c b half)

theorem pairConsumed_event : Event s (s.mapScreen fun k => { k with managementSlot := none }) (s.pairConsumed c b half) []
    [s.stamped (confirmEntry c b half)] := (Event.refl.mapScreen _).record _

/-- The confirming console's fields of the operation's record. -/
def whoConfirms (c : Console) (b : Binding) : Entry :=
  { kind := .pairComplete, station := numberOf c, credential := b.credential, authIndex := numberOf b.index }

/-- A CONFIRM whose half is stored and in time runs the operation, and tells of the pair (R36). -/
theorem confirm_event {core a : State} {items : List Item} {records : List Entry} (hs : s.soundTables = true)
    (hst : h.station = .console c) (hent : s.holdsRight c b right) (hm : s.mgmt.partState ≠ .unconfigured)
    (hslot : s.screen.managementSlot = some half) (hop : half.op = op) (hpast : half.timer.past s.now = false)
    (ha : (s.pairConsumed c b half).carryOut op (whoConfirms c b) = (a, .done)) (he : Event s core a items records) :
    ∃ a, s.confirm h.station right (some op) = ⟨a, .done, .empty⟩ ∧
      Event s core a (items ++ confirmReport half .done) records := by
  subst hop
  refine ⟨_, ?_, he.send .supervisor half.tag (.pairComplete none .done)⟩
  have hconf : s.confirms (some half.op) = true := by
    unfold State.confirms
    rw [hslot]
    simp [hpast]
  have hpass : s.checks (stepsWho c false right ++ [need (fun s => s.confirms (some half.op)) .pairMismatch]) = (s, none) := by
    rw [checks_stepsWho hs (.inr ⟨rfl, hm⟩) hent, checks_need, if_pos hconf, checks_nil]
  unfold State.confirm
  rw [hst]
  change s.ifPass _ _ = _
  rw [ifPass_pass hpass, hslot]
  dsimp only
  rw [consoleEntry_bound hent.bound]
  change (let p := (s.pairConsumed c b half).carryOut half.op (whoConfirms c b)
    answer (p.1.send .supervisor half.tag (.pairComplete none p.2)) p.2) = _
  rw [ha]
  rfl

/-! ## The operations -/

variable {items : List Item} {records : List Entry} {core t : State}

/-- EXCHANGE CASSETTE carried out (R83). -/
theorem openExchange_event {k : CassetteId} {who : Entry} (h : Event s core t items records) (hk : core.cash = s.cash)
    (hl : core.alarm.lockdown = false) (hx : s.cash.exchange = none) (ho : (s.cassette k).out = false)
    (hw : core.workInFlight k = false) (hs : (s.cassette k).check = {}) (hu : u.cassette k =
      { s.cassette k with causes := { (s.cassette k).causes with exchange := true } }) :
    ∃ a, t.openExchange k who = (a, .done) ∧
      Event s ((core.mapCash fun x => { x with exchange := some ⟨k, ⟨core.now, 300000⟩⟩ }).setCassette k
          { s.cassette k with causes := { (s.cassette k).causes with exchange := true } }) a
        (items ++ s.shownChange u k)
        (records ++ [core.stamped { who with kind := .exchangeOpen, facts := [.cassette k] }]) := by
  have hc : t.cash = s.cash := by rw [h.state, ← hk]; rfl
  have hal : t.alarm.lockdown = false := by rw [h.state]; exact hl
  have hwt : t.workInFlight k = false := by rw [h.state, ← hw]; rfl
  have hnow : t.now = core.now := by rw [h.state]; rfl
  have hout : (t.cassette k).out = false := by unfold State.cassette; rw [hc]; exact ho
  have hcheck : (s.cassette k).check.recomputed = (s.cassette k).check := by rw [hs]; rfl
  have hself : ({ s.cassette k with
      causes := { (s.cassette k).causes with exchange := true }, check := (s.cassette k).check.recomputed } : Cassette) =
      { s.cassette k with causes := { (s.cassette k).causes with exchange := true } } := by rw [hcheck]
  have he := (h.mapCash fun x => { x with exchange := some ⟨k, ⟨core.now, 300000⟩⟩ }).mapCassette (d := k) (u := u)
    (f := fun k => { k with causes := { k.causes with exchange := true }, check := k.check.recomputed })
    (by unfold State.cassette State.mapCash; rw [hk]) (by rw [hself]; exact hu)
  rw [hself] at he
  refine ⟨_, ?_, he.record _⟩
  unfold State.openExchange
  rw [if_neg (by simp [hal]), if_neg (by simp [hc, hx]), if_neg (by simp [hout]), if_neg (by simp [hwt])]
  dsimp only
  rw [State.timer, hnow]
  rfl

/-- EMPTY DEPOSITORY carried out (R120). -/
theorem openSafe_event {who : Entry} (h : Event s core t items records) (hl : core.alarm.lockdown = false)
    (hx : core.envelope.safe = none) (hp : core.inProgress = 0) :
    ∃ a, t.openSafe who = (a, .done) ∧
      Event s (core.mapEnvelope fun e => { e with safe := some (.waiting ⟨core.now, 300000⟩) }) a items
        (records ++ [core.stamped { who with kind := .safeOpen, noteCount := core.envelope.count }]) := by
  have hal : t.alarm.lockdown = false := by rw [h.state]; exact hl
  have hen : t.envelope = core.envelope := by rw [h.state]; rfl
  have hpt : t.inProgress = 0 := by rw [h.state]; exact hp
  have hnow : t.now = core.now := by rw [h.state]; rfl
  refine ⟨_, ?_, (h.mapEnvelope _).record _⟩
  unfold State.openSafe
  rw [if_neg (by simp [hal]), if_neg (by simp [hen, hx]), if_neg (by simp [hpt])]
  rw [State.timer, hnow, hen]
  rfl

/-- CLEAR CONDITION LOCKDOWN carried out, no work or request waiting (R90, R155). -/
theorem clearLockdown_event {who : Entry} {m : ModuleId} (h : Event s core t items records) (hl : core.alarm.lockdown = true)
    (hloop : ∀ i : LoopId, (core.loop i).applied .lockdown = false) (hw : core.cash.workQueue = [])
    (hr : core.tube.requests = []) (hm : core.recyclerEntry = some m) (hb : core.bus.outgoing.length < 48)
    {v : State} (hv : v = (core.mapAlarm fun a => { a with lockdown := false, localOutput := false }).mapBus fun b =>
      { b with outgoing := b.outgoing ++ [core.orderTo m .cash .unlockBays] }) :
    ∃ a, t.clearLockdown who = (a, .done) ∧ Event s v a
      (items ++ to7 (.wallCondition v.condition (some (v.alarm.duress, false))) ++ core.toSignedOn (.wallCondition .normal none))
      (records ++ [core.stamped { who with kind := .conditionClear, facts := [.condition .lockdown] }]) := by
  have hal : t.alarm = core.alarm := by rw [h.state]; rfl
  have hno : ¬((List.finRange 16).any fun i => (t.loop i).applied .lockdown) = true := by
    have ht : ∀ i, t.loop i = core.loop i := fun i => by unfold State.loop; rw [hal]
    simp [ht, hloop]
  have he := (h.mapAlarm fun a => { a with lockdown := false, localOutput := false }).record
    { who with kind := .conditionClear, facts := [.condition .lockdown] }
  change Event s _ ((t.setLockdownLatch false).record
    { who with kind := .conditionClear, facts := [.condition .lockdown] }) _ _ at he
  generalize hu : (t.setLockdownLatch false).record
    { who with kind := .conditionClear, facts := [.condition .lockdown] } = u at he
  have hm' : u.recyclerEntry = some m := by rw [he.state, ← hm]; rfl
  have hp := he.post (w := .cash) (o := .unlockBays) hm' hb
  have hw' : (u.post u.recyclerEntry .cash .unlockBays).cash.workQueue = [] := by rw [hp.state]; exact hw
  have hr' : (u.post u.recyclerEntry .cash .unlockBays).tube.requests = [] := by rw [hp.state]; exact hr
  change Event s ((core.mapAlarm fun a => { a with lockdown := false, localOutput := false }).mapBus fun b =>
      { b with outgoing := b.outgoing ++ [core.orderTo m .cash .unlockBays] }) _ _ _ at hp
  rw [← hv] at hp
  refine ⟨_, ?_, (hp.reportWall7.reportWallConsoles).cast ?_ rfl⟩
  · unfold State.clearLockdown
    rw [if_neg (by simp [hal, hl]), if_neg hno]
    dsimp only
    rw [hu, State.lockdownLifted, arbitrate_none hw', arbitrateBlower_none hr']
  · rw [hv]
    rfl

end Confirm

/-- Settles O31: a CONFIRM runs its operation on the half consumed, and each operation is an event of its own. -/
theorem confirmedOperationsAreCarriedOut : Obligations.ConfirmedOperationsAreCarriedOut := by
  unfold Obligations.ConfirmedOperationsAreCarriedOut
  refine ⟨fun s h c b half n k hs hn hc hl hx ho hw => ?exchange, fun s h c b half hs hc hl hx hp => ?depository,
    fun s h c b half m hs hc hl hloop hw hr hm hb => ?lockdown⟩
  case exchange =>
    obtain ⟨⟨hst, hu, hent⟩, hm, hslot, hop, hpast⟩ := hc
    obtain ⟨a, ha, he⟩ := openExchange_event (s := s.takeFrame h .confirm) (k := k) (who := whoConfirms c b)
      (u := s.setCassette k { s.cassette k with causes := { (s.cassette k).causes with exchange := true } })
      (pairConsumed_event (c := c) (b := b) (half := half)) rfl hl hx ho hw (sound_cassette hs k)
      (by rw [setCassette_cassette, if_pos rfl]; rfl)
    obtain ⟨a, ha, he⟩ := confirm_event (s := s.takeFrame h .confirm) (op := .exchangeCassette k) hs hst
      (holdsRight_of_entitled ⟨hst, hu, hent⟩) hm hslot hop hpast ha he
    have hact : (s.takeFrame h .confirm).confirm h.station Rights.cashAdmin (exchangeOp n) = ⟨a, .done, .empty⟩ := by
      unfold exchangeOp
      rw [hn]
      exact ha
    obtain ⟨t, ht, hl, htold⟩ := takeOrder_event (act := fun s => s.confirm h.station Rights.cashAdmin (exchangeOp n)) hu
      hact he
    have hk : t.cassette k = { s.cassette k with causes := { (s.cassette k).causes with exchange := true } } := by
      rw [hl]
      exact (setCassette_cassette ..).trans (if_pos rfl)
    refine ⟨t, congrArg _ ht, hl, ?_⟩
    have hshown : s.shownChange t k = (s.takeFrame h .confirm).shownChange
        (s.setCassette k { s.cassette k with causes := { (s.cassette k).causes with exchange := true } }) k := by
      unfold State.shownChange State.cassetteReport
      rw [hk, setCassette_cassette, if_pos rfl]
      rfl
    rw [hshown]
    exact htold
  case depository =>
    obtain ⟨⟨hst, hu, hent⟩, hm, hslot, hop, hpast⟩ := hc
    obtain ⟨a, ha, he⟩ := openSafe_event (who := whoConfirms c b)
      (pairConsumed_event (s := s.takeFrame h .confirm) (c := c) (b := b) (half := half)) hl hx hp
    obtain ⟨a, ha, he⟩ := confirm_event (s := s.takeFrame h .confirm) (op := .emptyDepository) hs hst
      (holdsRight_of_entitled ⟨hst, hu, hent⟩) hm hslot hop hpast ha he
    obtain ⟨t, ht, hl, htold⟩ := takeOrder_event
      (act := fun s => s.confirm h.station Rights.cashAdmin (some .emptyDepository)) hu ha he
    exact ⟨t, congrArg _ ht, hl, htold⟩
  case lockdown =>
    obtain ⟨⟨hst, hu, hent⟩, hm', hslot, hop, hpast⟩ := hc
    obtain ⟨a, ha, he⟩ := clearLockdown_event (who := whoConfirms c b)
      (pairConsumed_event (s := s.takeFrame h .confirm) (c := c) (b := b) (half := half)) hl hloop hw hr hm hb rfl
    obtain ⟨a, ha, he⟩ := confirm_event (s := s.takeFrame h .confirm) (op := .clearLockdown) hs hst
      (holdsRight_of_entitled ⟨hst, hu, hent⟩) hm' hslot hop hpast ha he
    obtain ⟨t, ht, hl, htold⟩ := takeOrder_event
      (act := fun s => s.confirm h.station Rights.clear (some .clearLockdown)) hu ha he
    refine ⟨t, congrArg _ ht, hl, ?_⟩
    rw [show t.condition = _ by rw [hl]]
    exact htold

end Sys2Proof.Machine
end

section
/-! SUPPORT. Consoles signed off one after the other by a write to an Authority entry (R21, R32). -/

namespace Sys2Proof.Machine

open Sys2Proof

-- One thread, so that the check's memory holds the stacks.
set_option Elab.async false

/-! ## One turn of several -/

section Turn

variable {s : State} {α : Type} {f : State → α → State}

/-- The turns before and after one thing's own. -/
theorem forEach_own {ls : List α} {a : α} (hn : ls.Nodup) (ha : a ∈ ls) :
    ∃ xs ys, ls = xs ++ a :: ys ∧ a ∉ xs ∧ a ∉ ys ∧ ∀ s : State, s.forEach ls f = (f (s.forEach xs f) a).forEach ys f := by
  obtain ⟨xs, ys, rfl⟩ := List.append_of_mem ha
  have hne : a ∉ xs ∧ a ∉ ys := by simpa using (List.nodup_cons.1 (List.nodup_middle.1 hn)).1
  exact ⟨xs, ys, rfl, hne.1, hne.2, fun s => by rw [forEach_append, forEach_cons]⟩

/-- A relation of each turn, reflexive and transitive, holds of all. -/
theorem forEach_rel {R : State → State → Prop} (hr : ∀ s, R s s) (ht : ∀ {s t u}, R s t → R t u → R s u) {ls : List α}
    (h : ∀ s, ∀ a ∈ ls, R s (f s a)) (s : State) : R s (s.forEach ls f) := by
  induction ls generalizing s with
  | nil => exact hr s
  | cons a ls ih => exact ht (h s a (by simp)) (ih (fun s b hb => h s b (by simp [hb])) (f s a))

end Turn

/-! ## What a sign-off changes of each console -/

section SignOff

variable {s t u : State} {c d : Console} {l : Lane}

theorem forceSignOff_eq (s : State) (d : Console) : s.forceSignOff d =
    (((((s.setBinding d none).redirect d).breakPairsOf d).record (s.consoleEntry d .signOff)).sendCopied (.console d) 0
      .signedOff .signedOff) := rfl

/-- What follows the redirection touches the pair slots, the journal and the Report Queue alone. -/
theorem touches_signOffEnd : Touches (.pairSlots :: logParts) ((s.setBinding d none).redirect d) (s.forceSignOff d) := by
  rw [forceSignOff_eq]
  exact touches_breakPairsOf.then touches_record |>.then touches_sendCopied

theorem forceSignOff_binding : (s.forceSignOff d).binding c = if c = d then none else s.binding c := by
  rw [← setBinding_binding]
  exact congrArg (fun v : Vector (Option Binding) 4 => v[c]) (touches_signOffEnd.framed .consoles (by decide))

theorem forceSignOff_record (k : DispenseSlot) : (s.forceSignOff d).dispense.records[k] =
    s.dispense.records[k].map fun r => if r.station = d then { r with reportStation := .supervisor } else r := by
  have h : (s.forceSignOff d).dispense.records = ((s.setBinding d none).redirect d).dispense.records :=
    touches_signOffEnd.framed .records (by decide)
  rw [h]
  simp [State.redirect, State.mapDeposit, State.mapDispense, State.setBinding, State.mapScreen]

theorem forceSignOff_session (l : Lane) : (s.forceSignOff d).session l =
    (s.session l).map fun x => if x.station = d then { x with reportStation := .supervisor } else x := by
  have h : (s.forceSignOff d).deposit.slots = ((s.setBinding d none).redirect d).deposit.slots :=
    touches_signOffEnd.framed .slots (by decide)
  unfold State.session
  rw [h]
  simp [State.redirect, State.mapDeposit, State.mapDispense, State.setBinding, State.mapScreen]

theorem forceSignOff_authority (i : AuthId) : (s.forceSignOff d).authority i = s.authority i :=
  congrArg (fun v : Vector AuthorityEntry 32 => v[i]) (touches_forceSignOff.framed .authority (by decide))

/-- A turn of `breakPairsOf` empties its lane's slot if the half there is the console's. -/
theorem breakTurn_slot (s : State) (d : Console) (l k : Lane) :
    (if s.screen.pairSlots[l].any fun h => h.station == d then s.breakPair l else s).screen.pairSlots[k] =
      if k = l ∧ (s.screen.pairSlots[l].any fun h => h.station == d) = true then none else s.screen.pairSlots[k] := by
  by_cases hd : (s.screen.pairSlots[l].any fun h => h.station == d) = true
  · rw [if_pos hd]
    obtain ⟨p, hp, -⟩ := (Option.any_eq_true _ _).1 hd
    rw [show (s.breakPair l).screen = (s.setPair l none).screen by rw [(event_breakPair hp).state]; rfl, setPair_slot]
    simp only [hd, and_true]
  · rw [if_neg hd, if_neg (by tauto)]

/-- The halves of other consoles stay. -/
theorem breakPairsOf_other {p : PairHalf} (hp : s.screen.pairSlots[l] = some p) (hd : p.station ≠ d) :
    (s.breakPairsOf d).screen.pairSlots[l] = some p := by
  refine forEach_preserves (I := fun s => s.screen.pairSlots[l] = some p) (fun s k hs => ?_) _ hp
  rw [breakTurn_slot, if_neg, hs]
  rintro ⟨rfl, hk⟩
  rw [hs] at hk
  exact hd (by simpa using hk)

/-- What a console has stays: its binding, its halves, its dispenses and sessions, and the Authority Table. -/
structure Stays (c : Console) (s t : State) : Prop where
  binding : t.binding c = s.binding c
  authority : ∀ i, t.authority i = s.authority i
  halves : ∀ (l : Lane) p, s.screen.pairSlots[l] = some p → p.station = c → t.screen.pairSlots[l] = some p
  records : ∀ (k : DispenseSlot) r, s.dispense.records[k] = some r → r.station = c → t.dispense.records[k] = some r
  sessions : ∀ (l : Lane) x, s.session l = some x → x.station = c → t.session l = some x

theorem Stays.refl (s : State) : Stays c s s := ⟨rfl, fun _ => rfl, fun _ _ h _ => h, fun _ _ h _ => h, fun _ _ h _ => h⟩

theorem Stays.trans (h : Stays c s t) (k : Stays c t u) : Stays c s u :=
  ⟨k.binding.trans h.binding, fun i => (k.authority i).trans (h.authority i),
    fun l p hp hc => k.halves l p (h.halves l p hp hc) hc, fun i r hr hc => k.records i r (h.records i r hr hc) hc,
    fun l x hx hc => k.sessions l x (h.sessions l x hx hc) hc⟩

/-- Another console's sign-off leaves a console what it has. -/
theorem stays_forceSignOff (hd : c ≠ d) : Stays c s (s.forceSignOff d) := by
  refine ⟨by rw [forceSignOff_binding, if_neg hd], forceSignOff_authority, fun l p hp hc => ?_, fun k r hr hc => ?_,
    fun l x hx hc => ?_⟩
  · have hb : (((s.setBinding d none).redirect d).breakPairsOf d).screen.pairSlots[l] = some p :=
      breakPairsOf_other (s := (s.setBinding d none).redirect d) hp (hc ▸ hd)
    have hf : Touches logParts (((s.setBinding d none).redirect d).breakPairsOf d) (s.forceSignOff d) := by
      rw [forceSignOff_eq]
      exact touches_record.mono.then touches_sendCopied
    rw [← hb]
    exact congrArg (fun v : Vector (Option PairHalf) 6 => v[l]) (hf.framed .pairSlots (by decide))
  · rw [forceSignOff_record, hr, Option.map_some, if_neg (hc ▸ hd)]
  · rw [forceSignOff_session, hx, Option.map_some, if_neg (hc ▸ hd)]

/-- The turn of each console at a write of entry `i` (R21). -/
def State.signOffTurn (i : AuthId) (s : State) (d : Console) : State := if s.losesBinding i d then s.forceSignOff d else s

theorem touches_signOffTurn {i : AuthId} : Touches signOffParts s (s.signOffTurn i d) :=
  .ite (fun _ => touches_forceSignOff) fun _ => .refl

theorem stays_signOffTurn {i : AuthId} (hd : c ≠ d) : Stays c s (s.signOffTurn i d) := by
  unfold State.signOffTurn
  split
  · exact stays_forceSignOff hd
  · exact .refl s

theorem stays_signOffTurns {i : AuthId} {ls : List Console} (hc : c ∉ ls) : Stays c s (s.forEach ls (State.signOffTurn i)) :=
  forEach_rel (f := State.signOffTurn i) Stays.refl Stays.trans
    (fun _ d hd => stays_signOffTurn (d := d) fun he => hc (by rw [he]; exact hd)) s

/-! ## The room that sign-offs take -/

/-- The halves stored in the Dispense Pair Slots. -/
def State.halves (s : State) : Nat := s.screen.pairSlots.countP Option.isSome

theorem halves_le (s : State) : s.halves ≤ 6 := Vector.countP_le_size

theorem halves_pos {p : PairHalf} (hp : s.screen.pairSlots[l] = some p) : 0 < s.halves :=
  Vector.countP_pos_iff.2 ⟨some p, hp ▸ Vector.getElem_mem _, rfl⟩

theorem halves_setPair {p : PairHalf} (hp : s.screen.pairSlots[l] = some p) : (s.setPair l none).halves + 1 = s.halves := by
  have hpos := halves_pos hp
  have hset : (s.setPair l none).halves = s.halves - 1 := by
    unfold State.halves State.setPair State.mapScreen
    dsimp only
    rw [Vector.countP_set]
    have hp' : s.screen.pairSlots[l.val] = some p := hp
    simp [hp']
  omega

/-- At most `n` reports and `k` records more, counting ahead those of the halves still to be broken: two reports and a record
each. -/
structure Costs (n k : Nat) (s t : State) : Prop where
  reports : t.link.used + 2 * t.halves ≤ s.link.used + 2 * s.halves + n
  records : t.journal.ring.length + t.halves ≤ s.journal.ring.length + s.halves + k
  reserved : t.journal.reserved = s.journal.reserved

variable {n k n' k' : Nat}

theorem Costs.refl (s : State) : Costs 0 0 s s := ⟨Nat.le_refl _, Nat.le_refl _, rfl⟩

theorem Costs.trans (h : Costs n k s t) (g : Costs n' k' t u) : Costs (n + n') (k + k') s u :=
  ⟨by have := h.reports; have := g.reports; omega, by have := h.records; have := g.records; omega,
    g.reserved.trans h.reserved⟩

theorem Costs.of_adds (h : Adds n k s t) (hp : t.screen.pairSlots = s.screen.pairSlots) : Costs n k s t := by
  have hh : t.halves = s.halves := by unfold State.halves; rw [hp]
  exact ⟨by have := h.reports; omega, by have := h.records; omega, h.reserved⟩

theorem adds_sendCopied (s : State) (d : Station) (tag : Nat) (own copy : Report) : Adds 2 0 s (s.sendCopied d tag own copy) := by
  cases d
  · exact (adds_send ..).trans (adds_send ..)
  · exact (adds_send ..).mono

/-- A broken half costs what it was counted for. -/
theorem costs_breakPair {p : PairHalf} (hp : s.screen.pairSlots[l] = some p) : Costs 0 0 s (s.breakPair l) := by
  have hadds : Adds 2 1 s (s.breakPair l) := by
    rw [breakPair_some hp]
    have h := ((adds_record (s.setPair l none) (brokenEntry p l)).trans (adds_sendCopied _ (.console p.station) p.tag .brokenPair
      .brokenPair)).before (s := s) rfl rfl
    exact h.mono
  have hh : (s.breakPair l).halves + 1 = s.halves := by
    rw [← halves_setPair hp]
    unfold State.halves
    rw [show (s.breakPair l).screen = (s.setPair l none).screen by rw [(event_breakPair hp).state]; rfl]
  exact ⟨by have := hadds.reports; omega, by have := hadds.records; omega, hadds.reserved⟩

theorem costs_breakTurn (s : State) (d : Console) (l : Lane) :
    Costs 0 0 s (if s.screen.pairSlots[l].any fun h => h.station == d then s.breakPair l else s) := by
  split
  · next hd =>
    obtain ⟨p, hp, -⟩ := (Option.any_eq_true _ _).1 hd
    exact costs_breakPair hp
  · exact .refl s

theorem costs_breakPairsOf (s : State) (d : Console) : Costs 0 0 s (s.breakPairsOf d) :=
  forEach_rel Costs.refl Costs.trans (fun s l _ => costs_breakTurn s d l) s

theorem costs_forceSignOff (s : State) (d : Console) : Costs 2 1 s (s.forceSignOff d) := by
  have hbound : Costs 0 0 s ((s.setBinding d none).redirect d) := .of_adds (.of_eq rfl rfl) rfl
  have hbreak := hbound.trans (costs_breakPairsOf ((s.setBinding d none).redirect d) d)
  rw [forceSignOff_eq]
  generalize ((s.setBinding d none).redirect d).breakPairsOf d = v at hbreak ⊢
  have htold : Adds 2 1 v ((v.record (s.consoleEntry d .signOff)).sendCopied (.console d) 0 .signedOff .signedOff) :=
    ((adds_record v _).trans (adds_sendCopied _ _ _ _ _)).mono
  exact hbreak.trans (.of_adds htold
    ((touches_record.mono.then touches_sendCopied : Touches logParts v _).framed .pairSlots (by decide)))

theorem costs_signOffTurns {i : AuthId} (ls : List Console) (s : State) :
    Costs (2 * ls.length) ls.length s (s.forEach ls (State.signOffTurn i)) := by
  induction ls generalizing s with
  | nil => exact .refl s
  | cons d ls ih =>
    have hturn : Costs 2 1 s (s.signOffTurn i d) := by
      unfold State.signOffTurn
      split
      · exact costs_forceSignOff s d
      · have h := Costs.refl s
        exact ⟨by have := h.reports; omega, by have := h.records; omega, rfl⟩
    have h := hturn.trans (ih (s.signOffTurn i d))
    rw [forEach_cons]
    exact ⟨by have := h.reports; simp only [List.length_cons] at *; omega,
      by have := h.records; simp only [List.length_cons] at *; omega, h.reserved⟩

/-- A half of the console signed off leaves its slot, with its record and its reports where there is room for them. -/
theorem breakPairsOf_breaks {p : PairHalf} (hp : s.screen.pairSlots[l] = some p) :
    (s.breakPairsOf p.station).screen.pairSlots[l] = none
      ∧ (s.journal.ring.length + s.halves + s.journal.reserved ≤ 512 →
          ∃ x ∈ (s.breakPairsOf p.station).journal.ring, x.entry = s.stamped (brokenEntry p l))
      ∧ (s.link.used + 2 * s.halves ≤ 64 → ∀ y ∈ brokenReports p, y ∈ (s.breakPairsOf p.station).link.reports) := by
  obtain ⟨xs, ys, -, hxs, -, hfor⟩ := forEach_own (List.nodup_finRange 6) (List.mem_finRange l)
    (f := fun s k => if s.screen.pairSlots[k].any fun h => h.station == p.station then s.breakPair k else s)
  have htouch : ∀ (s : State) (k : Lane), Touches (.pairSlots :: logParts) s
      (if s.screen.pairSlots[k].any fun h => h.station == p.station then s.breakPair k else s) := fun s k =>
    .ite (fun _ => touches_breakPair) fun _ => .refl
  have hbreak := hfor s
  change s.breakPairsOf p.station = _ at hbreak
  generalize hv : s.forEach xs (fun s k => if s.screen.pairSlots[k].any fun h => h.station == p.station then s.breakPair k
    else s) = v at hbreak
  have hcost : Costs 0 0 s v := hv ▸ forEach_rel Costs.refl Costs.trans (fun s k _ => costs_breakTurn s p.station k) s
  have hslot : v.screen.pairSlots[l] = some p := by
    rw [← hv]
    refine forEach_rel (R := fun s t => s.screen.pairSlots[l] = some p → t.screen.pairSlots[l] = some p) (fun _ h => h)
      (fun h k hs => k (h hs)) (fun s k hk hs => ?_) s hp
    rw [breakTurn_slot, if_neg, hs]
    rintro ⟨rfl, -⟩
    exact hxs hk
  have halarm : v.alarm = s.alarm := by
    rw [← hv]
    exact (touches_forEach htouch xs s).framed.alarm
  have hnow : v.stamped (brokenEntry p l) = s.stamped (brokenEntry p l) := by unfold State.stamped; rw [halarm]
  have hpos := halves_pos hslot
  have hown : (v.screen.pairSlots[l].any fun h => h.station == p.station) = true := by simp [hslot]
  rw [if_pos hown] at hbreak
  have hrest : Grows (v.breakPair l) (s.breakPairsOf p.station) := hbreak ▸ (touches_forEach htouch ys _).grows
  obtain ⟨hj, hr⟩ := breakPair_logged hslot
  refine ⟨hrest.pairs l breakPair_slot, fun hroom => ?_, fun hroom y hy => ?_⟩
  · have hfree : v.journal.reserved < v.journal.free := by
      have := hcost.records
      have := hcost.reserved
      unfold Journal.free
      omega
    have hpre := (hj hfree).trans hrest.records
    exact ⟨_, hpre.subset (List.mem_append_right _ (List.mem_singleton.2 rfl)), hnow⟩
  · have hused : v.link.used + 1 < 64 := by
      have := hcost.reports
      omega
    exact ((hr hused).trans hrest.reports).subset (List.mem_append_right _ hy)

/-- What a sign-off leaves of a console's binding, dispenses, sessions and halves (R21, R32). -/
theorem forceSignOff_breaks {p : PairHalf} (hp : s.screen.pairSlots[l] = some p) (hc : p.station = c) :
    (s.forceSignOff c).screen.pairSlots[l] = none
      ∧ (s.journal.ring.length + s.halves + s.journal.reserved ≤ 512 →
          ∃ x ∈ (s.forceSignOff c).journal.ring, x.entry = s.stamped (brokenEntry p l))
      ∧ (s.link.used + 2 * s.halves ≤ 64 → ∀ y ∈ brokenReports p, y ∈ (s.forceSignOff c).link.reports) := by
  subst hc
  obtain ⟨hslot, hj, hr⟩ := breakPairsOf_breaks (s := (s.setBinding p.station none).redirect p.station) hp
  have hg : Grows (((s.setBinding p.station none).redirect p.station).breakPairsOf p.station) (s.forceSignOff p.station) := by
    rw [forceSignOff_eq]
    exact (touches_record.mono.then touches_sendCopied : Touches logParts _ _).grows
  refine ⟨hg.pairs l hslot, fun hroom => ?_, fun hroom y hy => hg.reports.subset (hr hroom y hy)⟩
  obtain ⟨x, hx, he⟩ := hj hroom
  exact ⟨x, hg.records.subset hx, he⟩

end SignOff

end Sys2Proof.Machine
end

section
/-! PROOFS. WRITE ENTRY to the Authority Table, and RESET SHIFT (O34). -/

namespace Sys2Proof.Machine

open Sys2Proof

-- One thread, so that the check's memory holds the stacks.
set_option Elab.async false

section Authority

variable {s c t : State} {i j : AuthId} {e : AuthorityEntry} {w : AuthorityWrite} {rights : Rights}
  {items : List Item} {records : List Entry}

/-- An Authority entry set. -/
def State.setAuthority (s : State) (i : AuthId) (e : AuthorityEntry) : State :=
  s.mapScreen fun k => { k with authority := k.authority.set i e }

theorem setAuthority_authority : (s.setAuthority i e).authority j = if j = i then e else s.authority j := by
  have hval : i.val = j.val ↔ j = i := by rw [Fin.ext_iff, eq_comm]
  simp only [State.setAuthority, State.authority, State.mapScreen, Fin.getElem_fin, Vector.getElem_set, hval]

theorem setAuthority_setAuthority {e' : AuthorityEntry} : (s.setAuthority i e).setAuthority i e' = s.setAuthority i e' := by
  simp [State.setAuthority, State.mapScreen]

theorem mapAuthority_eq (f : AuthorityEntry → AuthorityEntry) : s.mapAuthority i f = s.setAuthority i (f (s.authority i)) := rfl

theorem Event.mapAuthority (h : Event s c t items records) (f : AuthorityEntry → AuthorityEntry) :
    Event s (c.mapAuthority i f) (t.mapAuthority i f) items records := h.mapScreen _

/-- A shift total set to 0, with its record (R23). -/
theorem Event.resetShiftOf (h : Event s c t items records) (i : AuthId) :
    Event s (c.mapAuthority i fun e => { e with shiftTotal := 0, check := e.check.recomputed }) (t.resetShiftOf i) items
      (records ++ [c.stamped { kind := .shiftReset, authIndex := numberOf i, value := (c.authority i).shiftTotal }]) := by
  unfold State.resetShiftOf
  rw [show t.authority i = c.authority i by rw [h.state]; rfl]
  exact (h.mapAuthority _).record _

/-- The same event, what it leads to written otherwise. -/
theorem Event.recast {c' : State} (h : Event s c t items records) (hc : c = c') : Event s c' t items records := hc ▸ h

/-! ## The write (R21) -/

/-- The entry a write stores: its shift total is kept where the entry was OK and already held the credential. -/
def State.writtenEntry (s : State) (w : AuthorityWrite) (i : AuthId) (rights : Rights) : AuthorityEntry where
  credential := w.credential
  rights := rights
  perDispense := w.perDispense
  shiftLimit := w.shiftLimit
  shiftTotal := if (s.authority i).check.faulted = false ∧ (s.authority i).credential = w.credential then
    (s.authority i).shiftTotal else 0

/-- The write, before the consoles it concerns are signed off. -/
def State.authorityWritten (s : State) (w : AuthorityWrite) (i : AuthId) (rights : Rights) : State :=
  let u := s.mapAuthority i fun e =>
    { e with credential := w.credential, rights := rights, perDispense := w.perDispense, shiftLimit := w.shiftLimit }
  let u := if !(s.authority i).check.faulted && (s.authority i).credential == w.credential then u else u.resetShiftOf i
  (u.mapAuthority i fun e => { e with check := Check.fresh }).tableWrite (.authority (numberOf i))

theorem writeAuthority_eq (hn : numbered 32 w.index = some i) (hr : w.rights = some rights)
    (hp : 1 ≤ w.perDispense ∧ w.perDispense ≤ 999999) (hl : w.shiftLimit ≤ 99999999) : s.writeAuthority w =
      answer ((s.authorityWritten w i rights).forEach (List.finRange 4) (State.signOffTurn i)) .done := by
  unfold State.writeAuthority
  rw [hn, hr]
  dsimp only
  rw [if_pos ⟨hp.1, hp.2, hl⟩]
  rfl

theorem authorityWritten_event (s : State) (w : AuthorityWrite) (i : AuthId) (rights : Rights) :
    Event s (s.setAuthority i (s.writtenEntry w i rights)) (s.authorityWritten w i rights) []
      ((if (s.authority i).check.faulted = false ∧ (s.authority i).credential = w.credential then [] else
          [s.stamped { kind := .shiftReset, authIndex := numberOf i, value := (s.authority i).shiftTotal }])
        ++ [s.stamped { kind := .tableWrite, facts := [.table (.authority (numberOf i))] }]) := by
  have hset := (Event.refl (s := s)).mapAuthority (i := i) fun e =>
    { e with credential := w.credential, rights := rights, perDispense := w.perDispense, shiftLimit := w.shiftLimit }
  have hcond : (!(s.authority i).check.faulted && (s.authority i).credential == w.credential) = true ↔
      (s.authority i).check.faulted = false ∧ (s.authority i).credential = w.credential := by simp
  unfold State.authorityWritten State.writtenEntry
  dsimp only
  by_cases hk : (s.authority i).check.faulted = false ∧ (s.authority i).credential = w.credential
  · rw [if_pos (hcond.2 hk), if_pos hk, if_pos hk]
    refine ((hset.mapAuthority _).record _).recast ?_
    rw [mapAuthority_eq, mapAuthority_eq, setAuthority_setAuthority, setAuthority_authority, if_pos rfl]
    rfl
  · rw [if_neg fun h => hk (hcond.1 h), if_neg hk, if_neg hk]
    refine ((((hset.resetShiftOf i).mapAuthority _).record _).recast ?_).cast rfl ?_
    · simp only [mapAuthority_eq, setAuthority_setAuthority, setAuthority_authority, if_true]
      rfl
    · rw [mapAuthority_eq, setAuthority_authority, if_pos rfl]
      rfl

/-- A write adds two records at most and no report. -/
theorem costs_authorityWritten : Costs 0 2 s (s.authorityWritten w i rights) := by
  have hreset : ∀ u : State, Adds 0 1 u (u.resetShiftOf i) := fun u => (adds_record _ _).before rfl rfl
  have hadds : Adds 0 2 s (s.authorityWritten w i rights) := by
    have hwrite : ∀ u : State, Adds 0 1 u ((u.mapAuthority i fun e => { e with check := Check.fresh }).tableWrite
        (.authority (numberOf i))) := fun u => (adds_record _ _).before rfl rfl
    have hset : ∀ u : State, Adds 0 1 s u → Adds 0 2 s ((u.mapAuthority i fun e =>
        { e with check := Check.fresh }).tableWrite (.authority (numberOf i))) := fun u hu => hu.trans (hwrite u)
    refine hset _ ?_
    split
    · exact .of_eq rfl rfl
    · exact (hreset _).before rfl rfl
  refine .of_adds hadds ?_
  rw [(authorityWritten_event s w i rights).state]
  rfl

/-- The turn of a console that loses its binding, between the turns of the others, which leave it what it has. -/
theorem signOffTurns_own {u : State} {c : Console} {b : Binding} (hb : u.binding c = some b) (hi : b.index = i)
    (hne : (u.authority i).credential ≠ b.credential) :
    ∃ v, Stays c u v ∧ Touches signOffParts u v ∧ Costs 6 3 u v
      ∧ Stays c (v.forceSignOff c) (u.forEach (List.finRange 4) (State.signOffTurn i))
      ∧ Grows (v.forceSignOff c) (u.forEach (List.finRange 4) (State.signOffTurn i)) := by
  obtain ⟨xs, ys, hls, hxs, hys, hfor⟩ := forEach_own (List.nodup_finRange 4) (List.mem_finRange c) (f := State.signOffTurn i)
  have hlen : xs.length ≤ 3 := by
    have := congrArg List.length hls
    simp only [List.length_finRange, List.length_append, List.length_cons] at this
    omega
  have hstay := stays_signOffTurns (s := u) (i := i) hxs
  have htouch : ∀ (ls : List Console) s, Touches signOffParts s (s.forEach ls (State.signOffTurn i)) :=
    touches_forEach fun _ _ => touches_signOffTurn
  have hcost := costs_signOffTurns (i := i) xs u
  have hown : (u.forEach xs (State.signOffTurn i)).signOffTurn i c = (u.forEach xs (State.signOffTurn i)).forceSignOff c := by
    refine if_pos ?_
    unfold State.losesBinding
    rw [hstay.binding, hb, hstay.authority, Option.any_some, if_pos hi]
    exact bne_iff_ne.2 hne
  refine ⟨u.forEach xs (State.signOffTurn i), hstay, htouch xs u, ⟨?_, ?_, hcost.reserved⟩, ?_, ?_⟩
  · have := hcost.reports; omega
  · have := hcost.records; omega
  · rw [hfor, hown]; exact stays_signOffTurns hys
  · rw [hfor, hown]; exact (htouch ys _).grows

/-- A console that a write of its entry signs off (R21, R32): its binding, its halves, its dispenses and its sessions. -/
theorem authorityWritten_signsOff {c : Console} {b : Binding} (hb : s.binding c = some b) (hi : b.index = i)
    (hne : b.credential ≠ w.credential) {a : State}
    (ha : (s.authorityWritten w i rights).forEach (List.finRange 4) (State.signOffTurn i) = a) :
    a.binding c = none ∧ (a.authority i).credential = w.credential ∧ (a.authority i).rights = rights
      ∧ (∀ l : Lane, ∀ p ∈ s.screen.pairSlots[l], p.station = c → a.screen.pairSlots[l] = none
          ∧ (s.journal.ring.length + s.journal.reserved + 11 ≤ 512 →
              ∃ x ∈ a.journal.ring, x.entry = s.stamped (brokenEntry p l))
          ∧ (s.link.used + 18 ≤ 64 → ∀ y ∈ brokenReports p, y ∈ a.link.reports))
      ∧ (∀ k : DispenseSlot, ∀ r ∈ s.dispense.records[k],
          r.station = c → a.dispense.records[k] = some { r with reportStation := .supervisor })
      ∧ ∀ l : Lane, ∀ x ∈ s.session l, x.station = c → a.session l = some { x with reportStation := .supervisor } := by
  have he := authorityWritten_event s w i rights
  have hcost0 := costs_authorityWritten (s := s) (w := w) (i := i) (rights := rights)
  generalize s.authorityWritten w i rights = u at ha he hcost0
  have hauth : u.authority i = s.writtenEntry w i rights := by
    rw [he.state]; exact setAuthority_authority.trans (if_pos rfl)
  have hpairs : u.screen.pairSlots = s.screen.pairSlots := by rw [he.state]; rfl
  have hrecs : u.dispense = s.dispense := by rw [he.state]; rfl
  have hsess : u.deposit = s.deposit := by rw [he.state]; rfl
  have halarm : u.alarm = s.alarm := by rw [he.state]; rfl
  obtain ⟨v, hbefore, htouch, hcost, hafter, hgrows⟩ := signOffTurns_own (u := u) (c := c) (b := b)
    (by rw [he.state]; exact hb) hi (by rw [hauth]; exact hne.symm)
  rw [ha] at hafter hgrows
  have hentry : a.authority i = s.writtenEntry w i rights := by
    rw [hafter.authority, forceSignOff_authority, hbefore.authority, hauth]
  have hrec := hcost0.records
  have hrep := hcost0.reports
  have hrec' := hcost.records
  have hrep' := hcost.reports
  have hres := hcost.reserved.trans hcost0.reserved
  have h6 := halves_le s
  refine ⟨by rw [hafter.binding, forceSignOff_binding, if_pos rfl], by rw [hentry]; rfl, by rw [hentry]; rfl,
    fun l p hp hc => ?_, fun k r hr hc => ?_, fun l x hx hc => ?_⟩
  · obtain ⟨hslot, hj, hl⟩ := forceSignOff_breaks (hbefore.halves l p (by rw [hpairs]; exact hp) hc) hc
    have hstamp : v.stamped (brokenEntry p l) = s.stamped (brokenEntry p l) := by
      unfold State.stamped
      rw [htouch.framed.alarm, halarm]
    refine ⟨hgrows.pairs l hslot, fun hroom => ?_, fun hroom y hy => hgrows.reports.subset (hl (by omega) y hy)⟩
    obtain ⟨x, hx, hxe⟩ := hj (by omega)
    exact ⟨x, hgrows.records.subset hx, hxe.trans hstamp⟩
  · refine hafter.records k _ ?_ hc
    rw [forceSignOff_record, hbefore.records k r (by rw [hrecs]; exact hr) hc, Option.map_some, if_pos hc]
  · refine hafter.sessions l _ ?_ hc
    rw [forceSignOff_session, hbefore.sessions l x (by unfold State.session; rw [hsess]; exact hx) hc, Option.map_some,
      if_pos hc]

/-! ## RESET SHIFT (R23) -/

/-- The entry's shift total set to 0, if it holds a credential. -/
def State.shiftReset (s : State) (i : AuthId) : State :=
  if (s.authority i).credential = 0 then s else s.setAuthority i { s.authority i with shiftTotal := 0 }

/-- The SHIFT RESET record of an entry. -/
def State.shiftResetEntry (s : State) (i : AuthId) : Entry :=
  s.stamped { kind := .shiftReset, authIndex := numberOf i, value := (s.authority i).shiftTotal }

theorem recomputed_ok {x : Check} (h : x = {}) : x.recomputed = x := by rw [h]; rfl

theorem resetShiftOf_event (hc : (c.authority i).check = {}) (h : Event s c t items records) :
    Event s (c.setAuthority i { c.authority i with shiftTotal := 0 }) (t.resetShiftOf i) items
      (records ++ [c.shiftResetEntry i]) := by
  have he := h.resetShiftOf i
  rw [mapAuthority_eq, recomputed_ok hc] at he
  exact he

theorem checkAuthority_ok (hc : (s.authority i).check = {}) : s.checkAuthority i = s := by
  simp [State.checkAuthority, hc]

theorem Event.resetShiftIfOk (h : Event s c t items records) (hc : (c.authority i).check = {}) :
    Event s (c.shiftReset i) (t.resetShiftIfOk i) items
      (records ++ if (c.authority i).credential = 0 then [] else [c.shiftResetEntry i]) := by
  have ha : t.authority i = c.authority i := by rw [h.state]; rfl
  unfold State.resetShiftIfOk State.shiftReset
  rw [ha]
  split
  · exact h.cast rfl (List.append_nil _).symm
  · rw [checkAuthority_ok (by rw [ha]; exact hc)]
    dsimp only
    rw [ha, if_neg (by rw [hc]; decide)]
    exact resetShiftOf_event hc h

theorem shiftReset_authority : (s.shiftReset i).authority j =
    if j = i ∧ (s.authority i).credential ≠ 0 then { s.authority i with shiftTotal := 0 } else s.authority j := by
  unfold State.shiftReset
  split
  · next h => rw [if_neg (by tauto)]
  · next h => rw [setAuthority_authority]; simp only [h, ne_eq, not_false_eq_true, and_true]

/-- Only the Authority Table differs. -/
theorem shiftReset_rest : s.shiftReset i = { s with screen := { s.screen with authority := (s.shiftReset i).screen.authority } } := by
  unfold State.shiftReset
  split <;> rfl

/-- The entries of a list reset one after the other, each as it stood at the start. -/
theorem Event.resetShifts {ls : List AuthId} (hn : ls.Nodup) (h : Event s c t items records)
    (hc : c = { s with screen := { s.screen with authority := c.screen.authority } })
    (hs : ∀ i ∈ ls, c.authority i = s.authority i) (hok : ∀ i, (s.authority i).check = {}) :
    ∃ c', c' = { s with screen := { s.screen with authority := c'.screen.authority } }
      ∧ (∀ i, c'.authority i = if i ∈ ls ∧ (s.authority i).credential ≠ 0 then { s.authority i with shiftTotal := 0 }
          else c.authority i)
      ∧ Event s c' (t.forEach ls State.resetShiftIfOk) items
          (records ++ (ls.filter fun i => decide ((s.authority i).credential ≠ 0)).map s.shiftResetEntry) := by
  induction ls generalizing c t records with
  | nil => exact ⟨c, hc, fun i => by simp, h.cast rfl (by simp)⟩
  | cons j ls ih =>
    obtain ⟨hj, hn⟩ := List.nodup_cons.1 hn
    have hcj := hs j (by simp)
    have hstamp : c.shiftResetEntry j = s.shiftResetEntry j := by
      unfold State.shiftResetEntry State.stamped
      rw [hcj, hc]
    have he := h.resetShiftIfOk (i := j) (by rw [hcj]; exact hok j)
    have hne : ∀ i ∈ ls, i ≠ j := fun i hi hij => hj (hij ▸ hi)
    have hrest : c.shiftReset j = { s with screen := { s.screen with authority := (c.shiftReset j).screen.authority } } := by
      rw [shiftReset_rest, hc]
    obtain ⟨c', hc', ha, he'⟩ := ih hn he hrest fun i hi => by
      rw [shiftReset_authority, if_neg fun hh => hne i hi hh.1, hs i (by simp [hi])]
    refine ⟨c', hc', fun i => ?_, ?_⟩
    · rw [ha, shiftReset_authority, hcj]
      by_cases hij : i = j
      · subst hij
        by_cases h0 : (s.authority i).credential = 0 <;> simp [hj, h0, hcj]
      · simp [hij]
    · refine he'.cast rfl ?_
      rw [hstamp, hcj]
      by_cases h0 : (s.authority j).credential = 0 <;> simp [h0]

end Authority

/-- Settles O34: the write is one event where it signs nobody off; else the turn of the console that loses its binding, which the
turns of the others leave what it has. A reset is an event for each entry. -/
theorem authorityEntriesAreWrittenAndShiftsReset : Obligations.AuthorityEntriesAreWrittenAndShiftsReset := by
  unfold Obligations.AuthorityEntriesAreWrittenAndShiftsReset
  refine ⟨fun s h w i rights hh hn hr hp hl hb => ?write, fun s h w i rights c b hh hn hr hp hl hb hi hne => ?signOff,
    fun s h n i hs hh hn => ?one, fun s h hs hh => ?all⟩
  case write =>
    have he := authorityWritten_event (s.takeFrame h .writeEntry) w i rights
    have hbind : ∀ c, ((s.takeFrame h .writeEntry).authorityWritten w i rights).binding c = none := fun c => by
      rw [he.state]; exact hb c
    have hact : (s.takeFrame h .writeEntry).writeAuthority w =
        ⟨(s.takeFrame h .writeEntry).authorityWritten w i rights, .done, .empty⟩ := by
      rw [writeAuthority_eq hn hr hp hl, forEach_id _ _ fun c => ?_]
      · rfl
      · unfold State.signOffTurn State.losesBinding
        rw [hbind]
        rfl
    obtain ⟨t, ht, hl, htold⟩ := takeMgmt_event (act := fun s => s.writeAuthority w) hh hact he
    exact ⟨t, congrArg _ ht, hl, htold⟩
  case signOff =>
    have hact : (s.takeFrame h .writeEntry).writeAuthority w = _ := writeAuthority_eq hn hr hp hl
    generalize ha : ((s.takeFrame h .writeEntry).authorityWritten w i rights).forEach (List.finRange 4)
      (State.signOffTurn i) = a at hact
    obtain ⟨hbind, hcred, hrights, hhalf, hrec, hsess⟩ := authorityWritten_signsOff (s := s.takeFrame h .writeEntry) hb hi hne ha
    have hrun := takeMgmt_supervised s h .writeEntry (fun s => s.writeAuthority w) hh
    rw [hact] at hrun
    refine ⟨a.respond h .writeEntry .done .empty, congrArg _ hrun, answered_respond .., hbind, hcred, hrights,
      fun l p hpl hc => ?_, hrec, hsess⟩
    obtain ⟨hslot, hj, hr⟩ := hhalf l p hpl hc
    refine ⟨hslot, fun hroom => hj ?_, fun hroom y hy => List.mem_append_left _ (hr ?_ y hy)⟩
    · unfold Journal.free at hroom
      rw [takeFrame_journal]
      omega
    · rw [takeFrame_used]
      omega
  case one =>
    have hact : (s.takeFrame h .resetShift).resetShift (.index n) = ⟨(s.takeFrame h .resetShift).resetShiftOf i, .done, .empty⟩ := by
      unfold State.resetShift
      dsimp only
      rw [hn]
      dsimp only
      rw [checkAuthority_sound (s := s.takeFrame h .resetShift) hs, sound_authority (s := s.takeFrame h .resetShift) hs,
        if_neg (by decide)]
      rfl
    obtain ⟨t, ht, hl, htold⟩ := takeMgmt_event (act := fun s => s.resetShift (.index n)) hh hact
      (resetShiftOf_event (sound_authority (s := s.takeFrame h .resetShift) hs i) Event.refl)
    exact ⟨t, congrArg _ ht, hl, htold⟩
  case all =>
    obtain ⟨c, hc, ha, he⟩ := (Event.refl (s := s.takeFrame h .resetShift)).resetShifts (List.nodup_finRange 32) rfl
      (fun _ _ => rfl) (sound_authority (s := s.takeFrame h .resetShift) hs)
    obtain ⟨t, ht, hl, htold⟩ := takeMgmt_event (act := fun s => s.resetShift .all) hh rfl he
    have hauth : ∀ i, t.authority i = c.authority i := fun i => by rw [hl]; rfl
    refine ⟨t, congrArg _ ht, fun i => ?_, ?_, htold⟩
    · rw [hauth, ha]
      by_cases h0 : (s.authority i).credential = 0
      · rw [if_pos h0, if_neg fun hx => hx.2 h0]; rfl
      · rw [if_neg h0, if_pos ⟨List.mem_finRange i, h0⟩]; rfl
    · have ht : t.screen.authority = c.screen.authority := by rw [hl]; rfl
      rw [ht]
      unfold LogsOnly at hl
      rw [hc] at hl
      exact hl

end Sys2Proof.Machine
end

section
/-! PROOFS. SEND CARRIER, RECALL CARRIER and SEND PRESSED (O29). -/

namespace Sys2Proof.Machine

open Sys2Proof

-- One thread, so that the check's memory holds the stacks.
set_option Elab.async false

section CarrierOrders

variable {s c t : State} {l : Lane} {d : Direction} {o : Origin} {m : ModuleId} {items : List Item} {records : List Entry}

/-! ## A request joins (R124) -/

/-- The Tube Queue with a request at its end. -/
def State.withRequest (s : State) (l : Lane) (d : Direction) (o : Origin) : State :=
  s.mapTube fun t => { t with requests := t.requests ++ [⟨l, d, o, s.now⟩] }

theorem Event.reportCarrier (h : Event s c t items records) (l : Lane) (e : CarrierEvent) (code : Option Code) :
    Event s c (t.reportCarrier l e code)
      (items ++ c.toServing l (carrierReportOf l (c.carrier l) e code) (carrierReportOf l (c.carrier l) e code)) records := by
  have hr : t.reportCarrier l e code =
      t.sendServing l 0 (carrierReportOf l (c.carrier l) e code) (carrierReportOf l (c.carrier l) e code) := by
    unfold State.reportCarrier
    rw [show t.carrier l = c.carrier l by rw [h.state]; rfl]
    rfl
  rw [hr]
  exact h.sendServing ..

/-- The blower arbiter decides nothing while the blower is not IDLE. -/
theorem arbitrateBlower_busy (h : s.tube.blower ≠ .idle) : s.arbitrateBlower = s := if_neg fun hb => h hb.1

/-- A request that binds no dispense joins while the blower is not IDLE. -/
theorem joinRequest_event (hb : s.tube.blower ≠ .idle) : Event s (s.withRequest l d o) (s.joinRequest l d o none)
    (s.toServing l (carrierReportOf l (s.carrier l) .queued none) (carrierReportOf l (s.carrier l) .queued none)) [] := by
  have he : Event s (s.withRequest l d o) (s.withRequest l d o) [] [] := Event.refl.mapTube _
  have hr := he.reportCarrier l .queued none
  have hbusy : ((s.withRequest l d o).reportCarrier l .queued none).tube.blower ≠ .idle := by rw [hr.state]; exact hb
  rw [← arbitrateBlower_busy hbusy] at hr
  exact hr

/-! ## The blower takes a lone request (R129, R130) -/

/-- The carrier of a granted request on its way, with its transit timer. -/
def State.departed (s : State) (l : Lane) (d : Direction) : Carrier :=
  { s.carrier l with
    location := if d = .toLane then .outbound else .inbound
    seated := false
    moveStart := s.now
    timer := if (s.policy l).transitLimit = 0 then none else some ⟨s.now, (s.policy l).transitLimit⟩ }

/-- A lone request granted: the carrier moves, the blower is MOVING and its order is placed. -/
def State.granted (s : State) (l : Lane) (d : Direction) (m : ModuleId) : State :=
  { s with
    tube := { s.tube with carriers := s.tube.carriers.set l (s.departed l d), blower := .moving l }
    bus := { s.bus with outgoing := s.bus.outgoing ++ [s.orderTo m .tube (.blowerMove l d)] } }

/-- The carrier sent on its way and the blower MOVING. -/
def State.departs (s : State) (l : Lane) (d : Direction) : State :=
  s.mapTube fun t => { t with carriers := t.carriers.set l (s.departed l d), blower := .moving l }

theorem departs_eq : (((s.mapCarrier l fun c =>
    { c with location := if d = .toLane then .outbound else .inbound, seated := false, moveStart := s.now }).mapCarrier l
      fun c => { c with timer := if (s.policy l).transitLimit = 0 then none else some (s.timer (s.policy l).transitLimit) }).mapTube
        fun t => { t with blower := .moving l }) = s.departs l d := by
  unfold State.mapCarrier State.mapTube State.departs State.departed
  simp only [Fin.getElem_fin, Vector.getElem_set_self, Vector.set_set]
  rfl

theorem grant_eq {r : Request} (hs : t.soundTables = true) (ht : s.dropRequest r.lane = t) : s.grant r =
    (((t.departs r.lane r.direction).post t.blowerEntry .tube (.blowerMove r.lane r.direction)).record
      { kind := .carrierMove, lane := numberOf r.lane, facts := [.direction r.direction] }).reportCarrier r.lane .moving := by
  have hsound : (t.mapCarrier r.lane fun c =>
      { c with location := if r.direction = .toLane then .outbound else .inbound, seated := false, moveStart := t.now }).soundTables
        = true := hs
  have hlimit : (t.mapCarrier r.lane fun c => { c with
      location := if r.direction = .toLane then .outbound else .inbound, seated := false, moveStart := t.now }).transitLimit
        r.lane = (t.policy r.lane).transitLimit := by
    unfold State.transitLimit
    change (if (t.policy r.lane).check.faulted then _ else (t.policy r.lane).transitLimit) = _
    rw [sound_policy hs, if_neg (by decide)]
  unfold State.grant
  rw [ht]
  dsimp only
  rw [usePolicy_sound hsound, hlimit, ← departs_eq]
  rfl

theorem withRequest_dropRequest (hr : s.tube.requests = []) : (s.withRequest l d o).dropRequest l = s := by
  have hone : (s.tube.requests ++ [(⟨l, d, o, s.now⟩ : Request)]).filter (fun r => r.lane ≠ l) = s.tube.requests := by simp [hr]
  exact congrArg (fun q => { s with tube := { s.tube with requests := q } }) hone

theorem Event.departs (h : Event s c t items records) (l : Lane) (d : Direction) :
    Event s (c.departs l d) (t.departs l d) items records := by
  unfold State.departs
  rw [show t.departed l d = c.departed l d by rw [h.state]; rfl]
  exact h.mapTube _

/-- A lone request that joins is granted at once by an idle blower. -/
theorem joinRequest_granted (hs : s.soundTables = true) (hr : s.tube.requests = []) (hb : s.tube.blower = .idle)
    (hl : d = .toTeller ∨ s.alarm.lockdown = false) (hm : s.blowerEntry = some m) (hg : (s.module m).health.good = true)
    (hq : s.bus.outgoing.length < 48) : ∃ items records, Event s (s.granted l d m) (s.joinRequest l d o none) items records := by
  have he : Event s (s.withRequest l d o) (s.withRequest l d o) [] [] := Event.refl.mapTube _
  have hj := he.reportCarrier l .queued none
  unfold State.joinRequest
  simp only [Option.isSome_none, Bool.false_eq_true, if_false]
  change ∃ items records, Event s _ ((s.withRequest l d o).reportCarrier l .queued).arbitrateBlower items records
  generalize (s.withRequest l d o).reportCarrier l .queued = u at hj
  have hgood : u.tube.blower = .idle ∧ u.entryGood u.blowerEntry = true := by
    have hentry : u.blowerEntry = some m := by rw [hj.state]; exact hm
    refine ⟨by rw [hj.state]; exact hb, ?_⟩
    rw [hentry]
    unfold State.entryGood State.healthOf
    rw [hj.state]
    exact hg
  have hnext : u.nextGrant = some ⟨l, d, o, s.now⟩ := by
    unfold State.nextGrant
    rw [show u.tube.requests = [⟨l, d, o, s.now⟩] by rw [hj.state]; exact congrArg (· ++ [_]) hr,
      show u.alarm.lockdown = s.alarm.lockdown by rw [hj.state]; rfl]
    rcases hl with rfl | hl
    · simp [firstBy]
    · simp [firstBy, hl]
  have hdrop := hj.mapTube fun t => { t with requests := t.requests.filter fun q => q.lane ≠ l }
  change Event s ((s.withRequest l d o).dropRequest l) (u.dropRequest l) _ _ at hdrop
  rw [withRequest_dropRequest hr] at hdrop
  generalize hv : u.dropRequest l = v at hdrop
  have hsv : v.soundTables = true := by rw [hdrop.state]; exact hs
  unfold State.arbitrateBlower
  rw [if_pos hgood, hnext]
  dsimp only
  rw [grant_eq hsv hv]
  have hentry : v.blowerEntry = some m := by rw [hdrop.state]; exact hm
  exact ⟨_, _, (((hdrop.departs l d).post (w := .tube) (o := .blowerMove l d) hentry hq).record _).reportCarrier l .moving none⟩

/-! ## A request that binds a dispense (R67, R125) -/

theorem Framed.lanes {ps : List Part} (h : Framed ps s t)
    (hd : Machine.apart [.copies, .writeSelect, .operateSelect, .laneRecs] ps = true := by decide) : t.lanes = s.lanes :=
  have k := fun p hp => h p (not_mem_of_apart hd hp)
  have hc := k .copies (by decide)
  (LaneControl.mk.injEq ..).mpr ⟨congrArg Prod.fst hc, congrArg Prod.snd hc, k .writeSelect (by decide),
    k .operateSelect (by decide), k .laneRecs (by decide)⟩

/-- The dispense that is bound is IN TRANSIT. -/
theorem noticeBound_inTransit {id : Nat} {i : DispenseSlot} (hi : s.dispenseOf id = some i) :
    ((s.noticeBound id).dispense.records[i]).any (fun r => decide (r.id = id ∧ r.state = .inTransit)) = true := by
  have hown : (s.recordAt i).any (fun r => r.id == id) = true :=
    List.find?_some (p := fun i => (s.recordAt i).any fun r : DispenseRecord => r.id == id) hi
  have hrec : (s.noticeBound id).recordAt i =
      ((s.touchDispense i).recordAt i).map fun r => { r with state := .inTransit } := by
    unfold State.noticeBound
    rw [hi]
    dsimp only
    rw [touches_reportDispense.framed.recordAt i, (touches_onDispense fun _ => touches_record).framed.recordAt i,
      mapDispenseAt_recordAt, if_pos rfl]
  change ((s.noticeBound id).recordAt i).any _ = true
  rw [hrec, touchDispense_own]
  cases hr : s.recordAt i with
  | none => rw [hr] at hown; cases hown
  | some r => rw [hr] at hown; simpa using hown

/-- The Tube Queue and the carrier of a request that binds a dispense. -/
def State.withBinding (s : State) (l : Lane) (o : Origin) (id : Nat) : State :=
  (s.withRequest l .toLane o).mapCarrier l fun c => { c with bound := some id }

/-- It joins while the blower is not IDLE: the dispense is IN TRANSIT, and no more is done. -/
theorem joinRequest_binds {id : Nat} (hb : s.tube.blower ≠ .idle) :
    ∃ u, LogsOnly (s.withBinding l o id) u ∧ s.joinRequest l .toLane o (some id) = u.noticeBound id := by
  have hl : LogsOnly (s.withBinding l o id) ((s.withBinding l o id).reportCarrier l .queued) :=
    (Event.refl.reportCarrier l .queued none).state
  refine ⟨_, hl, arbitrateBlower_busy ?_⟩
  change (((s.withBinding l o id).reportCarrier l .queued).noticeBound id).tube.blower ≠ .idle
  rw [touches_noticeBound.framed.tube, hl]
  exact hb

/-- The dispense a SEND CARRIER binds is the lane's transaction, and has its record. -/
theorem toBind_some {id : Nat} (h : s.toBind l = some id) : (s.laneRec l).txn.isSome = true ∧ ∃ i, s.dispenseOf id = some i := by
  unfold State.toBind at h
  split at h
  · next k hk =>
    obtain ⟨i, hi, r, -, hr⟩ : ∃ i, s.dispenseOf k = some i ∧ ∃ r, s.dispense.records[i] = some r ∧ _ := by
      simpa only [Option.bind_eq_some_iff] using h
    split at hr
    · cases hr; exact ⟨by rw [hk]; rfl, i, hi⟩
    · cases hr
  · cases h

/-! ## The orders' checks (R26, R125, R126) -/

variable {h : Sender} {c : Console} {b : Binding} {n : Nat}

theorem condition_unlocked (h : s.alarm.lockdown = false) : (s.condition != .lockdown) = true := by
  unfold State.condition
  rw [h]
  cases s.alarm.duress <;> rfl

/-- What SEND CARRIER's checks ask, past those of its console and lane. -/
structure State.sendable (s : State) (l : Lane) : Prop where
  opened : (s.laneRec l).state ≠ .closed
  held : (s.laneRec l).state = .held → (s.laneRec l).txn.isSome = true
  unlocked : s.alarm.lockdown = false
  lone : s.requestOf l = none
  seated : (s.carrier l).location = .teller ∧ (s.carrier l).seated = true
  blower : s.blowerUsable = true
  station : s.entryReachable (s.stationEntry l) = true

theorem sendCarrier_pass (hs : s.soundTables = true) (hst : h.station = .console c) (he : s.holdsRight c b Rights.tube)
    (hp : s.mgmt.partState ≠ .unconfigured) (hn : numbered 6 n = some l) (hv : (s.policy l).serving[c] = true)
    (hpair : s.screen.pairSlots[l] = none) (hk : s.sendable l) :
    s.sendCarrier h n = answer (s.joinRequest l .toLane (.station (.console c)) (s.toBind l)) .accepted := by
  have hheld : ((s.laneRec l).state != .held || (s.laneRec l).txn.isSome) = true := by
    by_cases hx : (s.laneRec l).state = .held
    · simp [hk.held hx]
    · simp [hx]
  have hpass : s.checks ([stepOpen l, stepSendable l, stepCondition] ++ checksSend l) = (s, none) := by
    unfold stepOpen stepSendable stepCondition checksSend
    simp only [List.cons_append, List.nil_append]
    rw [checks_need, if_pos (by simp [hk.opened]), checks_need, if_pos hheld, checks_need,
      if_pos (condition_unlocked hk.unlocked), checks_need, if_pos (by rw [hk.lone]; rfl), checks_need, if_pos (by simp [hk.seated]), checks_need, if_pos hk.blower, checks_need,
      if_pos hk.station, checks_nil]
  unfold State.sendCarrier
  rw [consoleLaneOrder_pass (by rw [if_pos rfl, breakNamed_none hn hpair]) hs (.inr ⟨rfl, hp⟩) hst he hn hv, ifPass_pass hpass]

theorem recallCarrier_pass (hp : s.mgmt.partState ≠ .unconfigured) (hn : numbered 6 n = some l)
    (hpair : s.screen.pairSlots[l] = none) (hreq : s.requestOf l = none)
    (hat : (s.carrier l).location = .lane ∧ (s.carrier l).seated = true) (hb : s.blowerUsable = true) :
    s.recallCarrier .supervisor n = answer (s.joinRequest l .toTeller (.station .supervisor) none) .accepted := by
  have hpass : s.checks (checksRecall l) = (s, none) := by
    unfold checksRecall
    rw [checks_need, if_pos (by rw [hreq]; rfl), checks_need, if_pos (by simp [hat]), checks_need, if_pos hb, checks_nil]
  unfold State.recallCarrier
  rw [sharedLaneOrder_supervisor hn hpair (.inr ⟨rfl, hp⟩), ifPass_pass hpass]

theorem requestOf_nil (h : s.tube.requests = []) : s.requestOf l = none := by
  unfold State.requestOf
  rw [h]
  rfl

/-- A good blower is usable. -/
theorem blowerUsable_good (hm : s.blowerEntry = some m) (hg : (s.module m).health.good = true) : s.blowerUsable = true := by
  unfold State.blowerUsable State.entryReachable State.healthOf
  rw [hm]
  change ((s.module m).health != .isolated) = true
  generalize (s.module m).health = x at hg ⊢
  cases x <;> simp_all [Health.good]

/-! ## SEND PRESSED (R127) -/

/-- A good poll reply with one SEND PRESSED of a lane station is taken as one of its lane. -/
theorem deliver_sendPressed {f : Frame} {cond : Nat} {k : Lane} (hf : f.content = .poll) (hn : s.nodeEntry f.node = some m)
    (hk : (s.module m).kind = .laneStation) (hl : (s.module m).lane = numberOf l) :
    s.deliver f .good (.poll cond [.sendPressed k]) = s.takeSendPressed l := by
  have hcond : s.takeCondition m cond = s := if_neg (by rw [hk]; decide)
  have htake : s.takeReport m (.sendPressed k) = s.takeSendPressed l := by
    unfold State.takeReport
    rw [hk]
    dsimp only
    rw [numbered_eq_some.2 hl]
    rfl
  unfold State.deliver
  rw [hf]
  change s.takePoll f.node (.poll cond [.sendPressed k]) = _
  unfold State.takePoll
  rw [hn]
  dsimp only
  rw [hcond, forEach_cons, htake]
  rfl

theorem takeSendPressed_pass (hreq : s.requestOf l = none) (hat : (s.carrier l).location = .lane ∧ (s.carrier l).seated = true)
    (hb : s.blowerUsable = true) : s.takeSendPressed l = s.joinRequest l .toTeller .customer none := by
  have hfault : s.sendFault l = none := by
    unfold State.sendFault
    dsimp only
    rw [if_neg (by simp [hat]), if_neg (by simp [hreq]), if_pos hb]
  unfold State.takeSendPressed
  rw [hfault]

/-- The Module Table's look-ups hang on the fields they ask for alone. -/
theorem findModule_congr {p : Module → Bool} (h : ∀ i, (t.module i).node = (s.module i).node ∧ p (t.module i) = p (s.module i)) :
    t.findModule p = s.findModule p := by
  unfold State.findModule
  congr 1
  funext i
  obtain ⟨hn, hp⟩ := h i
  change (((t.module i).node != 0) && p (t.module i)) = (((s.module i).node != 0) && p (s.module i))
  rw [hn, hp]

theorem bettered_fields (e : Module) : e.bettered.node = e.node ∧ e.bettered.kind = e.kind ∧ e.bettered.lane = e.lane
    ∧ e.bettered.health = e.health := by
  obtain ⟨c, hc⟩ := changedTo_eq e { e with
    orderErrors := e.orderErrors - 1, replyErrors := e.replyErrors - 1, mark96 := false, mark128 := false, mark256 := false }
  unfold Module.bettered
  rw [hc]
  exact ⟨rfl, rfl, rfl, rfl⟩

/-- The state in which a good exchange's owner is told. -/
def State.polledGood (s : State) (m : ModuleId) : State := s.exchangeOver.setModule m (s.module m).bettered

theorem polledGood_module (i : ModuleId) : ((s.polledGood m).module i).node = (s.module i).node
    ∧ ((s.polledGood m).module i).kind = (s.module i).kind ∧ ((s.polledGood m).module i).lane = (s.module i).lane
    ∧ ((s.polledGood m).module i).health = (s.module i).health := by
  unfold State.polledGood
  rw [setModule_module]
  split
  · next h => rw [h]; exact bettered_fields _
  · exact ⟨rfl, rfl, rfl, rfl⟩

theorem polledGood_nodeEntry (n : Nat) : (s.polledGood m).nodeEntry n = s.nodeEntry n :=
  findModule_congr fun i => ⟨(polledGood_module i).1, by rw [(polledGood_module i).1]⟩

theorem polledGood_blowerUsable : (s.polledGood m).blowerUsable = s.blowerUsable := by
  have he : (s.polledGood m).blowerEntry = s.blowerEntry :=
    findModule_congr fun i => ⟨(polledGood_module i).1, by rw [(polledGood_module i).2.1]⟩
  unfold State.blowerUsable State.entryReachable State.healthOf
  rw [he]
  cases s.blowerEntry with
  | none => rfl
  | some i => exact congrArg (· != Health.isolated) (polledGood_module i).2.2.2

end CarrierOrders

/-- Settles O29: a request joins as one event, and an idle blower's grant of a lone one is part of it. -/
theorem carrierOrdersQueueARequest : Obligations.CarrierOrdersQueueARequest := by
  unfold Obligations.CarrierOrdersQueueARequest
  refine ⟨fun s h c b n l hs he hp hn hv ho hheld hlock hpair hreq hat hblower hstation hbind hbusy => ?send,
    fun s h c b n l id hs he hp hn hv ho hlock hpair hreq hat hblower hstation hbind hbusy => ?bind,
    fun s h n l hsup hp hn hpair hreq hat hblower hbusy => ?recalled,
    fun s h c b n l m hs he hp hn hv ho hheld hlock hpair hreq hat hstation hbind hidle hm hg hq => ?sendGranted,
    fun s h n l m hs hsup hp hn hpair hreq hat hidle hm hg hq => ?recallGranted,
    fun s x m r cond l k hpoll hk hl hreq hat hblower hbusy => ?pressed⟩
  case send =>
    have ha := sendCarrier_pass (s := s.takeFrame h .sendCarrier) hs he.1 (holdsRight_of_entitled he) hp hn hv hpair
      ⟨ho, hheld, hlock, hreq, hat, hblower, hstation⟩
    rw [show (s.takeFrame h .sendCarrier).toBind l = none from hbind] at ha
    obtain ⟨t, ht, hl, htold⟩ := takeOrder_event (act := fun s => s.sendCarrier h n) he.2.1 ha (joinRequest_event hbusy)
    exact ⟨t, congrArg _ ht, hl, htold⟩
  case bind =>
    obtain ⟨htxn, i, hi⟩ := toBind_some hbind
    have ha := sendCarrier_pass (s := s.takeFrame h .sendCarrier) hs he.1 (holdsRight_of_entitled he) hp hn hv hpair
      ⟨ho, fun _ => htxn, hlock, hreq, hat, hblower, hstation⟩
    obtain ⟨u, hl, hj⟩ := joinRequest_binds (s := s.takeFrame h .sendCarrier) (l := l) (o := .station (.console c)) (id := id) hbusy
    rw [show (s.takeFrame h .sendCarrier).toBind l = some id from hbind, hj] at ha
    have hf := (touches_noticeBound (s := u) (id := id)).framed
    have hrec := noticeBound_inTransit (s := u) (id := id) (i := i) (by rw [hl]; exact hi)
    have hresp := logsOnly_respond (u.noticeBound id) h .sendCarrier .accepted .empty
    refine ⟨(u.noticeBound id).respond h .sendCarrier .accepted .empty, congrArg Host.Outcome.next (?_ : s.takeOrder h _ _ = _),
      answered_respond .., ?_, ?_, ?_, ?_, ?_, ?_, ?_, ?_, ?_⟩
    · rw [takeOrder_room s h _ _ _ he.2.1, ha]
      rfl
    · rw [hresp]; exact hf.tube.trans (congrArg State.tube hl)
    · rw [hi, hresp]; exact hrec
    · rw [hresp]; exact hf.lanes.trans (by rw [hl]; rfl)
    · rw [hresp]; exact hf.screen.trans (by rw [hl]; rfl)
    · rw [hresp]; exact hf.cash.trans (by rw [hl]; rfl)
    · rw [hresp]; exact hf.deposit.trans (by rw [hl]; rfl)
    · rw [hresp]; exact hf.envelope.trans (by rw [hl]; rfl)
    · rw [hresp]; exact hf.alarm.trans (by rw [hl]; rfl)
    · rw [hresp]; exact hf.bus.trans (by rw [hl]; rfl)
  case recalled =>
    obtain ⟨hst, hu⟩ := hsup
    have ha := recallCarrier_pass (s := s.takeFrame h .recallCarrier) hp hn hpair hreq hat hblower
    rw [← hst] at ha
    obtain ⟨t, ht, hl, htold⟩ := takeOrder_event (act := fun s => s.recallCarrier h.station n) hu ha (joinRequest_event hbusy)
    rw [hst] at hl
    exact ⟨t, congrArg _ ht, hl, htold⟩
  case sendGranted =>
    have ha := sendCarrier_pass (s := s.takeFrame h .sendCarrier) hs he.1 (holdsRight_of_entitled he) hp hn hv hpair
      ⟨ho, hheld, hlock, requestOf_nil hreq, hat, blowerUsable_good (s := s.takeFrame h .sendCarrier) hm hg, hstation⟩
    rw [show (s.takeFrame h .sendCarrier).toBind l = none from hbind] at ha
    obtain ⟨items, records, hj⟩ := joinRequest_granted (s := s.takeFrame h .sendCarrier) (d := .toLane) (l := l)
      (o := .station (.console c)) hs hreq hidle (.inr hlock) hm hg hq
    obtain ⟨t, ht, hl, htold⟩ := takeOrder_event (act := fun s => s.sendCarrier h n) he.2.1 ha hj
    exact ⟨t, congrArg _ ht, htold.1, hl⟩
  case recallGranted =>
    obtain ⟨hst, hu⟩ := hsup
    have ha := recallCarrier_pass (s := s.takeFrame h .recallCarrier) hp hn hpair (requestOf_nil hreq) hat
      (blowerUsable_good (s := s.takeFrame h .recallCarrier) hm hg)
    obtain ⟨items, records, hj⟩ := joinRequest_granted (s := s.takeFrame h .recallCarrier) (d := .toTeller) (l := l)
      (o := .station .supervisor) hs hreq hidle (.inl rfl) hm hg hq
    rw [← hst] at ha hj
    obtain ⟨t, ht, hl, htold⟩ := takeOrder_event (act := fun s => s.recallCarrier h.station n) hu ha hj
    exact ⟨t, congrArg _ ht, htold.1, hl⟩
  case pressed =>
    obtain ⟨haw, hf, hw, ⟨hok, hdest, hsource⟩, hcls, hbody⟩ := hpoll
    have hres : resultOf x.frame r = .good := by simp [resultOf, hok, hdest, hsource, hf, hbody, hcls, pollOk, reportOk, isPickReport]
    have hcontent : contentOf r = .poll cond [.sendPressed k] := by simp [contentOf, hcls, hbody]
    have hmod := polledGood_module (s := s) (m := m) m
    have hend : s.endBusExchange x .good (.poll cond [.sendPressed k]) =
        (s.polledGood m).joinRequest l .toTeller .customer none := by
      rw [awaits_delivered haw (by rw [hf]; decide) (awaits_stays haw rfl) (.inr rfl)]
      change (s.polledGood m).deliver x.frame .good _ = _
      rw [deliver_sendPressed hf (by rw [polledGood_nodeEntry]; exact haw.2.1) (hmod.2.1.trans hk) (hmod.2.2.1.trans hl),
        takeSendPressed_pass (s := s.polledGood m) hreq hat (by rw [polledGood_blowerUsable]; exact hblower)]
    have hj := joinRequest_event (s := s.polledGood m) (l := l) (d := .toTeller) (o := .customer) hbusy
    refine ⟨_, (exec_reply haw.1 hw r).trans (by rw [hres, hcontent, hend]), hj.state, ?_⟩
    exact hj.noted

end Sys2Proof.Machine
end

section
/-! SUPPORT. The waiting commands, the lanes of the Tube Queue's requests and the credentials bound, as the operations keep them. -/

namespace Sys2Proof.Machine

open Sys2Proof

-- One thread, so that the check's memory holds the stacks.
set_option Elab.async false

/-! ## What every operation keeps -/

/-- The waiting commands stay, and so do the rules of one request a lane and one console a credential (R17, R124). -/
structure Keeps (s t : State) : Prop where
  pending : t.pending = s.pending
  requests : s.oneRequestPerLane → t.oneRequestPerLane
  bindings : s.bindingsDiffer → t.bindingsDiffer

section Keeps

variable {s t u : State} {ps : List Part}

theorem Keeps.refl : Keeps s s := ⟨rfl, id, id⟩

theorem Keeps.trans (h : Keeps s t) (k : Keeps t u) : Keeps s u :=
  ⟨k.pending.trans h.pending, k.requests ∘ h.requests, k.bindings ∘ h.bindings⟩

/-- What leaves the three parts alone keeps them. -/
theorem Framed.keeps (h : Framed ps s t) (hd : Machine.apart [.pending, .requests, .consoles] ps = true := by decide) : Keeps s t := by
  have k := fun p hp => h p (not_mem_of_apart hd hp)
  have hr : t.tube.requests = s.tube.requests := k .requests (by decide)
  have hb : ∀ c, t.binding c = s.binding c := fun c =>
    congrArg (fun v : Vector (Option Binding) 4 => v[c]) (k .consoles (by decide))
  refine ⟨k .pending (by decide), fun ho => ?_, fun ho c d => ?_⟩
  · unfold State.oneRequestPerLane
    rw [hr]
    exact ho
  · rw [hb, hb]
    exact ho c d

theorem Touches.keeps (h : Touches ps s t) (hd : Machine.apart [.pending, .requests, .consoles] ps = true := by decide) :
    Keeps s t := h.framed.keeps hd

/-- One operation after another, the second of those that leave the three parts alone. -/
theorem Keeps.via (h : Keeps s t) (k : Touches ps t u)
    (hd : Machine.apart [.pending, .requests, .consoles] ps = true := by decide) : Keeps s u := h.trans (k.keeps hd)

theorem Keeps.ite {c : Prop} [Decidable c] (h : c → Keeps s t) (k : ¬c → Keeps s u) : Keeps s (if c then t else u) := by
  split
  · exact h ‹_›
  · exact k ‹_›

theorem keeps_forEach {α : Type} {f : State → α → State} (h : ∀ s x, Keeps s (f s x)) (l : List α) (s : State) :
    Keeps s (s.forEach l f) := by
  unfold State.forEach
  induction l generalizing s with
  | nil => exact .refl
  | cons x l ih => exact (h s x).trans (ih (f s x))

/-- Requests that leave the Tube Queue. -/
theorem Framed.keeps_sublist (h : Framed ps s t) (hr : t.tube.requests.Sublist s.tube.requests)
    (hd : Machine.apart [.pending, .consoles] ps = true := by decide) : Keeps s t := by
  have k := fun p hp => h p (not_mem_of_apart hd hp)
  have hb : ∀ c, t.binding c = s.binding c := fun c =>
    congrArg (fun v : Vector (Option Binding) 4 => v[c]) (k .consoles (by decide))
  refine ⟨k .pending (by decide), fun ho => ho.sublist (hr.map _), fun ho c d => ?_⟩
  rw [hb, hb]
  exact ho c d

end Keeps

/-! ## The Tube Queue (R124) -/

section Tube

variable {s : State} {l : Lane}

theorem keeps_dropRequest : Keeps s (s.dropRequest l) :=
  touches_dropRequest.framed.keeps_sublist List.filter_sublist

theorem keeps_removeRequest {c : Code} : Keeps s (s.removeRequest l c) :=
  touches_removeRequest.framed.keeps_sublist (by rw [removeRequest_requests]; exact List.filter_sublist)

theorem keeps_grant {r : Request} : Keeps s (s.grant r) := by
  unfold State.grant
  exact keeps_dropRequest.via touches_mapCarrier |>.via touches_usePolicy |>.via touches_mapCarrier |>.via touches_setBlower
    |>.via touches_post |>.via touches_record |>.via touches_reportCarrier

theorem keeps_arbitrateBlower : Keeps s s.arbitrateBlower := by
  unfold State.arbitrateBlower
  refine .ite (fun _ => ?_) fun _ => .refl
  split
  · exact keeps_grant
  · exact .refl

/-- A request joins where its lane has none. -/
theorem keeps_appendRequest {r : Request} (h : s.requestOf r.lane = none) :
    Keeps s (s.mapTube fun t => { t with requests := t.requests ++ [r] }) := by
  refine ⟨rfl, fun ho => ?_, id⟩
  have hno : ∀ q ∈ s.tube.requests, q.lane ≠ r.lane := fun q hq => by simpa using List.find?_eq_none.1 h q hq
  simp only [State.oneRequestPerLane, State.mapTube, List.map_append, List.map_cons, List.map_nil]
  refine List.nodup_append.2 ⟨ho, List.nodup_singleton _, ?_⟩
  simp only [List.mem_map, List.mem_singleton]
  rintro x ⟨q, hq, rfl⟩ y rfl
  exact hno q hq

theorem keeps_joinRequest {d : Direction} {o : Origin} {b : Option Nat} (h : s.requestOf l = none) :
    Keeps s (s.joinRequest l d o b) := by
  unfold State.joinRequest
  dsimp only
  refine Keeps.trans ?_ keeps_arbitrateBlower
  have hbound : Keeps s (if b.isSome then (s.mapTube fun t =>
      { t with requests := t.requests ++ [{ lane := l, direction := d, origin := o, arrival := s.now }] }).mapCarrier l
        fun c => { c with bound := b } else s.mapTube fun t =>
      { t with requests := t.requests ++ [{ lane := l, direction := d, origin := o, arrival := s.now }] }) :=
    .ite (fun _ => (keeps_appendRequest h).via touches_mapCarrier) fun _ => keeps_appendRequest h
  split
  · exact hbound.via touches_reportCarrier |>.via touches_noticeBound
  · exact hbound.via touches_reportCarrier

/-! ## Movements -/

theorem keeps_takeArrived {e : TubeEnd} : Keeps s (s.takeArrived l e) := by
  unfold State.takeArrived
  exact (Keeps.ite (fun _ => touches_arrive.keeps) fun _ => .ite (fun _ => touches_lateArrival.keeps) fun _ =>
    .ite (fun _ => touches_record.keeps) fun _ => touches_strayCarrier.keeps).trans keeps_arbitrateBlower

theorem keeps_overdue {k : Lost} : Keeps s (s.overdue l k) := by
  unfold State.overdue
  have h : Keeps s ((s.retireMove l).mapCarrier l fun c =>
      { c with location := .unknown, cause := some k.cause, seated := false, timer := none }) :=
    touches_retireMove.keeps.via touches_mapCarrier
  exact (Keeps.ite (fun _ => h.via touches_post) fun _ => h).via touches_releaseBlower |>.via touches_postHold
    |>.via touches_record |>.via touches_reportCarrier |>.trans keeps_arbitrateBlower

theorem keeps_moveRefused {c : Cause} {n : Nat} : Keeps s (s.moveRefused l c n) := by
  unfold State.moveRefused
  dsimp only
  split
  · exact .refl
  · exact touches_mapCarrier.keeps.via touches_setBlower |>.via touches_record |>.via touches_reportCarrier
      |>.via touches_notifyBack |>.trans keeps_arbitrateBlower

theorem keeps_blowerMoveEnded {b : Bool} {r : Result} : Keeps s (s.blowerMoveEnded l b r) := by
  unfold State.blowerMoveEnded
  split
  · exact .ite (fun _ => keeps_moveRefused) fun _ => .refl
  · exact .refl

theorem keeps_blowerMoveWithdrawn {b : Bool} : Keeps s (s.blowerMoveWithdrawn l b) := by
  unfold State.blowerMoveWithdrawn
  exact .ite (fun _ => keeps_moveRefused) fun _ => .refl

theorem keeps_lift {e : TubeEnd} : Keeps s (s.lift l e) := by
  unfold State.lift
  have h : Keeps s (if (s.carrier l).seated ∨
      (if e = .lane then (s.carrier l).bound else none).isSome then (s.mapCarrier l fun c =>
        { c with seated := false, bound := if e = .lane then none else c.bound }).reportCarrier l .lifted else
      s.mapCarrier l fun c => { c with seated := false, bound := if e = .lane then none else c.bound }) :=
    .ite (fun _ => touches_mapCarrier.keeps.via touches_reportCarrier) fun _ => touches_mapCarrier.keeps
  dsimp only
  generalize (if e = TubeEnd.lane then (s.carrier l).bound else none) = d at h ⊢
  cases d
  · exact .ite (fun _ => h.trans keeps_removeRequest) fun _ => h
  · exact .ite (fun _ => h.via touches_noticeLifted |>.trans keeps_removeRequest) fun _ => h.via touches_noticeLifted

theorem keeps_takeSeated {e : TubeEnd} : Keeps s (s.takeSeated l e) := by
  unfold State.takeSeated
  exact (Keeps.ite (fun _ => .ite (fun _ => .refl) fun _ => touches_mapCarrier.keeps.via touches_reportCarrier) fun _ =>
    .ite (fun _ => touches_arrive.keeps) fun _ => .ite (fun _ => touches_lateArrival.keeps) fun _ =>
      touches_strayCarrier.keeps).trans keeps_arbitrateBlower

theorem keeps_takeLifted {e : TubeEnd} : Keeps s (s.takeLifted l e) := by
  unfold State.takeLifted
  exact (Keeps.ite (fun _ => keeps_lift) fun _ => .ite (fun _ => touches_arrive.keeps.trans keeps_lift) fun _ =>
    .ite (fun _ => touches_lateArrival.keeps.trans keeps_lift) fun _ => touches_strayCarrier.keeps).trans
      keeps_arbitrateBlower

/-- SEND PRESSED finds no fault where the lane has no request (R127). -/
theorem keeps_takeSendPressed : Keeps s (s.takeSendPressed l) := by
  unfold State.takeSendPressed
  split
  · next h =>
    refine keeps_joinRequest ?_
    unfold State.sendFault at h
    cases hr : s.requestOf l with
    | none => rfl
    | some r =>
      dsimp only at h
      split at h
      · cases h
      · rw [hr] at h
        cases h
  · exact touches_record.keeps

theorem keeps_tubeLockdown : Keeps s s.tubeLockdown := keeps_forEach (fun _ _ => keeps_removeRequest) _ _

theorem keeps_blowerIsolated : Keeps s s.blowerIsolated :=
  touches_blowerIsolated.framed.keeps_sublist (by rw [blowerIsolated_requests]; exact List.nil_sublist _)

theorem keeps_restTimer : Keeps s s.restTimer := by
  unfold State.restTimer
  split
  · exact .ite (fun _ => touches_setBlower.keeps.trans keeps_arbitrateBlower) fun _ => .refl
  · exact .refl

theorem keeps_transitTimer : Keeps s (s.transitTimer l) := by
  unfold State.transitTimer
  exact .ite (fun _ => keeps_overdue) fun _ => .refl

theorem keeps_clearTube {n : Nat} : Keeps s (s.clearTube n).state := by
  unfold State.clearTube
  split
  · exact .refl
  · split
    · dsimp only [answer]
      exact keeps_overdue
    · exact .refl

end Tube

/-! ## Lockdown (R136, R147) -/

section Alarm

variable {s : State} {i : LoopId}

theorem keeps_raiseLockdown {c : Cause} : Keeps s (s.raiseLockdown c) := by
  unfold State.raiseLockdown
  exact .ite (fun _ => .refl) fun _ => touches_setLockdownLatch.keeps.via touches_record |>.via touches_lockdownFlush
    |>.via touches_dispenseLockdown |>.via touches_depositLockdown |>.via touches_envelopeLockdown
    |>.trans keeps_tubeLockdown |>.via touches_reportWall7 |>.via touches_reportWallConsoles

theorem keeps_respondTrip {r : Response} : Keeps s (s.respondTrip i r) := by
  unfold State.respondTrip
  cases r
  · exact touches_raiseDuress.keeps
  · exact keeps_raiseLockdown
  · dsimp only
    split
    · exact touches_postHold.keeps
    · exact .refl
  · exact touches_suspendFor.keeps
  · exact .refl

theorem keeps_tripLoop : Keeps s (s.tripLoop i) := by
  unfold State.tripLoop
  exact touches_mapLoop.keeps.via touches_checkLoop |>.via touches_appliedTo |>.via touches_mapLoop
    |>.trans (keeps_forEach (fun _ _ => keeps_respondTrip) _ _) |>.via touches_recordLoop |>.via touches_reportLoop

theorem keeps_qualifyTimer : Keeps s (s.qualifyTimer i) := by
  unfold State.qualifyTimer
  exact .ite (fun _ => keeps_tripLoop) fun _ => .refl

theorem keeps_clearLockdown {e : Entry} : Keeps s (s.clearLockdown e).1 := by
  unfold State.clearLockdown
  split
  · exact .refl
  · split
    · exact .refl
    · dsimp only
      exact touches_setLockdownLatch.keeps.via touches_record |>.via touches_lockdownLifted |>.trans keeps_arbitrateBlower
        |>.via touches_reportWall7 |>.via touches_reportWallConsoles

theorem keeps_cassetteOut {c : CassetteId} : Keeps s (s.cassetteOut c) := by
  unfold State.cassetteOut
  exact .ite (fun _ => touches_record.keeps) fun _ => .ite (fun _ => touches_changeCassette.keeps.via touches_record) fun _ =>
    touches_changeCassette.keeps.via touches_record |>.trans keeps_raiseLockdown
      |>.via (touches_forEach (fun _ _ => touches_postHold) _ _)

end Alarm

/-! ## Nodes, restores and reports (R160, R164, R166) -/

section Bus

variable {s : State} {m : ModuleId}

theorem keeps_tellHealth : Keeps s (s.tellHealth m) := by
  unfold State.tellHealth
  dsimp only
  split
  · exact (Keeps.ite (fun _ => touches_recyclerIsolated.keeps) fun _ => .refl).via touches_arbitrate
  · exact .ite (fun _ => keeps_blowerIsolated) fun _ => keeps_arbitrateBlower
  · have h : Keeps s (match numbered 6 (s.module m).lane with
        | some l => s.evaluateNode l
        | none => s) := by
      split
      · exact touches_evaluateNode.keeps
      · exact .refl
    exact .ite (fun _ => h.via touches_envelopeIsolated) fun _ => h

theorem keeps_isolate : Keeps s (s.isolate m) := by
  unfold State.isolate
  have h : Keeps s
      (((s.dropFrames (s.module m).node).changeModule m fun e => { e with health := .isolated }).tellHealth m) :=
    touches_dropFrames.keeps.via touches_changeModule |>.trans keeps_tellHealth
  exact .ite (fun _ => h.via touches_failGo) fun _ => h

theorem keeps_setHealth {x : Health} : Keeps s (s.setHealth m x) := by
  unfold State.setHealth
  exact .ite (fun _ => .refl) fun _ => .ite (fun _ => keeps_isolate) fun _ =>
    touches_changeModule.keeps.trans keeps_tellHealth

theorem keeps_updateHealth {r : Result} : Keeps s (s.updateHealth m r) := by
  unfold State.updateHealth
  have h : Keeps s ((s.changeModule m fun _ => (s.module m).count r).forEach [96, 128, 256] fun u n =>
      if crosses n (s.module m) ((s.module m).count r) then u.announceCrossing m n else u) :=
    touches_changeModule.keeps.trans (keeps_forEach (fun _ _ => .ite (fun _ => touches_announceCrossing.keeps) fun _ => .refl) _ _)
  exact (Keeps.ite (fun _ => h.via touches_changeModule) fun _ => h).trans keeps_setHealth

theorem keeps_checkModule : Keeps s (s.checkModule m).1 := by
  unfold State.checkModule
  have h : Keeps s ((s.mapModule m fun e => { e with check := e.check.read }).tableFault (.module (numberOf m))) :=
    touches_mapModule.keeps.via touches_tableFault
  split
  · exact .refl
  · dsimp only
    split
    · exact h
    · split
      · exact h.via touches_dropFrames
      · exact h.via touches_announceCrossing |>.trans keeps_isolate

theorem keeps_restored {r : Restore} : Keeps s (s.restored r) := by
  unfold State.restored
  dsimp only
  split
  · exact touches_changeModule.keeps.trans keeps_tellHealth |>.via touches_endRestore
  · exact touches_endRestore.keeps

theorem keeps_probeEnded {k n : Nat} {b : Bool} : Keeps s (State.probeEnded k s n b) := by
  induction k generalizing s b with
  | zero => exact .refl
  | succ k ih =>
    unfold State.probeEnded
    split
    · exact .refl
    · dsimp only
      refine .ite (fun _ => .ite (fun _ => ?_) fun _ => ?_) fun _ => .ite (fun _ => ?_) fun _ => .ite (fun _ => ?_) fun _ => ?_
      · exact touches_setRestore.keeps.via touches_endRestore
      · exact touches_setRestore.keeps.trans keeps_restored
      · exact touches_setRestore.keeps.via touches_endRestore
      · exact touches_setRestore.keeps.via touches_placeProbe
      · exact touches_setRestore.keeps.via touches_placeProbe |>.trans ih

theorem keeps_beginRestore {n : Nat} : Keeps s (s.beginRestore n) := by
  unfold State.beginRestore
  exact .ite (fun _ => touches_setRestores.keeps.via touches_placeProbe) fun _ =>
    touches_setRestores.keeps.via touches_placeProbe |>.trans keeps_probeEnded

theorem keeps_restoreNode {n : Nat} : Keeps s (s.restoreNode n).state := by
  unfold State.restoreNode
  split
  · exact .refl
  · split
    · exact .refl
    · split
      · exact .refl
      · split
        · exact .refl
        · dsimp only [answer]
          exact keeps_beginRestore

theorem keeps_recyclerReport {r : ModuleReport} : Keeps s (s.recyclerReport m r) := by
  unfold State.recyclerReport
  split
  · exact touches_takePickReport.keeps
  · exact touches_takeTaken.keeps.via touches_arbitrate
  · exact touches_takeRetracted.keeps.via touches_arbitrate
  · exact keeps_cassetteOut.via touches_arbitrate
  · exact touches_cassetteIn.keeps
  · exact touches_noteValidated.keeps
  · exact touches_noteRejected.keeps
  · exact touches_noteStacked.keeps.via touches_arbitrate
  · exact touches_noteReturned.keeps.via touches_arbitrate
  · exact touches_acceptEnded.keeps.via touches_arbitrate
  · exact touches_takeDepositJam.keeps
  · exact touches_strayReport.keeps

theorem keeps_stationReport {l : Lane} {r : ModuleReport} : Keeps s (s.stationReport m l r) := by
  unfold State.stationReport
  split
  · exact touches_envelopeInserted.keeps
  · exact touches_envelopePrinted.keeps
  · exact touches_envelopeCaptured.keeps
  · exact touches_envelopeJammed.keeps
  · exact touches_envelopeEjected.keeps
  · exact keeps_takeSendPressed
  · exact keeps_takeArrived
  · exact keeps_takeSeated
  · exact keeps_takeLifted
  · exact touches_strayReport.keeps

theorem keeps_blowerReport {r : ModuleReport} : Keeps s (s.blowerReport m r) := by
  unfold State.blowerReport
  split
  · exact keeps_takeArrived
  · exact keeps_takeSeated
  · exact keeps_takeLifted
  · exact touches_strayReport.keeps

theorem keeps_takeReport {r : ModuleReport} : Keeps s (s.takeReport m r) := by
  unfold State.takeReport
  split
  · exact keeps_recyclerReport
  · exact keeps_blowerReport
  · split
    · exact keeps_stationReport
    · exact touches_strayReport.keeps

theorem keeps_takePoll {n : Nat} {b : ReplyBody} : Keeps s (s.takePoll n b) := by
  unfold State.takePoll
  split
  · exact touches_takeCondition.keeps.trans (keeps_forEach (fun _ _ => keeps_takeReport) _ _)
  · exact .refl

theorem keeps_deliver {f : Frame} {r : Result} {b : ReplyBody} : Keeps s (s.deliver f r b) := by
  unfold State.deliver
  split
  · exact touches_pickEnded.keeps
  · exact touches_retractEnded.keeps
  · exact touches_queryEnded.keeps
  · exact touches_acceptBeginEnded.keeps.via touches_arbitrate
  · exact touches_captureEnded.keeps
  · exact keeps_blowerMoveEnded
  · exact touches_goEnded.keeps
  · exact .refl
  · exact .ite (fun _ => keeps_takePoll) fun _ => .refl
  · exact keeps_probeEnded

theorem keeps_endBusExchange {x : Exchange} {r : Result} {b : ReplyBody} : Keeps s (s.endBusExchange x r b) := by
  unfold State.endBusExchange
  have h : Keeps s (s.mapBus fun k => { k with outstanding := none }) := touches_setOutstanding.keeps
  refine .ite (fun _ => h.trans keeps_deliver) fun _ => ?_
  split
  · exact h.trans keeps_deliver
  · exact .ite (fun _ => h.trans keeps_deliver) fun _ => .ite (fun _ => h.via touches_setResend |>.trans keeps_updateHealth)
      fun _ => h.trans keeps_updateHealth |>.trans keeps_deliver

theorem keeps_takeReply {r : BusReply} : Keeps s (s.takeReply r) := by
  unfold State.takeReply
  split
  · exact .refl
  · exact .ite (fun _ => .refl) fun _ => keeps_endBusExchange

theorem keeps_windowExpired : Keeps s s.windowExpired := by
  unfold State.windowExpired
  split
  · exact .refl
  · exact .ite (fun _ => keeps_endBusExchange) fun _ => .refl

/-! ## The beginning of an exchange -/

theorem keeps_withdraw {f : Frame} : Keeps s (s.withdraw f) := by
  unfold State.withdraw
  split
  · exact touches_pickWithdrawn.keeps
  · exact touches_acceptWithdrawn.keeps.via touches_arbitrate
  · exact touches_withdrawCapture.keeps
  · exact keeps_blowerMoveWithdrawn
  · exact .refl

theorem keeps_dropIsolated {f : Frame} : Keeps s (s.dropIsolated f) := by
  unfold State.dropIsolated
  split
  · exact keeps_withdraw
  · exact keeps_withdraw
  · exact .refl

section Front

variable {remove : State → State} (hr : ∀ s, Touches [.outgoing, .resend, .due] s (remove s))
include hr

theorem keeps_checkFront {f : Frame} {b : Bool} : Keeps s (s.checkFront m f b remove) := by
  unfold State.checkFront
  dsimp only
  split
  · exact .ite (fun _ => (hr s).keeps.trans keeps_withdraw) fun _ => (hr s).keeps.via touches_transmit
  · exact (hr s).keeps.via touches_transmit

theorem keeps_tryFrame {f : Frame} {b : Bool} : Keeps s (s.tryFrame f b remove) := by
  unfold State.tryFrame
  split
  · exact (hr s).keeps
  · exact .ite (fun _ => keeps_checkModule.via (hr _) |>.trans keeps_dropIsolated) fun _ =>
      .ite (fun _ => keeps_checkModule) fun _ => keeps_checkModule.trans (keeps_checkFront hr)

end Front

theorem keeps_beginExchange : Keeps s s.beginExchange := by
  unfold State.beginExchange
  refine .ite (fun _ => .refl) fun _ => ?_
  split
  · exact keeps_tryFrame fun _ => touches_setResend.mono
  · split
    · exact keeps_tryFrame fun s => (touches_setOutgoing (s := s)).mono
    · split
      · exact keeps_tryFrame fun _ => .refl
      · exact .refl

end Bus

end Sys2Proof.Machine
end

section
/-! PROOFS. Every command answers a next state and keeps the waiting commands, one request a lane and one console a credential (O3, O9). -/

namespace Sys2Proof.Machine

open Sys2Proof

-- One thread, so that the check's memory holds the stacks.
set_option Elab.async false

/-! ## Checks and the sign-offs they may bring (R19, R25) -/

section Checks

variable {s : State} {c : Console}

theorem keeps_checks {fs : List Step} (h : ∀ f ∈ fs, ∀ s, Keeps s (f s).1) : Keeps s (s.checks fs).1 := by
  induction fs generalizing s with
  | nil => exact .refl
  | cons f fs ih =>
    have hf := h f (by simp) s
    unfold State.checks
    split
    · next heq => rw [heq] at hf; exact hf
    · next heq =>
      rw [heq] at hf
      exact hf.trans (ih fun g hg => h g (by simp [hg]))

theorem keeps_ifPass {fs : List Step} {act : State → Answer} (hf : ∀ f ∈ fs, ∀ s, Keeps s (f s).1)
    (ha : ∀ s, Keeps s (act s).state) : Keeps s (s.ifPass fs act).state :=
  ifPass_state (keeps_checks hf) fun _ => (keeps_checks hf).trans (ha _)

/-- Checks of conditions alone leave the state, and pass where every one does. -/
theorem checks_needs_pass {fs : List Step} {t : State} (hn : ∀ f ∈ fs, ∃ p e, f = need p e) (h : s.checks fs = (t, none)) :
    t = s ∧ ∀ f ∈ fs, (f s).2 = none := by
  induction fs with
  | nil => cases h; exact ⟨rfl, by simp⟩
  | cons f fs ih =>
    obtain ⟨p, e, rfl⟩ := hn f (by simp)
    obtain ⟨hp, h⟩ := checks_need_pass h
    obtain ⟨ht, hfs⟩ := ih (fun f hf => hn f (by simp [hf])) h
    exact ⟨ht, List.forall_mem_cons.2 ⟨by simp [need, hp], hfs⟩⟩

/-- Checks of conditions alone, one of them that the lane has no request, and then a request that joins. -/
theorem keeps_joinBehind {l : Lane} {fs : List Step} {act : State → Answer} (hn : ∀ f ∈ fs, ∃ p e, f = need p e)
    (hr : need (fun s => (s.requestOf l).isNone) .wrongState ∈ fs)
    (ha : s.requestOf l = none → Keeps s (act s).state) : Keeps s (s.ifPass fs act).state := by
  refine ifPass_state (keeps_checks fun f hf s => ?_) fun hp => ?_
  · obtain ⟨p, e, rfl⟩ := hn f hf
    exact .refl
  · obtain ⟨ht, hfs⟩ := checks_needs_pass hn hp
    rw [ht]
    refine ha ?_
    have := hfs _ hr
    cases hx : s.requestOf l with
    | none => rfl
    | some r => rw [need, hx] at this; cases this

/-- A binding cleared. -/
theorem keeps_clearBinding : Keeps s (s.setBinding c none) := by
  refine ⟨rfl, id, fun ho d e hd hde => ?_⟩
  rw [setBinding_binding] at hd
  rw [setBinding_binding, setBinding_binding] at hde
  split at hd
  · cases hd
  · next hdc =>
    rw [if_neg hdc] at hde
    split at hde
    · exact absurd hde (by simpa using Option.isSome_iff_ne_none.1 hd)
    · exact ho d e hd hde

theorem keeps_forceSignOff : Keeps s (s.forceSignOff c) := by
  unfold State.forceSignOff
  exact keeps_clearBinding.via touches_redirect |>.via touches_breakPairsOf |>.via touches_record |>.via touches_sendCopied

theorem keeps_stepEntry : Keeps s (stepEntry c s).1 := by
  unfold stepEntry
  split
  · exact .refl
  · dsimp only
    split
    · exact touches_checkAuthority.keeps
    · split
      · exact touches_checkAuthority.keeps
      · dsimp only
        exact touches_checkAuthority.keeps.trans keeps_forceSignOff

theorem keeps_stepsWho {b : Bool} {right : Rights → Bool} : ∀ f ∈ stepsWho c b right, ∀ s, Keeps s (f s).1 := by
  intro f hf s
  simp only [stepsWho, List.mem_cons, List.not_mem_nil, or_false] at hf
  rcases hf with rfl | rfl | rfl | rfl
  case inr.inr.inl => exact keeps_stepEntry
  all_goals exact touches_need.keeps

theorem keeps_consoleSteps {b : Bool} {right : Rights → Bool} {n : Nat} :
    ∀ f ∈ stepsWho c b right ++ [stepLane c n], ∀ s, Keeps s (f s).1 := by
  intro f hf s
  rcases List.mem_append.1 hf with hf | hf
  · exact keeps_stepsWho f hf s
  · obtain rfl := List.mem_singleton.1 hf
    exact touches_stepLane.keeps

theorem keeps_onLane {fs : List Step} {n : Nat} {act : State → Lane → Answer} (hf : ∀ f ∈ fs, ∀ s, Keeps s (f s).1)
    (ha : ∀ s l, Keeps s (act s l).state) : Keeps s (s.onLane fs n act).state := by
  have h := keeps_checks (s := s) hf
  unfold State.onLane
  split
  · next heq => rw [heq] at h; exact h
  · next heq =>
    rw [heq] at h
    split
    · exact h.trans (ha _ _)
    · exact h

theorem keeps_consoleLaneOrder {st : Station} {n : Nat} {b k : Bool} {right : Rights → Bool}
    {act : State → Console → Lane → Answer} (ha : ∀ s c l, Keeps s (act s c l).state) :
    Keeps s (s.consoleLaneOrder st n b k right act).state := by
  unfold State.consoleLaneOrder
  have hb : Keeps s (if k then s.breakNamed n else s) := .ite (fun _ => touches_breakNamed.keeps) fun _ => .refl
  dsimp only
  cases st with
  | supervisor => exact hb
  | console c => exact hb.trans (keeps_onLane keeps_consoleSteps fun s l => ha s c l)

theorem keeps_sharedLaneOrder {st : Station} {n : Nat} {b : Bool} {right : Rights → Bool} {act : State → Lane → Answer}
    (ha : ∀ s l, Keeps s (act s l).state) : Keeps s (s.sharedLaneOrder st n b right act).state := by
  unfold State.sharedLaneOrder
  have hb : Keeps s (s.breakNamed n) := touches_breakNamed.keeps
  cases st with
  | supervisor => exact hb.trans (keeps_onLane (fun f hf s => (touches_supervisorSteps (ps := []) f hf s).keeps) ha)
  | console c => exact hb.trans (keeps_onLane keeps_consoleSteps ha)

end Checks

/-! ## The orders of consoles -/

section ConsoleOrders

variable {s : State} {l : Lane} {h : Sender} {st : Station} {n : Nat}

theorem keeps_signOff : Keeps s (s.signOff st).state := by
  unfold State.signOff
  split
  · exact .refl
  · split
    · exact .refl
    · split
      · exact .refl
      · dsimp only [answer]
        exact touches_breakPairsOf.keeps.via touches_redirect |>.trans keeps_clearBinding |>.via touches_record

/-- A credential that no console has is bound to a console. -/
theorem keeps_setBinding {c : Console} {b : Binding} (h : ∀ d, (s.binding d).map Binding.credential ≠ some b.credential) :
    Keeps s (s.setBinding c (some b)) := by
  refine ⟨rfl, id, fun ho d e hd hde => ?_⟩
  rw [setBinding_binding] at hd
  rw [setBinding_binding, setBinding_binding] at hde
  split at hde
  · next hdc =>
    split at hde
    · next hec => rw [hdc, hec]
    · exact absurd hde.symm (h e)
  · next hdc =>
    split at hde
    · exact absurd hde (h d)
    · rw [if_neg hdc] at hd
      exact ho d e hd hde

theorem keeps_signOn : Keeps s (s.signOn st n).state := by
  unfold State.signOn
  split
  · exact .refl
  · dsimp only
    split
    · exact .refl
    · split
      · exact .refl
      · split
        · exact .refl
        · have hread : Keeps s (s.forEach (s.reached n) State.checkAuthority) :=
            keeps_forEach (fun _ _ => touches_checkAuthority.keeps) _ _
          split
          · exact hread
          · split
            · exact hread
            · split
              · exact hread
              · next hfree =>
                refine hread.trans (keeps_setBinding fun d hd => hfree ?_) |>.via touches_record
                obtain ⟨b, hb, hc⟩ := Option.map_eq_some_iff.1 hd
                exact List.any_eq_true.2 ⟨d, List.mem_finRange d, by rw [hb]; simpa using hc⟩

theorem keeps_cancelDispense {id : Nat} : Keeps s (s.cancelDispense st n id).state := by
  unfold State.cancelDispense
  refine keeps_sharedLaneOrder fun s l => ?_
  split
  · exact .refl
  · dsimp only
    split
    · exact .refl
    · split
      · exact .refl
      · dsimp only [answer]
        exact touches_dropWork.keeps.via touches_endDispense |>.via touches_arbitrate

theorem keeps_closeDepositOrder : Keeps s (s.closeDepositOrder st n).state := by
  unfold State.closeDepositOrder
  refine keeps_sharedLaneOrder fun s l => ?_
  split
  · exact .refl
  · split
    · exact .refl
    · split
      · dsimp only [answer]
        exact touches_closeDeposit.keeps.via touches_arbitrate
      · exact .refl

theorem keeps_sendCarrier : Keeps s (s.sendCarrier h n).state := by
  unfold State.sendCarrier
  refine keeps_consoleLaneOrder fun s c l => keeps_joinBehind (l := l) (fun f hf => ?_) (by simp [checksSend]) fun hr => ?_
  · simp only [checksSend, List.cons_append, List.nil_append, List.mem_cons, List.not_mem_nil, or_false] at hf
    rcases hf with rfl | rfl | rfl | rfl | rfl | rfl | rfl <;> exact ⟨_, _, rfl⟩
  · dsimp only [answer]
    exact keeps_joinRequest hr

theorem keeps_recallCarrier : Keeps s (s.recallCarrier st n).state := by
  unfold State.recallCarrier
  refine keeps_sharedLaneOrder fun s l => keeps_joinBehind (l := l) (fun f hf => ?_) (by simp [checksRecall]) fun hr => ?_
  · simp only [checksRecall, List.mem_cons, List.not_mem_nil, or_false] at hf
    rcases hf with rfl | rfl | rfl <;> exact ⟨_, _, rfl⟩
  · dsimp only [answer]
    exact keeps_joinRequest hr

theorem keeps_openLane : Keeps s (s.openLane st n).state := by
  unfold State.openLane
  refine keeps_sharedLaneOrder fun s l => keeps_ifPass (fun f hf s => (touches_checksOpenLane f hf s).keeps) fun s => ?_
  dsimp only [answer]
  exact (framed_mapLane (ps := [.laneRecs])).keeps.via touches_record |>.via touches_announce

theorem keeps_closeLane : Keeps s (s.closeLane st n).state := by
  unfold State.closeLane
  refine keeps_sharedLaneOrder fun s l => keeps_ifPass (fun f hf s => ?_) fun s => ?_
  · rcases List.mem_pair.1 hf with rfl | rfl <;> exact touches_need.keeps
  · dsimp only [answer]
    exact (framed_mapLane (ps := [.laneRecs])).keeps.via touches_record |>.via touches_announce

theorem keeps_releaseLane : Keeps s (s.releaseLane st n).state := by
  unfold State.releaseLane
  refine keeps_sharedLaneOrder fun s l => keeps_ifPass (fun f hf s => ?_) fun s => ?_
  · simp only [checksRelease, List.mem_cons, List.not_mem_nil, or_false] at hf
    rcases hf with rfl | rfl | rfl <;> exact touches_need.keeps
  · dsimp only [answer]
    have h : Keeps s ((s.checkCopy (s.laneRec l).profile l).mapLane l fun r => { r with holds := { node := r.holds.node } }) :=
      touches_checkCopy.keeps.via (touches_mapHolds (f := fun x => { node := x.node }))
    exact (Keeps.ite (fun _ => h.via touches_leaveInDoubt) fun _ => h).via touches_record |>.via touches_settleAndAnnounce

theorem keeps_carryOut {op : MgmtOp} {e : Entry} : Keeps s (s.carryOut op e).1 := by
  cases op
  · exact touches_openExchange.keeps
  · exact touches_openSafe.keeps
  · exact keeps_clearLockdown

theorem keeps_confirm {right : Rights → Bool} {op : Option MgmtOp} : Keeps s (s.confirm st right op).state := by
  unfold State.confirm
  split
  · exact .refl
  · refine keeps_ifPass (fun f hf s => ?_) fun s => ?_
    · rcases List.mem_append.1 hf with hf | hf
      · exact keeps_stepsWho f hf s
      · obtain rfl := List.mem_singleton.1 hf
        exact touches_need.keeps
    · split
      · exact .refl
      · dsimp only [answer]
        exact touches_setManagementSlot.keeps.via touches_record |>.trans keeps_carryOut |>.via touches_send

end ConsoleOrders

/-! ## The orders that open a transaction -/

section Admissions

variable {s : State} {l : Lane} {c : Console} {h : Sender} {n a : Nat}

theorem keeps_admitDispense {p : Payer} {plan : List PlanItem} : Keeps s (s.admitDispense l p n plan).state := by
  unfold State.admitDispense
  split
  · exact .refl
  · dsimp only
    exact framed_setDispense.keeps.via touches_setLastId |>.via touches_chargeShift |>.via touches_mapRate
      |>.via touches_reserve |>.via touches_record |>.trans framed_openTxn.keeps |>.via touches_enqueueWork
      |>.via touches_arbitrate

theorem keeps_admitSession {p : Payer} : Keeps s (s.admitSession l p).state := by
  unfold State.admitSession
  dsimp only
  exact framed_setSession.keeps.via touches_reserve |>.trans framed_openTxn.keeps |>.via touches_enqueueWork
    |>.via touches_record |>.via touches_arbitrate

theorem keeps_planAndAdmit {p : Payer} : Keeps s (s.planAndAdmit l p n).state := by
  have hk : Keeps s s.readForPlan := touches_readForPlan.keeps
  unfold State.planAndAdmit
  dsimp only
  generalize s.readForPlan = t at hk
  generalize mixOf _ _ _ = x
  cases x with
  | plan items => exact hk.trans keeps_admitDispense
  | noCash => exact hk
  | noMix => exact hk

theorem keeps_stepsAdmission {fs : List Step} (hf : ∀ f ∈ fs, ∀ s, Keeps s (f s).1) :
    ∀ f ∈ stepsAdmission l ++ fs, ∀ s, Keeps s (f s).1 := fun f hm s =>
  (List.mem_append.1 hm).elim (fun hm => (touches_stepsAdmission (ps := []) f hm s).keeps) fun hm => hf f hm s

theorem keeps_dispenseSingle : Keeps s (s.dispenseSingle h n a).state := by
  unfold State.dispenseSingle
  refine keeps_consoleLaneOrder fun s c l => ?_
  simp only [List.append_assoc]
  refine keeps_ifPass (keeps_stepsAdmission fun f hf s => ?_) fun s => keeps_planAndAdmit
  simp only [List.mem_append, List.mem_singleton] at hf
  rcases hf with rfl | hf | rfl | hf
  · exact touches_need.keeps
  · exact (touches_checksLimits f hf s).keeps
  · exact touches_need.keeps
  · exact (touches_checksRoom (ps := []) f hf s).keeps

theorem keeps_dispenseFirst : Keeps s (s.dispenseFirst h n a).state := by
  unfold State.dispenseFirst
  refine keeps_consoleLaneOrder fun s c l => keeps_ifPass (keeps_stepsAdmission fun f hf s => ?_) fun s => ?_
  · rcases List.mem_pair.1 hf with rfl | rfl <;> exact touches_need.keeps
  · dsimp only [answer]
    exact touches_checkScreening.keeps.trans framed_setPair.keeps |>.via touches_record

theorem keeps_completePair {p : PairHalf} : Keeps s (s.completePair c l p n).state := by
  unfold State.completePair
  have ha : Keeps s ((s.setPair l none).ifPass checksRoom fun s => s.planAndAdmit l
      { station := p.station, credential := p.credential, index := p.index, tag := p.tag } n).state :=
    touches_clearPair.keeps.trans (keeps_ifPass (fun f hf s => (touches_checksRoom (ps := []) f hf s).keeps) fun s =>
      keeps_planAndAdmit)
  dsimp only
  split
  · exact ha.via touches_record |>.via touches_send
  · exact ha.via touches_send

theorem keeps_dispenseSecond : Keeps s (s.dispenseSecond h n a).state := by
  unfold State.dispenseSecond
  refine keeps_consoleLaneOrder fun s c l => keeps_ifPass (keeps_stepsAdmission fun f hf s => ?_) fun s => ?_
  · obtain rfl := List.mem_singleton.1 hf
    exact touches_need.keeps
  · split
    · exact .refl
    · refine keeps_ifPass (fun f hf s => ?_) fun s => keeps_completePair
      simp only [List.mem_append, List.mem_singleton] at hf
      rcases hf with (rfl | hf) | rfl
      · exact touches_checkStored.keeps
      · exact (touches_checksLimits f hf s).keeps
      · exact touches_need.keeps

theorem keeps_openDeposit : Keeps s (s.openDeposit h n).state := by
  unfold State.openDeposit
  refine keeps_consoleLaneOrder fun s c l => keeps_ifPass (keeps_stepsAdmission fun f hf s => ?_) fun s => ?_
  · exact (touches_checksDeposit (ps := []) f hf s).keeps
  · exact keeps_admitSession

end Admissions

/-! ## Management -/

section Management

variable {s : State} {h : Sender} {n : Nat}

theorem keeps_writeAuthority {w : AuthorityWrite} : Keeps s (s.writeAuthority w).state := by
  unfold State.writeAuthority
  split
  · next i rights _ _ =>
    split
    · dsimp only [answer]
      have hw : Keeps s (s.mapAuthority i fun e =>
          { e with credential := w.credential, rights := rights, perDispense := w.perDispense, shiftLimit := w.shiftLimit }) :=
        touches_mapAuthority.keeps
      exact (Keeps.ite (fun _ => hw) fun _ => hw.via touches_resetShiftOf).via touches_mapAuthority
        |>.via touches_tableWrite
        |>.trans (keeps_forEach (fun _ _ => .ite (fun _ => keeps_forceSignOff) fun _ => .refl) _ _)
    · exact .refl
  · exact .refl

theorem keeps_writeModule {e : Nat} {k : Option ModuleKind} {l : Nat} : Keeps s (s.writeModule e n k l).state := by
  unfold State.writeModule
  split
  · split
    · exact .refl
    · refine keeps_ifPass (fun f hf s => (touches_checksModule (ps := []) f hf s).keeps) fun s => ?_
      dsimp only [answer]
      exact touches_mapModule.keeps.via (touches_forEach (fun _ _ => touches_endRestore) _ _) |>.via touches_tableWrite
        |>.via touches_evaluateNodes |>.trans keeps_arbitrateBlower |>.via touches_arbitrate
  · exact .refl

theorem keeps_readEntry {t : Option TableRef} : Keeps s (s.readEntry t).state := by
  unfold State.readEntry
  split
  · exact .refl
  · split
    · exact touches_checkCopy.keeps
    · exact .refl
  · split
    · exact touches_checkAuthority.keeps
    · exact .refl
  · split
    · exact touches_checkDenomination.keeps
    · exact .refl
  · split
    · exact touches_checkCassette.keeps
    · exact .refl
  · split
    · exact touches_checkLoop.keeps
    · exact .refl
  · split
    · exact keeps_checkModule
    · exact .refl
  · exact touches_checkScreening.keeps
  · exact touches_checkPlanner.keeps
  · exact touches_checkPresenter.keeps
  · exact touches_checkDepositSetting.keeps
  · exact touches_checkDepositorySetting.keeps
  · exact touches_checkTubeSetting.keeps
  · exact touches_checkBusSetting.keeps

theorem keeps_readEveryEntry : Keeps s s.readEveryEntry := by
  unfold State.readEveryEntry
  dsimp only
  have hc : ∀ (s : State) (l : Lane), Touches [.copies, .journal, .sticky] s ((s.checkCopy .day l).checkCopy .night l) :=
    fun _ _ => touches_checkCopy.then touches_checkCopy
  exact (touches_forEach hc _ _).keeps.via (touches_forEach (fun _ _ => touches_checkAuthority) _ _)
    |>.via (touches_forEach (fun _ _ => touches_checkDenomination) _ _)
    |>.via (touches_forEach (fun _ _ => touches_checkCassette) _ _)
    |>.via (touches_forEach (fun _ _ => touches_checkLoop) _ _)
    |>.trans (keeps_forEach (fun _ _ => keeps_checkModule) _ _)
    |>.via touches_checkScreening |>.via touches_checkPlanner |>.via touches_checkPresenter
    |>.via touches_checkDepositSetting |>.via touches_checkDepositorySetting |>.via touches_checkTubeSetting
    |>.via touches_checkBusSetting

theorem keeps_goService : Keeps s s.goService.state := by
  unfold State.goService
  split
  · exact .refl
  · refine keeps_readEveryEntry.trans (keeps_ifPass (fun f hf s => (touches_checksGo (ps := []) f hf s).keeps) fun s => ?_)
    dsimp only [answer]
    have h : ∀ e w o, Keeps s ((s.mapMgmt fun m => { m with goPending := true }).placeFor e w o).1 :=
      fun e w o => touches_setGoPending.keeps.via touches_placeFor
    exact .ite (fun _ => h _ _ _) fun _ => (h _ _ _).via touches_goEnded

/-- A soft reset leaves no request and no binding. -/
theorem keeps_softReset : Keeps s s.softReset := by
  refine ⟨framed_softReset .pending (by decide), fun _ => ?_, fun _ c d hc => ?_⟩
  · unfold State.oneRequestPerLane
    rw [softReset_requests]
    exact List.nodup_nil
  · unfold State.binding at hc
    rw [softReset_screen.1] at hc
    simp at hc

theorem keeps_hardReset : Keeps s s.hardReset := by
  refine ⟨rfl, fun _ => List.nodup_nil, fun _ c d hc => ?_⟩
  simp [State.binding, State.hardReset, State.reset] at hc

theorem keeps_restart : Keeps s (s.restart h) := by
  unfold State.restart
  refine .ite (fun _ => ?_) fun _ => .refl
  dsimp only
  exact .ite (fun _ => touches_takeFrame.keeps.trans keeps_softReset |>.via touches_respond |>.via touches_send7)
    fun _ => touches_takeFrame.keeps.via touches_respond

/-! ## The orders taken -/

theorem keeps_takeOrder {k : OrderKind} {act : State → Answer} {form : List Byte → Bool} (ha : ∀ s, Keeps s (act s).state) :
    Keeps s (s.takeOrder h k act form) := by
  unfold State.takeOrder
  exact .ite (fun _ => (touches_takeFrame.keeps.trans (ha _)).via touches_respond) fun _ => .refl

theorem keeps_takeMgmt {k : OrderKind} {act : State → Answer} (ha : ∀ s, Keeps s (act s).state) :
    Keeps s (s.takeMgmt h k act) := keeps_takeOrder fun s => by
  split
  · exact ha s
  · exact .refl

theorem keeps_dispenseBy {p a : Nat} : Keeps s (s.dispenseBy h n p a).state := by
  unfold State.dispenseBy
  split
  · exact keeps_dispenseSingle
  · split
    · exact keeps_dispenseFirst
    · exact keeps_dispenseSecond

theorem keeps_unknownOrder {b : Bool} {k : Nat} {body : List Byte} : Keeps s (s.unknownOrder h b k body) := by
  unfold State.unknownOrder
  split
  · exact keeps_takeOrder fun _ => keeps_dispenseBy
  · exact keeps_takeOrder fun _ => touches_refuseForm.keeps

/-- Every command answers a next state, and keeps the three parts. -/
theorem exec_keeps (c : Instr) (s : State) : ∃ t, exec c s = .next t ∧ Keeps s t :=
  match c with
  | .hardReset => ⟨_, rfl, keeps_hardReset⟩
  | .consoleFrameReceived _ => ⟨_, rfl, keeps_forEach (fun _ _ => touches_receiveByte.keeps) _ _⟩
  | .reportQueueItemSent => ⟨_, rfl, framed_sendItem.keeps⟩
  | .signOn _ _ => ⟨_, rfl, keeps_takeOrder fun _ => keeps_signOn⟩
  | .signOff _ => ⟨_, rfl, keeps_takeOrder fun _ => keeps_signOff⟩
  | .dispenseSingle _ _ _ => ⟨_, rfl, keeps_takeOrder fun _ => keeps_dispenseSingle⟩
  | .dispenseFirst _ _ _ => ⟨_, rfl, keeps_takeOrder fun _ => keeps_dispenseFirst⟩
  | .dispenseSecond _ _ _ => ⟨_, rfl, keeps_takeOrder fun _ => keeps_dispenseSecond⟩
  | .cancelDispense _ _ _ => ⟨_, rfl, keeps_takeOrder fun _ => keeps_cancelDispense⟩
  | .openDeposit _ _ => ⟨_, rfl, keeps_takeOrder fun _ => keeps_openDeposit⟩
  | .closeDeposit _ _ => ⟨_, rfl, keeps_takeOrder fun _ => keeps_closeDepositOrder⟩
  | .sendCarrier _ _ => ⟨_, rfl, keeps_takeOrder fun _ => keeps_sendCarrier⟩
  | .recallCarrier _ _ => ⟨_, rfl, keeps_takeOrder fun _ => keeps_recallCarrier⟩
  | .openLane _ _ => ⟨_, rfl, keeps_takeOrder fun _ => keeps_openLane⟩
  | .closeLane _ _ => ⟨_, rfl, keeps_takeOrder fun _ => keeps_closeLane⟩
  | .releaseLane _ _ => ⟨_, rfl, keeps_takeOrder fun _ => keeps_releaseLane⟩
  | .confirmExchangeCassette _ _ => ⟨_, rfl, keeps_takeOrder fun _ => keeps_confirm⟩
  | .confirmEmptyDepository _ => ⟨_, rfl, keeps_takeOrder fun _ => keeps_confirm⟩
  | .confirmClearCondition _ _ => ⟨_, rfl, keeps_takeOrder fun _ => keeps_confirm⟩
  | .writeEntryLanePolicy _ _ => ⟨_, rfl, keeps_takeMgmt fun _ => touches_writeLanePolicy.keeps⟩
  | .writeEntryAuthority _ _ => ⟨_, rfl, keeps_takeMgmt fun _ => keeps_writeAuthority⟩
  | .writeEntryDenomination _ _ _ => ⟨_, rfl, keeps_takeMgmt fun _ => touches_writeDenomination.keeps⟩
  | .writeEntryCassette _ _ _ _ _ => ⟨_, rfl, keeps_takeMgmt fun _ => touches_writeCassette.keeps⟩
  | .writeEntryLoop _ _ => ⟨_, rfl, keeps_takeMgmt fun _ => touches_writeLoop.keeps⟩
  | .writeEntryModule _ _ _ _ _ => ⟨_, rfl, keeps_takeMgmt fun _ => keeps_writeModule⟩
  | .writeEntryScreening _ _ _ _ => ⟨_, rfl, keeps_takeMgmt fun _ => touches_writeScreening.keeps⟩
  | .writeEntryPlanner _ _ => ⟨_, rfl, keeps_takeMgmt fun _ => touches_writePlanner.keeps⟩
  | .writeEntryPresenter _ _ => ⟨_, rfl, keeps_takeMgmt fun _ => touches_writePresenter.keeps⟩
  | .writeEntryDeposit _ _ => ⟨_, rfl, keeps_takeMgmt fun _ => touches_writeDeposit.keeps⟩
  | .writeEntryDepository _ _ => ⟨_, rfl, keeps_takeMgmt fun _ => touches_writeDepository.keeps⟩
  | .writeEntryTube _ _ => ⟨_, rfl, keeps_takeMgmt fun _ => touches_writeTube.keeps⟩
  | .writeEntryBus _ _ => ⟨_, rfl, keeps_takeMgmt fun _ => touches_writeBus.keeps⟩
  | .readEntry _ _ => ⟨_, rfl, keeps_takeMgmt fun _ => keeps_readEntry⟩
  | .selectProfileWrite _ _ => ⟨_, rfl, keeps_takeMgmt fun _ => touches_selectWrite.keeps⟩
  | .selectProfileOperate _ _ => ⟨_, rfl, keeps_takeMgmt fun _ => touches_selectOperate.keeps⟩
  | .loadCassette _ _ _ _ => ⟨_, rfl, keeps_takeMgmt fun _ => touches_loadCassette.keeps⟩
  | .reconcileCassette _ _ _ => ⟨_, rfl, keeps_takeMgmt fun _ => touches_reconcileCassette.keeps⟩
  | .exchangeCassette _ _ => ⟨_, rfl, keeps_takeMgmt fun _ => touches_exchangeFirst.keeps⟩
  | .emptyDepository _ => ⟨_, rfl, keeps_takeMgmt fun _ => touches_storeHalf.keeps⟩
  | .clearConditionLockdown _ => ⟨_, rfl, keeps_takeMgmt fun _ => touches_storeHalf.keeps⟩
  | .clearConditionDuress _ => ⟨_, rfl, keeps_takeMgmt fun _ => touches_clearDuress.keeps⟩
  | .armLoop _ _ => ⟨_, rfl, keeps_takeMgmt fun _ => touches_armLoop.keeps⟩
  | .disarmLoop _ _ => ⟨_, rfl, keeps_takeMgmt fun _ => touches_disarmLoop.keeps⟩
  | .ackLoop _ _ => ⟨_, rfl, keeps_takeMgmt fun _ => touches_ackLoop.keeps⟩
  | .restoreNode _ _ => ⟨_, rfl, keeps_takeMgmt fun _ => keeps_restoreNode⟩
  | .resumeRecycler _ => ⟨_, rfl, keeps_takeMgmt fun _ => touches_resumeRecycler.keeps⟩
  | .clearTube _ _ => ⟨_, rfl, keeps_takeMgmt fun _ => keeps_clearTube⟩
  | .resetShift _ _ => ⟨_, rfl, keeps_takeMgmt fun _ => touches_resetShift.keeps⟩
  | .readStatus _ _ => ⟨_, rfl, keeps_takeMgmt fun _ => touches_readStatus.keeps⟩
  | .readJournal _ _ => ⟨_, rfl, keeps_takeMgmt fun _ => .refl⟩
  | .drainJournal _ _ => ⟨_, rfl, keeps_takeMgmt fun _ => framed_drainJournal.keeps⟩
  | .goService _ => ⟨_, rfl, keeps_takeMgmt fun _ => keeps_goService⟩
  | .suspend _ => ⟨_, rfl, keeps_takeMgmt fun _ => touches_suspend.keeps⟩
  | .restart _ => ⟨_, rfl, keeps_restart⟩
  | .pairTimerExpiry _ => ⟨_, rfl, touches_pairExpired.keeps⟩
  | .managementPairTimerExpiry => ⟨_, rfl, touches_managementPairExpired.keeps⟩
  | .pickReportTimerExpiry _ => ⟨_, rfl, touches_pickTimer.keeps⟩
  | .retractReportTimerExpiry _ => ⟨_, rfl, touches_retractTimer.keeps⟩
  | .presentTimerExpiry _ => ⟨_, rfl, touches_presentTimer.keeps⟩
  | .exchangeAuthorisationExpiry => ⟨_, rfl, touches_exchangeTimer.keeps⟩
  | .idleTimerExpiry _ => ⟨_, rfl, touches_idleTimer.keeps⟩
  | .endTimerExpiry _ => ⟨_, rfl, touches_endTimer.keeps⟩
  | .completionTimerExpiry _ => ⟨_, rfl, touches_completionTimer.keeps⟩
  | .safeOpeningExpiry => ⟨_, rfl, touches_safeTimer.keeps⟩
  | .restTimerExpiry => ⟨_, rfl, keeps_restTimer⟩
  | .transitTimerExpiry _ => ⟨_, rfl, keeps_transitTimer⟩
  | .armTimerExpiry _ => ⟨_, rfl, touches_armTimer.keeps⟩
  | .qualifyTimerExpiry _ => ⟨_, rfl, keeps_qualifyTimer⟩
  | .loopReading _ _ => ⟨_, rfl, touches_readLoop.keeps⟩
  | .exchangeBegin => ⟨_, rfl, keeps_beginExchange⟩
  | .wallBusReplyTaken _ => ⟨_, rfl, keeps_takeReply⟩
  | .replyWindowExpiry => ⟨_, rfl, keeps_windowExpired⟩
  | .busFrameDiscarded _ => ⟨_, rfl, .refl⟩
  | .unknownOrderKind _ _ _ _ => ⟨_, rfl, keeps_unknownOrder⟩

end Management

/-- Settles O3, by the case of each command. -/
theorem everyCommandCompletesAndKeepsTheQueue : Obligations.EveryCommandCompletesAndKeepsTheQueue := by
  unfold Obligations.EveryCommandCompletesAndKeepsTheQueue
  intro c s
  obtain ⟨t, ht, hk⟩ := exec_keeps c s
  exact ⟨t, ht, hk.pending⟩

/-- A step keeps both rules: an idle one leaves them alone, and another runs its command with the queue's rest. -/
theorem step_keeps {s t : State} (h : step s = .next t) :
    (s.oneRequestPerLane → t.oneRequestPerLane) ∧ (s.bindingsDiffer → t.bindingsDiffer) := by
  unfold step at h
  split at h
  · cases h
    exact ⟨touches_tick.keeps.requests, touches_tick.keeps.bindings⟩
  · next c rest _ =>
    obtain ⟨u, hu, hk⟩ := exec_keeps c { s with pending := rest }
    rw [hu] at h
    cases h
    exact ⟨hk.requests, hk.bindings⟩

/-- Settles O9: a request joins where its lane has none, a credential is bound where no console has it, and every other operation only
takes requests off the queue and clears bindings. -/
theorem requestsAndBindingsStayUnique : Obligations.RequestsAndBindingsStayUnique := by
  unfold Obligations.RequestsAndBindingsStayUnique
  exact ⟨fun _ _ hs ht => (step_keeps ht).1 hs, fun _ _ hs ht => (step_keeps ht).2 hs⟩

end Sys2Proof.Machine
end

section
/-! SUPPORT. What the recycler's arbiter does where the outgoing queue has a place (R54, R89, R97). -/

namespace Sys2Proof.Machine

open Sys2Proof

-- One thread, so that the check's memory holds the stacks.
set_option Elab.async false

/-- What an admission fixes of a dispense. -/
def DispenseRecord.terms (r : DispenseRecord) : Nat × Lane × Console × Nat × Nat × List PlanItem :=
  (r.id, r.lane, r.station, r.amount, r.charge, r.plan)

/-- What the sending of an entry's frame and the telling of it may change. -/
abbrev startParts : List Part := .lastTag :: .records :: .outgoing :: .held :: logParts

/-- An entry started: outside some parts nothing changes, and no dispense's terms do. -/
structure Starts (ps : List Part) (s t : State) : Prop where
  framed : Framed ps s t
  terms : ∀ i, (t.recordAt i).map DispenseRecord.terms = (s.recordAt i).map DispenseRecord.terms

section Starts

variable {s t u : State} {ps qs : List Part} {i : DispenseSlot} {l : Lane}

theorem Starts.refl : Starts ps s s := ⟨.refl, fun _ => rfl⟩

theorem Starts.then (h : Starts ps s t) (k : Starts qs t u) (hq : covers ps qs = true := by decide) : Starts ps s u :=
  ⟨h.framed.then k.framed hq, fun i => (k.terms i).trans (h.terms i)⟩

/-- What leaves the records alone leaves their terms. -/
theorem Framed.starts (h : Framed ps s t) (hr : .records ∉ ps := by decide) : Starts ps s t :=
  ⟨h, fun i => by rw [h.recordAt i hr]⟩

/-- A start, and then what leaves the records alone. -/
theorem Starts.via (h : Starts ps s t) (k : Touches qs t u) (hr : .records ∉ qs := by decide)
    (hq : covers ps qs = true := by decide) : Starts ps s u := h.then (k.framed.starts hr) hq

theorem starts_mapDispenseAt {f : DispenseRecord → DispenseRecord} (hf : ∀ r, (f r).terms = r.terms) :
    Starts startParts s (s.mapDispenseAt i f) := by
  have hn : ∀ r, ((f r).id, (f r).lane) = (r.id, r.lane) := fun r => by
    have := hf r
    simp only [DispenseRecord.terms, Prod.mk.injEq] at this ⊢
    exact ⟨this.1, this.2.1⟩
  refine ⟨(touches_mapDispenseAt hn).framed.mono, fun j => ?_⟩
  rw [mapDispenseAt_recordAt]
  split
  · next h => rw [h, Option.map_map]; exact congrArg (Option.map · _) (funext hf)
  · rfl

theorem placeFor_room {w : Owner} {o : BusOrder} (hq : s.bus.outgoing.length < 48) (e : Option ModuleId) :
    (s.placeFor e w o).2 = true := by
  unfold State.placeFor State.place
  cases e with
  | none => rfl
  | some m => dsimp only; rw [if_pos hq]

theorem sendPick_room (hq : s.bus.outgoing.length < 48) : (s.sendPick i).2 = true := by
  unfold State.sendPick
  dsimp only
  split
  · exact placeFor_room (by exact hq) _
  · rfl

theorem starts_sendPick : Starts startParts s (s.sendPick i).1 := by
  unfold State.sendPick
  dsimp only
  have h : ∀ n f, (∀ r : DispenseRecord, (f r).terms = r.terms) →
      Starts startParts s ((s.mapDispense fun d => { d with lastTag := n }).mapDispenseAt i f) := fun n f hf =>
    (Starts.refl.via touches_setLastTag).then (starts_mapDispenseAt hf)
  split
  · exact (h _ _ (by exact fun _ => rfl)).via touches_placeFor
  · exact h _ _ (by exact fun _ => rfl)

/-- A PICK that finds a place is on its way: the record enters no recovery. -/
theorem starts_startPick (hq : s.bus.outgoing.length < 48) : Starts startParts s (s.startPick i) := by
  have hroom : ((s.touchDispense i).sendPick i).2 = true := sendPick_room (by exact hq)
  have hsent : Starts startParts s ((s.touchDispense i).sendPick i).1 :=
    (starts_mapDispenseAt (by exact fun _ => rfl)).then starts_sendPick
  unfold State.startPick
  dsimp only
  rw [hroom, if_pos rfl]
  refine hsent.then (qs := startParts) (onDispense_cases (Q := Starts startParts _) (fun _ => .refl) fun r _ => ?_)
  split
  · exact (starts_mapDispenseAt (by exact fun _ => rfl)).via touches_reportDispense
  · exact .refl

theorem starts_startAccept (hq : s.bus.outgoing.length < 48) : Starts startParts s (s.startAccept l) := by
  unfold State.startAccept
  dsimp only
  rw [placeFor_room hq, if_pos rfl]
  exact Starts.refl.via touches_placeFor

/-- What the arbiter's decision may change where its frame finds a place. -/
abbrev arbiterParts : List Part := .workQueue :: .recycler :: startParts

/-- The entry started is running, and the recycler BUSY. -/
theorem starts_startEntry {e : WorkEntry} (hq : s.bus.outgoing.length < 48) :
    Starts arbiterParts s (s.startEntry e) ∧ (s.startEntry e).cash.recycler = .busy := by
  have hfirst : Starts arbiterParts s ((s.mapWork fun q => q.map fun x =>
      if x = e then { x with running := true } else x).mapCash fun k => { k with recycler := .busy }) :=
    (Starts.refl.via touches_mapWork).via touches_setRecycler
  have hsecond : ∀ {t}, Starts startParts ((s.mapWork fun q => q.map fun x =>
      if x = e then { x with running := true } else x).mapCash fun k => { k with recycler := .busy }) t →
        Starts arbiterParts s t ∧ t.cash.recycler = .busy := fun h =>
    ⟨hfirst.then h, h.framed .recycler (by decide)⟩
  unfold State.startEntry
  dsimp only
  split
  · split
    · exact hsecond (starts_startPick hq)
    · exact hsecond .refl
  · exact hsecond (starts_startAccept hq)

theorem arbitrateWith_busy (h : s.cash.recycler = .busy) (n : Nat) : State.arbitrateWith n s = s := by
  cases n with
  | zero => rfl
  | succ n => exact if_neg (by simp [State.arbiterFree, h])

/-- The arbiter starts one entry at most. -/
theorem starts_arbitrate (hq : s.bus.outgoing.length < 48) : Starts arbiterParts s s.arbitrate := by
  unfold State.arbitrate
  cases s.cash.workQueue.length with
  | zero => exact .refl
  | succ n =>
    unfold State.arbitrateWith
    split
    · split
      · obtain ⟨hs, hb⟩ := starts_startEntry (s := s) hq
        rw [arbitrateWith_busy hb]
        exact hs
      · exact .refl
    · exact .refl

end Starts

end Sys2Proof.Machine
end

section
/-! PROOFS. OPEN DEPOSIT and CLOSE DEPOSIT (O28). -/

namespace Sys2Proof.Machine

open Sys2Proof

-- One thread, so that the check's memory holds the stacks.
set_option Elab.async false

section Deposits

variable {s t : State} {l : Lane} {x : Txn}

/-- The lane BUSY with a transaction. -/
def State.withTxn (s : State) (l : Lane) (x : Txn) : State :=
  { s with lanes := { s.lanes with records := s.lanes.records.set l { s.laneRec l with state := .busy, txn := some x } } }

/-- A transaction opened on an IDLE lane without a hold makes it BUSY (R7). -/
theorem openTxn_logs (hc : (s.policy l).check = {}) (hi : (s.laneRec l).state = .idle) (hh : (s.laneRec l).holds.any = false) :
    LogsOnly (s.withTxn l x) (s.openTxn l x) := by
  have he := ((Event.refl (s := s)).mapLane (l := l) fun r => { r with txn := some x }).settleAndAnnounce (l := l) (b := s.laneRec l)
    (by rw [mapLane_policy s l l rfl]; exact hc)
  have hset : (s.mapLane l fun r => { r with txn := some x }).settle l =
      (s.mapLane l fun r => { r with txn := some x }).mapLane l fun r => { r with state := .busy } := by
    refine mapLane_congr ?_
    rw [mapLane_laneRec, if_pos rfl]
    simp [settledState, hi, hh]
  have hs : (s.mapLane l fun r => { r with txn := some x }).settle l = s.withTxn l x := by
    rw [hset]
    unfold State.mapLane State.mapLanes State.withTxn
    simp only [Fin.getElem_fin, Vector.getElem_set_self, Vector.set_set]
    rfl
  rw [hs] at he
  exact he.state

/-! ## OPEN DEPOSIT (R96) -/

/-- The session a console opens. -/
def Session.opened (p : Payer) (duress : Bool) : Session :=
  { station := p.station, reportStation := .console p.station, credential := p.credential, index := p.index, tag := p.tag
    flags := { duress := duress } }

/-- A session admitted: its slot, its transaction and its reserved outcome, and then the arbiter's start of an entry. -/
theorem admitSession_admits {p : Payer} (hs : s.soundTables = true) (hi : (s.laneRec l).state = .idle)
    (hh : (s.laneRec l).holds.any = false) (hq : s.bus.outgoing.length < 48) :
    ∃ u a, s.admitSession l p = ⟨a, .accepted, .slot (numberOf l)⟩
      ∧ LogsOnly ((s.setSession l (some (.opened p s.alarm.duress))).withTxn l .deposit) u
      ∧ u.journal.reserved = s.journal.reserved + 1 ∧ Starts arbiterParts u a := by
  have hopen := openTxn_logs (s := (s.setSession l (some (.opened p s.alarm.duress))).reserve) (l := l) (x := .deposit)
    (sound_policy (s := s) hs l) hi hh
  have hres := (framed_openTxn (s := (s.setSession l (some (.opened p s.alarm.duress))).reserve) (l := l) (t := .deposit))
    .reserved (by decide)
  generalize hu : (s.setSession l (some (.opened p s.alarm.duress))).reserve.openTxn l .deposit = u at hopen hres
  refine ⟨u, ((u.enqueueWork (.accept l)).record ((u.enqueueWork (.accept l)).sessionEntry l .sessionOpen [])).arbitrate,
    ?_, hopen, hres, ?_⟩
  · rw [← hu]
    rfl
  · have hq' : (u.enqueueWork (.accept l)).bus.outgoing.length < 48 := by
      change u.bus.outgoing.length < 48
      rw [hopen]
      exact hq
    have hrec := (touches_record (s := u.enqueueWork (.accept l))
      (e := (u.enqueueWork (.accept l)).sessionEntry l .sessionOpen [])).framed
    exact ((Starts.refl.via touches_enqueueWork).via touches_record).then
      (starts_arbitrate (by rw [hrec.bus]; exact hq'))

theorem checks_stepsAdmission_pass (hi : (s.laneRec l).state = .idle) (hl : s.alarm.lockdown = false)
    (hj : s.journalAdmits = true) (fs : List Step) : s.checks (stepsAdmission l ++ fs) = s.checks fs := by
  unfold stepsAdmission stepOpen stepNotHeld stepNotBusy stepCondition stepJournal
  simp only [List.cons_append, List.nil_append]
  rw [checks_need, if_pos (by simp [hi]), checks_need, if_pos (by simp [hi]), checks_need, if_pos (by simp [hi]), checks_need,
    if_pos (condition_unlocked hl), checks_need, if_pos hj]

theorem payerOf_bound {c : Console} {b : Binding} (hb : s.binding c = some b) (tag : Nat) :
    s.payerOf c tag = ⟨c, b.credential, b.index, tag⟩ := by
  unfold State.payerOf
  rw [hb]
  rfl

/-- An order taken whose effect ends with what the arbiter starts: its answer, and what it leaves alone. -/
theorem takeOrder_starts {h : Sender} {k : OrderKind} {act : State → Answer} {form : List Byte → Bool} {code : Code}
    {body : ResponseBody} {a : State} (hu : s.link.used < 64) (ha : act (s.takeFrame h k form) = ⟨a, code, body⟩)
    (hs : Starts arbiterParts t a) :
    ∃ v, s.takeOrder h k act form = v ∧ Answered v h k code body ∧ Starts arbiterParts t v := by
  refine ⟨_, takeOrder_room s h k act form hu, ?_⟩
  rw [ha]
  exact ⟨answered_respond .., hs.via touches_respond⟩

/-- OPEN DEPOSIT of a console that may, on a lane that may take a session. -/
theorem openDeposit_pass {h : Sender} {c : Console} {b : Binding} {n : Nat} (hs : s.soundTables = true)
    (hst : h.station = .console c) (he : s.holdsRight c b Rights.deposit) (hn : numbered 6 n = some l) (hready : s.laneReady c l)
    (hpair : s.screen.pairSlots[l] = none) (hf : s.cash.recycler ≠ .faulted) (hp : s.entryPoor s.recyclerEntry = false)
    (hw : s.cash.workQueue.length < 8) : s.openDeposit h n = s.admitSession l (s.payerOf c h.tag) := by
  obtain ⟨hpart, hserve, hidle, -, -, hlock, hjournal⟩ := hready
  have hpass : s.checks (stepsAdmission l ++ checksDeposit) = (s, none) := by
    rw [checks_stepsAdmission_pass hidle hlock hjournal]
    unfold checksDeposit
    rw [checks_need, if_pos (by simp [hf]), checks_need, if_pos (by simp [hp]), checks_need, if_pos (by simp [hw]), checks_nil]
  unfold State.openDeposit
  rw [consoleLaneOrder_pass (by rw [if_pos rfl, breakNamed_none hn hpair]) hs (.inl hpart) hst he hn hserve, ifPass_pass hpass]

/-! ## CLOSE DEPOSIT (R104, R105) -/

variable {y : Session} {m : ModuleId}

theorem setSession_setSession (y z : Option Session) : (s.setSession l y).setSession l z = s.setSession l z := by
  simp [State.setSession, State.mapDeposit]

theorem mapSession_some {f : Session → Session} (h : s.session l = some y) : s.mapSession l f = s.setSession l (some (f y)) := by
  unfold State.mapSession
  rw [h]
  rfl

/-- The session ENDING and its ACCEPT END placed. -/
def State.closing (s : State) (l : Lane) (y : Session) (m : ModuleId) : State :=
  (s.setSession l (some (s.endingSession y .close))).mapBus fun b =>
    { b with outgoing := b.outgoing ++ [s.orderTo m .deposit (.acceptEnd l)] }

theorem closeDeposit_eq (hx : s.session l = some y) (ha : y.state = .active) (hm : s.recyclerEntry = some m)
    (hq : s.bus.outgoing.length < 48) :
    s.closeDeposit l = ((s.closing l y m).reportDeposit l (.ending .close), .accepted) := by
  have hown : ∀ (u : State) z, (u.setSession l (some z)).session l = some z := fun u z => by rw [setSession_session, if_pos rfl]
  have htouch : s.touchSession l =
      s.setSession l (some { y with flags := { y.flags with duress := y.flags.duress || s.alarm.duress } }) := mapSession_some hx
  have hpost : ∀ z, (s.setSession l z).post (s.setSession l z).recyclerEntry .deposit (.acceptEnd l) =
      (s.setSession l z).mapBus fun b => { b with outgoing := b.outgoing ++ [s.orderTo m .deposit (.acceptEnd l)] } := fun z =>
    post_room (s := s.setSession l z) hm hq
  have hend : ∀ z f g, ((s.setSession l (some z)).mapBus g).mapSession l f = (s.setSession l (some (f z))).mapBus g :=
    fun z f g => congrArg (State.mapBus · g) ((mapSession_some (hown s z)).trans (setSession_setSession ..))
  unfold State.closeDeposit State.enterEnding
  dsimp only
  rw [htouch, if_pos (by rw [hown]; simp [ha]), mapSession_some (hown s _), setSession_setSession, if_neg (by decide),
    hpost, hend]
  rfl

theorem closing_event : Event s (s.closing l y m) ((s.closing l y m).reportDeposit l (.ending .close))
    (copied y.reportStation y.tag ((s.endingSession y .close).report l (.ending .close) none false)
      ((s.endingSession y .close).report l (.ending .close) none true)) [] := by
  have hown : (s.closing l y m).session l = some (s.endingSession y .close) := by
    change (s.setSession l _).session l = _
    rw [setSession_session, if_pos rfl]
  have he : Event s (s.closing l y m) (s.closing l y m) [] [] := (Event.refl.mapDeposit _).mapBus _
  unfold State.reportDeposit State.onSession
  rw [hown]
  exact he.sendCopied _ _ _ _

/-- The arbiter decides nothing while the recycler is BUSY. -/
theorem arbitrate_busy (h : s.cash.recycler = .busy) : s.arbitrate = s := arbitrateWith_busy h _

end Deposits

/-- Settles O28: an admission behind its checks, and a close that is one event. -/
theorem depositIsOpenedAndClosed : Obligations.DepositIsOpenedAndClosed := by
  unfold Obligations.DepositIsOpenedAndClosed
  refine ⟨fun s h c b n l hs he hn hready hpair hf hp hw hq => ?opened, fun s h n l x m hsup hp hn hpair hx ha hm hq hb => ?closed⟩
  case opened =>
    have hpass := openDeposit_pass (s := s.takeFrame h .openDeposit) hs he.1 (holdsRight_of_entitled he) hn hready hpair hf hp hw
    rw [payerOf_bound (s := s.takeFrame h .openDeposit) (b := b) (holdsRight_of_entitled he).bound] at hpass
    obtain ⟨u, a, ha, hl, hres, hstart⟩ := admitSession_admits (s := s.takeFrame h .openDeposit) (p := ⟨c, b.credential, b.index, h.tag⟩)
      hs hready.2.2.1 hready.2.2.2.2.1 hq
    obtain ⟨t, ht, hans, hst⟩ := takeOrder_starts (act := fun s => s.openDeposit h n) he.2.1 (hpass.trans ha) hstart
    have hk := hst.framed
    refine ⟨t, congrArg _ ht, hans, hk.deposit.trans ?_, hk.lanes.trans ?_, (hk .reserved (by decide)).trans hres,
      hk.screen.trans ?_, (hk .cassettes (by decide)).trans ?_, hk.envelope.trans ?_, hk.tube.trans ?_, hk.alarm.trans ?_,
      (hk .modules (by decide)).trans ?_⟩
    all_goals rw [hl]; rfl
  case closed =>
    obtain ⟨hst, hu⟩ := hsup
    have hclose : (s.takeFrame h .closeDeposit).closeDepositOrder h.station n =
        ⟨((s.takeFrame h .closeDeposit).closing l x m).reportDeposit l (.ending .close), .accepted, .empty⟩ := by
      have hshut : x.closable = true := by simp [Session.closable, ha]
      have he := closing_event (s := s.takeFrame h .closeDeposit) (l := l) (y := x) (m := m)
      unfold State.closeDepositOrder
      rw [hst, sharedLaneOrder_supervisor (s := s.takeFrame h .closeDeposit) hn hpair (.inr ⟨rfl, hp⟩)]
      rw [show (s.takeFrame h .closeDeposit).session l = some x from hx]
      dsimp only
      rw [if_neg (by simp), if_pos hshut, closeDeposit_eq (s := s.takeFrame h .closeDeposit) hx ha hm hq]
      dsimp only
      rw [arbitrate_busy (by rw [he.state]; exact hb)]
      rfl
    obtain ⟨t, ht, hl, htold⟩ := takeOrder_event (act := fun s => s.closeDepositOrder h.station n) hu hclose
      (closing_event (s := s.takeFrame h .closeDeposit))
    exact ⟨t, congrArg _ ht, hl, htold⟩

end Sys2Proof.Machine
end

section
/-! PROOFS. DISPENSE admitted, stored and completed (O25, O26). -/

namespace Sys2Proof.Machine

open Sys2Proof

-- One thread, so that the check's memory holds the stacks.
set_option Elab.async false

section Admissions

variable {s t u : State} {l : Lane} {p : Payer} {amount : Nat} {plan : List PlanItem} {i : DispenseSlot}

/-! ## An admission (R27, R47, R52) -/

/-- The record taken, the id issued, the charge made and the admission timed. -/
def State.charged (s : State) (i : DispenseSlot) (l : Lane) (p : Payer) (amount : Nat) (plan : List PlanItem) : State :=
  (((s.setDispense i (some (s.newDispense l p amount plan))).mapDispense fun d => { d with lastId := s.nextId }).chargeShift
    p.index amount).mapRate p.station fun w => w ++ [s.now]

/-- The state an admission leaves, but for its reserved outcome, its work entry and what is logged. -/
def State.admitted (s : State) (i : DispenseSlot) (l : Lane) (p : Payer) (amount : Nat) (plan : List PlanItem) : State :=
  (s.charged i l p amount plan).withTxn l (.dispense s.nextId)

theorem admitDispense_admits (hs : s.soundTables = true) (hi : (s.laneRec l).state = .idle)
    (hh : (s.laneRec l).holds.any = false) (hfree : ∃ i : DispenseSlot, s.dispense.records[i] = none)
    (hq : s.bus.outgoing.length < 48) :
    ∃ i u a, s.dispense.records[i] = none ∧ s.admitDispense l p amount plan = ⟨a, .accepted, .dispenseId s.nextId⟩
      ∧ LogsOnly (s.admitted i l p amount plan) u ∧ u.journal.reserved = s.journal.reserved + 1 ∧ Starts arbiterParts u a := by
  obtain ⟨i, hfind⟩ : ∃ i, ((List.finRange 8).find? fun i => (s.dispense.records[i]).isNone) = some i := by
    obtain ⟨j, hj⟩ := hfree
    refine Option.isSome_iff_exists.1 (List.find?_isSome.2 ⟨j, List.mem_finRange j, ?_⟩)
    rw [hj]
    rfl
  have hnone : s.dispense.records[i] = none := by simpa using List.find?_some hfind
  have hv : LogsOnly (s.charged i l p amount plan) ((s.charged i l p amount plan).reserve.record
      { (s.newDispense l p amount plan).entry .admitted with
        value := amount, items := plan.map fun x => (numberOf x.cassette, x.count) }) :=
    logsOnly_record (s.charged i l p amount plan).reserve _
  have hvr : ((s.charged i l p amount plan).reserve.record
      { (s.newDispense l p amount plan).entry .admitted with
        value := amount, items := plan.map fun x => (numberOf x.cassette, x.count) }).journal.reserved =
      s.journal.reserved + 1 := touches_record.framed .reserved (by decide)
  have hact : s.admitDispense l p amount plan = ⟨((((s.charged i l p amount plan).reserve.record
      { (s.newDispense l p amount plan).entry .admitted with
        value := amount, items := plan.map fun x => (numberOf x.cassette, x.count) }).openTxn l
          (.dispense s.nextId)).enqueueWork (.pick s.nextId plan false)).arbitrate, .accepted, .dispenseId s.nextId⟩ := by
    unfold State.admitDispense
    rw [hfind]
    rfl
  generalize (s.charged i l p amount plan).reserve.record _ = v at hv hvr hact
  have hopen : LogsOnly (s.admitted i l p amount plan) (v.openTxn l (.dispense s.nextId)) := by
    have hadm : LogsOnly (s.admitted i l p amount plan) (v.withTxn l (.dispense s.nextId)) := by
      rw [hv]
      rfl
    refine hadm.trans (openTxn_logs ?_ ?_ ?_)
    · rw [show v.policy l = s.policy l by rw [hv]; rfl, sound_policy hs]
    · rw [show v.laneRec l = s.laneRec l by rw [hv]; rfl, hi]
    · rw [show v.laneRec l = s.laneRec l by rw [hv]; rfl, hh]
  refine ⟨i, _, _, hnone, hact, hopen, ((framed_openTxn (s := v)) .reserved (by decide)).trans hvr,
    (Starts.refl.via touches_enqueueWork).then (starts_arbitrate ?_)⟩
  change (v.openTxn l (.dispense s.nextId)).bus.outgoing.length < 48
  rw [hopen]
  exact hq

theorem planAndAdmit_admits (hs : s.soundTables = true) (hi : (s.laneRec l).state = .idle)
    (hh : (s.laneRec l).holds.any = false) (hfree : ∃ i : DispenseSlot, s.dispense.records[i] = none)
    (hmix : mixOf (s.eligibleList []) amount s.cash.planner.value = .plan plan) (hq : s.bus.outgoing.length < 48) :
    ∃ i u a, s.dispense.records[i] = none ∧ s.planAndAdmit l p amount = ⟨a, .accepted, .dispenseId s.nextId⟩
      ∧ LogsOnly (s.admitted i l p amount plan) u ∧ u.journal.reserved = s.journal.reserved + 1 ∧ Starts arbiterParts u a := by
  have hbundle : s.bundleLimit = s.cash.planner.value := by
    unfold State.bundleLimit
    rw [show s.cash.planner.check = {} from soundTables_iff.1 hs .planner, if_neg (by decide)]
  have hplan : s.planAndAdmit l p amount = s.admitDispense l p amount plan := by
    unfold State.planAndAdmit
    rw [readForPlan_sound hs]
    dsimp only
    rw [hbundle, hmix]
  rw [hplan]
  exact admitDispense_admits hs hi hh hfree hq

/-! ## The checks of a DISPENSE (R27) -/

/-- The Rate Window of a console consulted (R38). -/
def State.rated (s : State) (c : Console) : State := s.mapRate c (recent s.now s.screen.setting.rateDuration)

theorem rated_rateWindow {c : Console} : (s.rated c).screen.rateWindows[c] =
    recent s.now s.screen.setting.rateDuration s.screen.rateWindows[c] := by
  change (s.screen.rateWindows.set c (recent s.now s.screen.setting.rateDuration s.screen.rateWindows[c]))[c] = _
  rw [Fin.getElem_fin, Vector.getElem_set_self]

theorem rateCheck_pass {c : Console} (hs : s.soundTables = true)
    (hr : (recent s.now s.screen.setting.rateDuration s.screen.rateWindows[c]).length < s.screen.setting.rateCount) :
    rateCheck c s = (s.rated c, none) := by
  unfold rateCheck
  rw [checkScreening_sound hs]
  dsimp only
  have hrated : (s.mapRate c (recent s.now s.screening.rateDuration)) = s.rated c := by
    rw [screening_sound hs]
    rfl
  rw [hrated, screening_sound (s := s.rated c) hs, rated_rateWindow, if_pos]
  exact hr

theorem checksLimits_pass {c : Console} {n a : Nat} {j : AuthId} (hs : s.soundTables = true) (hl : s.withinLimits l c j amount)
    (fs : List Step) : s.checks (checksLimits l ⟨c, n, j, a⟩ amount ++ fs) = (s.rated c).checks fs := by
  obtain ⟨-, -, hsingle, hper, hcap, hshift, hrate⟩ := hl
  have hdur : (s.condition != .duress || decide (amount ≤ (s.policy l).duressCap)) = true := by
    cases hd : s.alarm.duress with
    | false => unfold State.condition; rw [hd]; cases s.alarm.lockdown <;> rfl
    | true => simp [hcap hd]
  unfold checksLimits
  simp only [List.cons_append, List.nil_append]
  rw [checks_need, if_pos (by simpa using hsingle), checks_need, if_pos (by simpa using hper), checks_need, if_pos hdur,
    checks_need, if_pos (by simpa using hshift), checks_cons_pass s (s.rated c) _ _ (rateCheck_pass hs hrate)]

theorem checksRoom_pass (hr : s.roomToPay amount plan) : s.checks checksRoom = (s, none) := by
  obtain ⟨hfault, hpoor, hpurge, hwork, ⟨i, hi⟩, -, -⟩ := hr
  have hfree : ((List.finRange 8).any fun i => (s.dispense.records[i]).isNone) = true :=
    List.any_eq_true.2 ⟨i, List.mem_finRange i, by rw [hi]; rfl⟩
  unfold checksRoom
  rw [checks_need, if_pos (by simp [hfault]), checks_need, if_pos (by simp [hpoor]), checks_need, if_pos (by simpa using hpurge),
    checks_need, if_pos (by simpa using hwork), checks_need, if_pos hfree, checks_nil]

theorem checkAmount_pass (ha : 1 ≤ amount ∧ amount ≤ 999999) (fs : List Step) :
    s.checks (checkAmount amount :: fs) = s.checks fs := by
  unfold checkAmount
  rw [checks_need, if_pos (by simpa using ha)]

variable {h : Sender} {c : Console} {b : Binding} {n : Nat}

/-- A SINGLE that passes every check is planned and admitted for its console. -/
theorem dispenseSingle_pass (hs : s.soundTables = true) (hst : h.station = .console c)
    (he : s.holdsRight c b Rights.dispense) (hn : numbered 6 n = some l) (hready : s.laneReady c l)
    (hpair : s.screen.pairSlots[l] = none) (hlim : s.withinLimits l c b.index amount)
    (hdual : amount < (s.policy l).dualThreshold ∨ (s.policy l).dualThreshold = 999999) (hroom : s.roomToPay amount plan) :
    s.dispenseSingle h n amount = (s.rated c).planAndAdmit l ⟨c, b.credential, b.index, h.tag⟩ amount := by
  obtain ⟨hpart, hserve, hidle, -, -, hlock, hjournal⟩ := hready
  have hsingle : ∀ fs, (s.rated c).checks (checkSingle l amount :: fs) = (s.rated c).checks fs := fun fs => by
    unfold checkSingle noDual
    rw [checks_need, if_pos]
    exact decide_eq_true hdual
  have hpass : s.checks (stepsAdmission l ++ [checkAmount amount] ++
      checksLimits l ⟨c, b.credential, b.index, h.tag⟩ amount ++ [checkSingle l amount] ++ checksRoom) = (s.rated c, none) := by
    simp only [List.append_assoc, List.cons_append, List.nil_append]
    rw [checks_stepsAdmission_pass hidle hlock hjournal, checkAmount_pass ⟨hlim.1, hlim.2.1⟩, checksLimits_pass hs hlim, hsingle,
      checksRoom_pass (s := s.rated c) hroom]
  unfold State.dispenseSingle
  rw [consoleLaneOrder_pass (by rw [if_pos rfl, breakNamed_none hn hpair]) hs (.inl hpart) hst he hn hserve]
  dsimp only
  rw [payerOf_bound he.bound]
  unfold State.ifPass
  rw [hpass]

/-! ## What an admission leaves -/

theorem admitted_authority (j : AuthId) : (s.admitted i l p amount plan).authority j =
    if j = p.index then { s.authority j with
      shiftTotal := (s.authority j).shiftTotal + amount, check := (s.authority j).check.recomputed } else s.authority j := by
  have hval : p.index.val = j.val ↔ j = p.index := by rw [Fin.ext_iff, eq_comm]
  change (s.screen.authority.set p.index _)[j] = _
  simp only [Fin.getElem_fin, Vector.getElem_set, hval]
  split
  · next h => subst h; rfl
  · rfl

theorem admitted_rateWindow : (s.admitted i l p amount plan).screen.rateWindows[p.station] =
    s.screen.rateWindows[p.station] ++ [s.now] := by
  change (s.screen.rateWindows.set p.station (s.screen.rateWindows[p.station] ++ [s.now]))[p.station] = _
  rw [Fin.getElem_fin, Vector.getElem_set_self]

/-- What an admission leaves, whatever entry the arbiter then starts. -/
theorem admitted_starts {w : List Time} (hu : LogsOnly (s.admitted i l p amount plan) u)
    (hr : u.journal.reserved = s.journal.reserved + 1) (hk : Starts arbiterParts u t) (hi : s.dispense.records[i] = none)
    (hw : s.screen.rateWindows[p.station] = w) :
    t.dispense.lastId = s.nextId
      ∧ (t.authority p.index).shiftTotal = (s.authority p.index).shiftTotal + amount
      ∧ t.screen.rateWindows[p.station] = w ++ [s.now]
      ∧ t.screen.consoles = s.screen.consoles ∧ t.screen.setting = s.screen.setting
      ∧ (∀ j : AuthId, j ≠ p.index → t.authority j = s.authority j)
      ∧ t.journal.reserved = s.journal.reserved + 1
      ∧ t.lanes = (s.withTxn l (.dispense s.nextId)).lanes
      ∧ (∃ k : DispenseSlot, s.dispense.records[k] = none ∧ t.dispense.records[k].any fun r => decide (r.id = s.nextId
          ∧ r.lane = l ∧ r.station = p.station ∧ r.amount = amount ∧ r.charge = amount ∧ r.plan = plan))
      ∧ t.cash.cassettes = s.cash.cassettes ∧ t.cash.denominations = s.cash.denominations ∧ t.deposit = s.deposit
      ∧ t.envelope = s.envelope ∧ t.tube = s.tube ∧ t.alarm = s.alarm ∧ t.bus.modules = s.bus.modules := by
  obtain ⟨hf, hterms⟩ := hk
  have hscreen : t.screen = (s.admitted i l p amount plan).screen := hf.screen.trans (by rw [hu]; rfl)
  have hauth : ∀ j, t.authority j = (s.admitted i l p amount plan).authority j := fun j => by
    unfold State.authority
    rw [hscreen]
  have hown : u.recordAt i = some (s.newDispense l p amount plan) := by
    rw [hu]
    change (s.setDispense i _).recordAt i = _
    rw [setDispense_recordAt, if_pos rfl]
  refine ⟨(hf .lastId (by decide)).trans (by rw [hu]; rfl), ?_, ?_, by rw [hscreen]; rfl, by rw [hscreen]; rfl, fun j hj => ?_,
    (hf .reserved (by decide)).trans hr, hf.lanes.trans (by rw [hu]; rfl), ⟨i, hi, ?_⟩,
    (hf .cassettes (by decide)).trans (by rw [hu]; rfl), (hf .denominations (by decide)).trans (by rw [hu]; rfl),
    hf.deposit.trans (by rw [hu]; rfl), hf.envelope.trans (by rw [hu]; rfl), hf.tube.trans (by rw [hu]; rfl),
    hf.alarm.trans (by rw [hu]; rfl), (hf .modules (by decide)).trans (by rw [hu]; rfl)⟩
  · rw [hauth, admitted_authority, if_pos rfl]
  · rw [hscreen, admitted_rateWindow, hw]
  · rw [hauth, admitted_authority, if_neg hj]
  · have ht := hterms i
    rw [hown] at ht
    obtain ⟨r, hr, hrt⟩ := Option.map_eq_some_iff.1 ht
    change (t.recordAt i).any _ = true
    rw [hr]
    simp only [DispenseRecord.terms, Prod.mk.injEq] at hrt
    obtain ⟨h1, h2, h3, h4, h5, h6⟩ := hrt
    exact decide_eq_true ⟨h1, h2, h3, h4, h5, h6⟩

end Admissions

/-- Settles O25: the checks passed leave the Rate Window as consulted, and the admission follows. -/
theorem singleDispenseIsAdmitted : Obligations.SingleDispenseIsAdmitted := by
  unfold Obligations.SingleDispenseIsAdmitted
  intro s h c b n amount l plan hs he hn hready hpair hlim hdual hroom
  have hwho := holdsRight_of_entitled (k := .dispense) (form := spellsDispense n 0 amount) he
  have hpass := dispenseSingle_pass (s := s.takeFrame h .dispense (spellsDispense n 0 amount)) hs he.1 hwho hn hready hpair hlim
    hdual hroom
  obtain ⟨-, -, hidle, -, hholds, -, -⟩ := id hready
  obtain ⟨-, -, -, -, hfree, hmix, hq⟩ := id hroom
  obtain ⟨i, u, a, hi, ha, hu, hr, hk⟩ := planAndAdmit_admits (p := ⟨c, b.credential, b.index, h.tag⟩)
    (s := (s.takeFrame h .dispense (spellsDispense n 0 amount)).rated c) hs hidle hholds hfree hmix hq
  obtain ⟨t, ht, hans, hkt⟩ := takeOrder_starts (act := fun s => s.dispenseSingle h n amount) he.2.1 (hpass.trans ha) hk
  refine ⟨t, congrArg _ ht, hans, ?_, ?_, ?_⟩
  · exact admitted_starts hu hr hkt hi rated_rateWindow
  · exact (hkt.framed .pairSlots (by decide)).trans (by rw [hu]; rfl)
  · exact (hkt.framed .managementSlot (by decide)).trans (by rw [hu]; rfl)

end Sys2Proof.Machine
end

section
/-! PROOFS. DISPENSE FIRST stored, and SECOND that completes it (O26). -/

namespace Sys2Proof.Machine

open Sys2Proof

-- One thread, so that the check's memory holds the stacks.
set_option Elab.async false

section Pairs

variable {s t u : State} {l : Lane} {amount : Nat} {plan : List PlanItem} {h : Sender} {c : Console} {b : Binding} {n : Nat}

/-! ## FIRST (R30) -/

/-- The half a FIRST stores. -/
def State.firstHalf (s : State) (c : Console) (b : Binding) (amount tag : Nat) : PairHalf :=
  ⟨c, b.credential, b.index, amount, tag, s.now, s.screen.setting.pairWindow⟩

theorem dispenseFirst_pass (hs : s.soundTables = true) (hst : h.station = .console c)
    (he : s.holdsRight c b Rights.dispense) (hn : numbered 6 n = some l) (hready : s.laneReady c l)
    (hpair : s.screen.pairSlots[l] = none) (ha : 1 ≤ amount ∧ amount ≤ 999999)
    (hdual : (s.policy l).dualThreshold ≤ amount ∧ (s.policy l).dualThreshold < 999999) :
    s.dispenseFirst h n amount = ⟨(s.setPair l (some (s.firstHalf c b amount h.tag))).record
      ((s.firstHalf c b amount h.tag).entry l .pairFirst), .pairWait, .empty⟩ := by
  obtain ⟨hpart, hserve, hidle, -, -, hlock, hjournal⟩ := hready
  have hpass : s.checks (stepsAdmission l ++ [checkAmount amount, checkFirst l amount]) = (s, none) := by
    rw [checks_stepsAdmission_pass hidle hlock hjournal, checkAmount_pass ha]
    unfold checkFirst noDual
    rw [checks_need, if_pos (by exact decide_eq_true hdual), checks_nil]
  unfold State.dispenseFirst
  rw [consoleLaneOrder_pass (by rw [if_pos rfl, breakNamed_none hn hpair]) hs (.inl hpart) hst he hn hserve]
  dsimp only
  rw [ifPass_pass hpass, payerOf_bound he.bound, checkScreening_sound hs, screening_sound hs]
  rfl

/-! ## SECOND (R31) -/

variable {p : PairHalf}

/-- The payer of a stored half. -/
def PairHalf.payer (p : PairHalf) : Payer := ⟨p.station, p.credential, p.index, p.tag⟩

/-- What the pair rule asks of a SECOND and of the half stored for it. -/
structure State.pairs (s : State) (c : Console) (b : Binding) (p : PairHalf) (amount : Nat) : Prop where
  station : c ≠ p.station
  credential : b.credential ≠ p.credential
  amount : amount = p.amount
  inTime : p.timer.past s.now = false

theorem checkStored_pass (hs : s.soundTables = true) (hc : (s.authority p.index).credential = p.credential)
    (hr : (s.authority p.index).rights.dispense = true) : checkStored p s = (s, none) := by
  unfold checkStored
  rw [checkAuthority_sound hs]
  dsimp only
  rw [sound_authority hs, if_neg (by decide), if_pos ⟨hc, hr⟩]

theorem checkSecond_pass (hb : s.binding c = some b) (hp : s.pairs c b p amount) :
    s.checks [checkSecond c p amount] = (s, none) := by
  obtain ⟨hst, hcr, ham, htime⟩ := hp
  unfold checkSecond
  rw [checks_need, if_pos, checks_nil]
  rw [hb, htime]
  simp [hst, hcr, ham]

/-- A SECOND that matches the half stored for its lane completes the pair. -/
theorem dispenseSecond_pass (hs : s.soundTables = true) (hst : h.station = .console c)
    (he : s.holdsRight c b Rights.second) (hn : numbered 6 n = some l) (hready : s.laneReady c l)
    (hpair : s.screen.pairSlots[l] = some p) (hp : s.pairs c b p amount)
    (hc : (s.authority p.index).credential = p.credential) (hr : (s.authority p.index).rights.dispense = true)
    (hlim : s.withinLimits l p.station p.index amount) :
    s.dispenseSecond h n amount = (s.rated p.station).completePair c l p amount := by
  obtain ⟨hpart, hserve, hidle, -, -, hlock, hjournal⟩ := hready
  have hpass : s.checks (stepsAdmission l ++ [checkAmount amount]) = (s, none) := by
    rw [checks_stepsAdmission_pass hidle hlock hjournal, checkAmount_pass ⟨hlim.1, hlim.2.1⟩, checks_nil]
  have hrule : s.checks ([checkStored p] ++ checksLimits l ⟨p.station, p.credential, p.index, p.tag⟩ amount
      ++ [checkSecond c p amount]) = (s.rated p.station, none) := by
    simp only [List.cons_append, List.nil_append]
    rw [checks_cons_pass s s _ _ (checkStored_pass hs hc hr), checksLimits_pass hs hlim,
      checkSecond_pass (s := s.rated p.station) he.bound ⟨hp.station, hp.credential, hp.amount, hp.inTime⟩]
  unfold State.dispenseSecond
  rw [consoleLaneOrder_pass (if_neg (by decide)) hs (.inl hpart) hst he hn hserve]
  dsimp only
  rw [ifPass_pass hpass, hpair]
  dsimp only
  unfold State.ifPass
  rw [hrule]

/-- The half consumed and its dispense admitted: what is recorded and told then changes nothing else. -/
theorem completePair_admits (hs : s.soundTables = true) (hi : (s.laneRec l).state = .idle)
    (hh : (s.laneRec l).holds.any = false) (hroom : s.roomToPay amount plan) :
    ∃ i u a, s.dispense.records[i] = none ∧ s.completePair c l p amount = ⟨a, .accepted, .dispenseId s.nextId⟩
      ∧ LogsOnly ((s.setPair l none).admitted i l p.payer amount plan) u ∧ u.journal.reserved = s.journal.reserved + 1
      ∧ Starts arbiterParts u a := by
  obtain ⟨-, -, -, -, hfree, hmix, hq⟩ := id hroom
  obtain ⟨i, u, a, hnone, ha, hu, hr, hk⟩ := planAndAdmit_admits (s := s.setPair l none) (l := l) (p := p.payer) hs hi hh hfree hmix hq
  refine ⟨i, u, (a.record { p.entry l .pairComplete with
      facts := [.station2 (s.consoleEntry c .pairComplete).station (s.consoleEntry c .pairComplete).credential
        (s.consoleEntry c .pairComplete).authIndex, .tag p.tag] }).send (.console p.station) p.tag
          (.pairComplete (some s.nextId) .accepted), hnone, ?_, hu, hr, (hk.via touches_record).via touches_send⟩
  unfold State.completePair
  dsimp only
  rw [ifPass_pass (checksRoom_pass (s := s.setPair l none) hroom)]
  rw [show (s.setPair l none).planAndAdmit l
    { station := p.station, credential := p.credential, index := p.index, tag := p.tag } amount = _ from ha]
  rfl

end Pairs

/-- Settles O26: a FIRST is one event, and a SECOND admits the stored console's dispense. -/
theorem pairedDispenseIsStoredThenAdmitted : Obligations.PairedDispenseIsStoredThenAdmitted := by
  unfold Obligations.PairedDispenseIsStoredThenAdmitted
  refine ⟨fun s h c b n amount l hs he hn hready hpair ha hdual => ?first,
    fun s h c b n amount l p plan hs he hn hready hpair hst hcr ham htime hc hr hlim hroom => ?second⟩
  case first =>
    have hpass := dispenseFirst_pass (s := s.takeFrame h .dispense (spellsDispense n 1 amount)) hs he.1
      (holdsRight_of_entitled he) hn hready hpair ha hdual
    obtain ⟨t, ht, hl, htold⟩ := takeOrder_event (act := fun s => s.dispenseFirst h n amount) he.2.1 hpass
      ((Event.refl.mapScreen _).record _)
    exact ⟨t, congrArg _ ht, hl, htold⟩
  case second =>
    have hpass := dispenseSecond_pass (s := s.takeFrame h .dispense (spellsDispense n 2 amount)) hs he.1
      (holdsRight_of_entitled he) hn hready hpair ⟨hst, hcr, ham, htime⟩ hc hr hlim
    obtain ⟨-, -, hidle, -, hholds, -, -⟩ := id hready
    obtain ⟨i, u, a, hi, ha, hu, hres, hk⟩ := completePair_admits (c := c) (p := p)
      (s := (s.takeFrame h .dispense (spellsDispense n 2 amount)).rated p.station) hs hidle hholds hroom
    obtain ⟨t, ht, hans, hkt⟩ := takeOrder_starts (act := fun s => s.dispenseSecond h n amount) he.2.1 (hpass.trans ha) hk
    refine ⟨t, congrArg _ ht, hans, ?_, ?_, ?_⟩
    · exact admitted_starts hu hres hkt hi rated_rateWindow
    · exact (hkt.framed .pairSlots (by decide)).trans (by rw [hu]; rfl)
    · exact (hkt.framed .managementSlot (by decide)).trans (by rw [hu]; rfl)

end Sys2Proof.Machine
end
